-- ==== Sys2Proof/Word.lean ====
section
/-!
DEFINITION. The byte of the part's lines (R173) and the names of its windows, printers, stock types,
revenue heads and table entries (00_scope.md, "Names").
-/

namespace Sys2Proof

/-- One byte on a line (R173). -/
abbrev Byte := BitVec 8

/-- The tag field of a frame, 0 to 255 (R45). -/
abbrev Tag := Byte

/-- A window W0 to W11. -/
abbrev Window := Fin 12

/-- A printer P0 to P7. -/
abbrev PrinterId := Fin 8

/-- A stock type T0 to T3. -/
abbrev StockType := Fin 4

/-- A revenue head H0 to H7. -/
abbrev Head := Fin 8

/-- The index of a CONCESSION or SPLIT entry, 0 to 15. -/
abbrev EntryIndex := Fin 16

/-- The eight printers in order. -/
def allPrinters : List PrinterId := [0, 1, 2, 3, 4, 5, 6, 7]

/-- The twelve windows in order. -/
def allWindows : List Window := [0, 1, 2, 3, 4, 5, 6, 7, 8, 9, 10, 11]

theorem mem_allPrinters (p : PrinterId) : p ∈ allPrinters := by
  fin_cases p <;> decide

theorem mem_allWindows (w : Window) : w ∈ allWindows := by
  fin_cases w <;> decide

end Sys2Proof
end

