-- ==== Sys2Proof/Config.lean ====
section
/-!
DEFINITION. The figures the manual fixes for every Tremar 4120: capacities, ranges and codes; and the one
point on which its rules contradict each other, left free.
-/

namespace Sys2Proof.Config

/-- R1. -/
def maxPacks : Nat := 64
/-- R2. -/
def maxPackSize : Nat := 2000
/-- 00_scope.md, "Serials". -/
def maxSerial : Nat := 9999999
/-- R45: live jobs in all. -/
def maxJobs : Nat := 32
/-- R45: live jobs of one window. -/
def maxJobsPerWindow : Nat := 4
/-- R48, check 4. -/
def maxFare : Nat := 1999999
/-- R46: fields of a ticket body. -/
def maxFields : Nat := 12
/-- R46: bytes of one field. -/
def maxFieldLength : Nat := 40
/-- R46: length of a ticket body. -/
def maxBodyLength : Nat := 200
/-- R77: the main allowance of a shift. -/
def mainAllowance : Nat := 96
/-- R77: the disputed allowance of a shift. -/
def disputedAllowance : Nat := 8
/-- R120. -/
def maxVoids : Nat := 32
/-- R109: the end of an account total's range. -/
def totalLimit : Int := 2147483647
/-- R109: the largest float. -/
def maxFloat : Nat := 10000000
/-- R134: the largest declared amount. -/
def maxDeclared : Nat := 2147483647
/-- R116: a count's greatest value. -/
def countLimit : Nat := 65535
/-- R136. -/
def maxTolerance : Nat := 100000
/-- R141. -/
def maxRecounts : Nat := 3
/-- R88. -/
def maxSpoils : Nat := 256
/-- R91: the reserve of free entries. -/
def spoilReserve : Nat := 24
/-- R149. -/
def maxReports : Nat := 48
/-- R150: a repeat count's greatest value. -/
def maxRepeat : Nat := 255
/-- R151: the number counter's greatest value. -/
def maxReportNumber : Nat := 65535
/-- R188: seconds of a day. -/
def secondsPerDay : Nat := 86400
/-- R188: day numbers. -/
def dayNumbers : Nat := 65536
/-- R95: the whole, in units of a share. -/
def wholeShare : Nat := 65536
/-- R28: a BASIC printer's maximum body. -/
def basicMaxBody : Nat := 120
/-- 9.2: the largest body of a frame. -/
def maxFrameBody : Nat := 248
/-- 9.2: the smallest and largest length of a frame. -/
def minFrameLength : Nat := 2
def maxFrameLength : Nat := 250
/-- R183: the three bytes that stand for no serial. -/
def noSerial : Nat := 0xFFFFFF
/-- R183: the start value of a frame. -/
def startByte : Byte := 0xA5#8
/-- R24: the idle character of a printer line. -/
def idleByte : Byte := 0x96#8

/-- Whether a withdrawal outstanding at a print timeout stays outstanding to meet its reply, as R38 says, or is
abandoned, as R35 says. The manual says both and rules between them nowhere, so the value is free: nothing
is known of it (DESIGN CHOICE, log 10). -/
opaque withdrawalOutlivesTimeout : Bool

end Sys2Proof.Config
end

