-- ==== Sys2Proof/Syntax.lean ====
section
/-!
DEFINITION. The commands of the block: one constructor for each row of spec/opcode_table.json, with the
operands the line, the timer or the pin carries. A command of a terminal port or a printer line is a
whole sound frame (R173, R182): its port or printer, its tag and its body bytes; its kind is the row.
-/

namespace Sys2Proof

/-- One of the thirteen terminal ports (R170). -/
inductive Port where
  | window (w : Window)
  | supervisor
deriving DecidableEq, Repr

/-- A framing fault with the bytes that make it (R174, R182). -/
inductive FramingFault where
  /-- A byte other than A5h while hunting. -/
  | badStart (byte : Byte)
  /-- A length byte of 0, 1 or above 250. -/
  | badLength (length : Byte)
  /-- A frame whose received check differs from the check computed over its other bytes. -/
  | badCheck (kind tag : Byte) (body : List Byte) (check : BitVec 16)
deriving DecidableEq, Repr

/-- What makes a gap on a printer line (R24). -/
inductive GapCause where
  /-- A character that is not a valid idle mark, or one with a framing error. -/
  | character
  /-- More than 2 ms in which no character is received. -/
  | silence
deriving DecidableEq, Repr

/-- The levels of the two SPEED straps (R170): the first alone high is 1, the second alone 2. -/
abbrev Straps := Fin 4

inductive Instr where
  -- window commands
  | openShift (port : Port) (tag : Tag) (body : List Byte)
  | issue (port : Port) (tag : Tag) (body : List Byte)
  | cancel (port : Port) (tag : Tag) (body : List Byte)
  | void (port : Port) (tag : Tag) (body : List Byte)
  | refund (port : Port) (tag : Tag) (body : List Byte)
  | closeShift (port : Port) (tag : Tag) (body : List Byte)
  | declare (port : Port) (tag : Tag) (body : List Byte)
  | queryShift (port : Port) (tag : Tag) (body : List Byte)
  -- supervisor commands
  | receivePack (port : Port) (tag : Tag) (body : List Byte)
  | loadPack (port : Port) (tag : Tag) (body : List Byte)
  | unloadPack (port : Port) (tag : Tag) (body : List Byte)
  | forceUnload (port : Port) (tag : Tag) (body : List Byte)
  | writeOffPack (port : Port) (tag : Tag) (body : List Byte)
  | retirePack (port : Port) (tag : Tag) (body : List Byte)
  | readPack (port : Port) (tag : Tag) (body : List Byte)
  | testPrint (port : Port) (tag : Tag) (body : List Byte)
  | setService (port : Port) (tag : Tag) (body : List Byte)
  | resetLine (port : Port) (tag : Tag) (body : List Byte)
  | resolveDispute (port : Port) (tag : Tag) (body : List Byte)
  | readSpoils (port : Port) (tag : Tag) (body : List Byte)
  | readEntries (port : Port) (tag : Tag) (body : List Byte)
  | readShift (port : Port) (tag : Tag) (body : List Byte)
  | reopenCount (port : Port) (tag : Tag) (body : List Byte)
  | signOff (port : Port) (tag : Tag) (body : List Byte)
  | openDay (port : Port) (tag : Tag) (body : List Byte)
  | closeDay (port : Port) (tag : Tag) (body : List Byte)
  | nextFault (port : Port) (tag : Tag) (body : List Byte)
  | readFault (port : Port) (tag : Tag) (body : List Byte)
  | ackFault (port : Port) (tag : Tag) (body : List Byte)
  | readChanges (port : Port) (tag : Tag) (body : List Byte)
  | silenceAlarm (port : Port) (tag : Tag) (body : List Byte)
  | selectEntry (port : Port) (tag : Tag) (body : List Byte)
  | readEntry (port : Port) (tag : Tag) (body : List Byte)
  | writeEntry (port : Port) (tag : Tag) (body : List Byte)
  | setClock (port : Port) (tag : Tag) (body : List Byte)
  | readOffice (port : Port) (tag : Tag) (body : List Byte)
  -- terminal port events
  | unknownKind (port : Port) (kind : Byte) (tag : Tag)
  | frameError (port : Port) (cause : FramingFault)
  | frameGap (port : Port)
  | lineBreak (port : Port)
  | attach (port : Port)
  -- printer frames
  | capability (printer : PrinterId) (tag : Tag) (body : List Byte)
  | status (printer : PrinterId) (tag : Tag) (body : List Byte)
  | printed (printer : PrinterId) (tag : Tag) (body : List Byte)
  | jammed (printer : PrinterId) (tag : Tag) (body : List Byte)
  | withdrawn (printer : PrinterId) (tag : Tag) (body : List Byte)
  | tooLate (printer : PrinterId) (tag : Tag) (body : List Byte)
  | top (printer : PrinterId) (tag : Tag) (body : List Byte)
  | printerFrameError (printer : PrinterId) (cause : FramingFault)
  | printerFrameGap (printer : PrinterId)
  -- printer line events
  | idleMark (printer : PrinterId)
  | linkGap (printer : PrinterId) (cause : GapCause)
  | settleTimer (printer : PrinterId)
  | silenceTimer (printer : PrinterId)
  | jabber (printer : PrinterId)
  | jabberQuiet (printer : PrinterId)
  | capabilityWait (printer : PrinterId)
  | printTimer (printer : PrinterId)
  | pauseTimer (printer : PrinterId)
  | withdrawalTimer (printer : PrinterId)
  | queryTimer (printer : PrinterId)
  | loadAnswerTimer (printer : PrinterId)
  | unloadAnswerTimer (printer : PrinterId)
  -- issue queue events
  | grant (printer : PrinterId)
  | jobWait (window : Window) (tag : Tag)
  | routeWait (window : Window) (tag : Tag)
  -- office events
  | clockPulse
  | alarmIn (active : Bool)
  | activityPulse (printer : PrinterId)
  | flash (printer : PrinterId)
  | resetAsserted
  | resetReleased (straps : Straps)
  | powerUp (backupGood : Bool) (straps : Straps)
  | powerFail
  | printerUnknownKind (printer : PrinterId) (kind : Byte)
  | frameSent (port : Port)
deriving DecidableEq, Repr

end Sys2Proof
end

