-- ==== Sys2Proof/Decode.lean ====
section
/-!
DEFINITION. The decoder of words: spec/opcode_table.json gives no row any bits, so no word spells a
command. The frames of the lines are taken by Machine/Take.lean, byte for byte.
-/

namespace Sys2Proof

/-- The command that the low `nbits` bits of `w` spell by the table's bits: none, for the table gives
none. -/
def decodeTableWord (_nbits _w : Nat) : Option Instr := none

end Sys2Proof
end

