-- ==== Sys2Proof/Machine/State.lean ====
section
/-!
DEFINITION. The state of the Tremar 4120 as plain data: every record, list, flag, timer, pin and table
the manual names, one home each, and the state at the end of a cold start (R186).
-/

namespace Sys2Proof.Machine

/-! ## Small vocabularies -/

/-- A time of day in seconds and a day number (R188). -/
structure Stamp where
  time : Nat
  day : Nat
deriving DecidableEq, Repr

/-- R46. -/
inductive Tender where
  | cash | card | warrant
deriving DecidableEq, Repr

/-- One figure for each tender. -/
structure Tenders (α : Type) where
  cash : α
  card : α
  warrant : α
deriving DecidableEq, Repr

/-- R185: the kind of a start. -/
inductive StartKind where
  | cold | warm
deriving DecidableEq, Repr

/-- R185: whether the part runs, is held by RESET with a start due at its release, or has no power. -/
inductive Phase where
  | running
  | held (due : StartKind)
  | off
deriving DecidableEq, Repr

/-- A job named by window and tag together (R45). -/
structure JobRef where
  window : Window
  tag : Tag
deriving DecidableEq, Repr

/-! ## Frames and ports (R170 to R174) -/

/-- A frame from the part: its kind, tag and body. The start, length and check are computed. -/
structure Frame where
  kind : Byte
  tag : Tag
  body : List Byte
deriving DecidableEq, Repr

/-- The receiver of a terminal port (R173, R174). -/
inductive Receiver where
  /-- Hunting, the last byte having ended a sound frame, or the port having just attached. -/
  | fresh
  /-- Hunting after a framing fault: a further bad start is not answered. -/
  | hunting
  /-- Receiving a frame, with the bytes received so far. -/
  | receiving (bytes : List Byte)
deriving DecidableEq, Repr

/-- A port record (R170). The first frame of `tx` is the one being sent. -/
structure PortRecord where
  attached : Bool
  rx : Receiver
  tx : List Frame
deriving DecidableEq, Repr

def PortRecord.start : PortRecord := { attached := false, rx := .hunting, tx := [] }

/-- The table cursor: a table and an entry index in it (R178). -/
inductive Cursor where
  | concession (i : EntryIndex)
  | split (i : EntryIndex)
  | routing (p : PrinterId)
  | fallback (t : StockType)
  | tolerance (t : Tender)
  | limits
deriving DecidableEq, Repr

/-! ## Blank stock (R1 to R3) -/

inductive Location where
  | safe
  | loaded (p : PrinterId)
  | compromised
deriving DecidableEq, Repr

/-- A pack record (R2). -/
structure Pack where
  id : Nat
  stock : StockType
  first : Nat
  last : Nat
  next : Nat
  location : Location
  loadCheck : Option PrinterId
  compromisedAt : Option PrinterId
  issued : Nat
  spoiled : Nat
  dayMark : Nat
  received : Stamp
deriving DecidableEq, Repr

/-! ## Printer lines (R24 to R44) -/

/-- R24. -/
inductive Link where
  | down | settling | up | jabber
deriving DecidableEq, Repr

/-- R28: what a printer can carry. -/
structure Capability where
  types : BitVec 4
  maxBody : Nat
  staging : Bool
  model : Nat
  basic : Bool
deriving DecidableEq, Repr

/-- R31: the four condition flags. -/
structure Conditions where
  paused : Bool
  coverOpen : Bool
  headFault : Bool
  jamPresent : Bool
deriving DecidableEq, Repr

def Conditions.clear : Conditions :=
  { paused := false, coverOpen := false, headFault := false, jamPresent := false }

/-- R30. -/
inductive Service where
  | absent | negotiating | faulted | recovering | stockHold | outOfService | loading | paused | empty | ready
deriving DecidableEq, Repr

/-- A ticket record (R33). `owner` is none for a test print. -/
structure Ticket where
  owner : Option JobRef
  pack : Nat
  serial : Nat
  reserved : Bool
deriving DecidableEq, Repr

/-- The uncertain range (R40): one charge for each serial from `first` on, none for a test print. -/
structure Range where
  pack : Nat
  first : Nat
  charges : List (Option JobRef)
  disputed : Bool
deriving DecidableEq, Repr

/-- Which of its two TOP REPORTs a query has sent (R14, R17, R41). -/
inductive Attempt where
  | first | second
deriving DecidableEq, Repr

/-- A load check outstanding (R13, R14), with the tag LOAD DONE will carry (R177). -/
structure LoadCheck where
  pack : Nat
  tag : Tag
  attempt : Attempt
deriving DecidableEq, Repr

/-- An unload check outstanding (R15, R17), with the tag UNLOAD DONE will carry (R177). -/
structure UnloadCheck where
  tag : Tag
  attempt : Attempt
deriving DecidableEq, Repr

/-- A test print outstanding (R69, R70), with the tag TEST DONE will carry (R177). -/
structure TestPrint where
  tag : Tag
  fields : List (List Byte)
  sent : Bool
deriving DecidableEq, Repr

/-- A pool arbiter (R54, R55). -/
structure Arbiter where
  rotation : Window
  holder : Option JobRef
  burst : Nat
deriving DecidableEq, Repr

def Arbiter.start : Arbiter := { rotation := 11, holder := none, burst := 0 }

/-- A printer's change flags (R163). -/
structure PrinterFlags where
  link : Bool
  service : Bool
  stock : Bool
  conditions : Bool
deriving DecidableEq, Repr

def PrinterFlags.clear : PrinterFlags :=
  { link := false, service := false, stock := false, conditions := false }

inductive Aspect where
  | off | flash | on
deriving DecidableEq, Repr

/-- A bay lamp (R168). -/
structure Lamp where
  aspect : Aspect
  lit : Bool
  pulse : Bool
deriving DecidableEq, Repr

def Lamp.dark : Lamp := { aspect := .off, lit := false, pulse := false }

/-- All that one printer line controller, its arbiter and its lamp hold. -/
structure Printer where
  link : Link
  quiet : Bool
  capabilityWait : Bool
  capability : Option Capability
  conditions : Conditions
  mismatch : Bool
  printTimeout : Bool
  stockHold : Bool
  pool : Bool
  outOfService : Bool
  loaded : Option Nat
  printing : Option Ticket
  staged : Option Ticket
  printTimer : Bool
  pauseTimer : Option Nat
  withdrawal : Bool
  range : Option Range
  query : Option Attempt
  loadCheck : Option LoadCheck
  unloadCheck : Option UnloadCheck
  test : Option TestPrint
  arbiter : Arbiter
  flags : PrinterFlags
  lamp : Lamp
  sent : List Frame
deriving DecidableEq, Repr

/-- R44, R72: a printer line after a cold start. -/
def Printer.start : Printer :=
  { link := .down, quiet := false, capabilityWait := false, capability := none,
    conditions := .clear, mismatch := false, printTimeout := false, stockHold := false,
    pool := true, outOfService := false, loaded := none, printing := none, staged := none,
    printTimer := false, pauseTimer := none, withdrawal := false, range := none, query := none,
    loadCheck := none, unloadCheck := none, test := none, arbiter := .start,
    flags := .clear, lamp := .dark, sent := [] }

/-! ## Issue jobs (R45 to R50) -/

/-- R46: the outcome an ENDING job carries. -/
inductive Ending where
  | cancelled | recordFull | detached
deriving DecidableEq, Repr

inductive JobState where
  | queued
  | active
  | ending (outcome : Ending)
deriving DecidableEq, Repr

/-- R66, in its order. -/
inductive JobOutcome where
  | complete | cancelled | noPrinter | printerUnavailable | recordFull | detached
deriving DecidableEq, Repr

/-- A job record (R46), with its two wait timers (R62, R63) and the amount charged (R66). `target` is
none for a pool job. A wait timer holds the length in seconds it started with (R180). -/
structure Job where
  ref : JobRef
  target : Option PrinterId
  stock : StockType
  concession : EntryIndex
  split : EntryIndex
  tender : Tender
  baseFare : Nat
  unit : Nat
  quantity : Nat
  printed : Nat
  jamSpoiled : Nat
  state : JobState
  fields : List (List Byte)
  routePassed : Bool
  current : Option PrinterId
  lastEntry : Option Nat
  charged : Int
  jobWait : Option Nat
  routeWait : Option Nat
deriving DecidableEq, Repr

/-! ## Spoil list (R88) -/

inductive Cause where
  | jam | linkLost | missing | test | writtenOff
deriving DecidableEq, Repr

/-- A spoil run (R88). `charged` holds the window charged and the job tag, present together. -/
structure SpoilRun where
  pack : Nat
  first : Nat
  count : Nat
  cause : Cause
  printer : Option PrinterId
  charged : Option JobRef
  time : Stamp
deriving DecidableEq, Repr

/-! ## Fare tables (R96, R98) -/

structure Concession where
  valid : Bool
  discount : Nat
  minimum : Nat
  step : Nat
deriving DecidableEq, Repr

/-- R96: the form of an invalid entry. -/
def Concession.invalid : Concession := { valid := false, discount := 0, minimum := 0, step := 1 }

structure Part where
  head : Head
  share : Nat
deriving DecidableEq, Repr

/-- R98: the parts of a split entry in order; no part makes it invalid. -/
abbrev Split := List Part

/-! ## Shift accounts (R109, R117, R120, R139) -/

inductive ShiftState where
  | idle | opened | draining | counting | declared | signedOff
deriving DecidableEq, Repr

inductive Allowance where
  | main | disputed
deriving DecidableEq, Repr

/-- An issue entry (R117). Its number is its place in the shift's list. -/
structure Entry where
  allowance : Allowance
  tag : Tag
  pack : Nat
  first : Nat
  count : Nat
  unit : Nat
  tender : Tender
  concession : EntryIndex
  split : EntryIndex
  disputed : Bool
  readSerial : Option Nat
  writtenOff : Bool
deriving DecidableEq, Repr

/-- R120. -/
structure VoidRecord where
  pack : Nat
  serial : Nat
  time : Stamp
deriving DecidableEq, Repr

inductive TenderClass where
  | balanced | over | short
deriving DecidableEq, Repr

/-- R137. -/
inductive Overall where
  | balanced | out | limited
deriving DecidableEq, Repr

/-- R138. -/
inductive StockStatus where
  | clear | uncertain | disputed
deriving DecidableEq, Repr

/-- R139. -/
structure Declaration where
  declared : Tenders Nat
  expected : Tenders Int
  tolerances : Tenders Nat
  variances : Tenders Int
  classes : Tenders TenderClass
  result : Overall
  status : StockStatus
  recount : Nat
  time : Stamp
deriving DecidableEq, Repr

/-- A shift record (R109). -/
structure Shift where
  state : ShiftState
  float : Nat
  openedAt : Option Stamp
  tenders : Tenders Int
  heads : Vector Int 8
  tickets : Nat
  voidCount : Nat
  refunds : Nat
  spoils : Nat
  limited : Bool
  reservations : Nat
  entries : List Entry
  voids : List VoidRecord
  declaration : Option Declaration
  recount : Nat
  signedOffAt : Option Stamp
deriving DecidableEq, Repr

/-- R109: the empty record of an IDLE shift. -/
def Shift.empty : Shift :=
  { state := .idle, float := 0, openedAt := none,
    tenders := { cash := 0, card := 0, warrant := 0 }, heads := Vector.replicate 8 0,
    tickets := 0, voidCount := 0, refunds := 0, spoils := 0, limited := false, reservations := 0,
    entries := [], voids := [], declaration := none, recount := 0, signedOffAt := none }

/-- A window's change flags (R163). -/
structure WindowFlags where
  line : Bool
  shift : Bool
deriving DecidableEq, Repr

def WindowFlags.clear : WindowFlags := { line := false, shift := false }

/-! ## Fault table (R149 to R157) -/

inductive Severity where
  | info | warning | fault | critical
deriving DecidableEq, Repr

inductive Source where
  | printer (p : PrinterId)
  | window (w : Window)
  | office
deriving DecidableEq, Repr

/-- The report kinds, in the order of the table of R152. -/
inductive Kind where
  | linkLost | jabber | capabilityBasic | coverOpen | headFault | jam | printTimeout | pauseTimeout
  | lowStock | packExhausted | serialDispute | loadMismatch | missingBlanks | recoverySpoil | protocol
  | lineBreak | frameError | shiftVariance | shiftLimited
  | accountabilityHold | externalAlarm | coldStart | tableFull
deriving DecidableEq, Repr

inductive ReportState where
  | opened | acknowledged | cleared
deriving DecidableEq, Repr

/-- A report (R150). Its severity is fixed by its kind. `active` is absent for an event kind. -/
structure Report where
  number : Nat
  source : Source
  kind : Kind
  state : ReportState
  firstAt : Stamp
  lastAt : Stamp
  repeats : Nat
  active : Option Bool
  serial : Option Nat
  pack : Option Nat
  window : Option Window
  jobTag : Option Tag
  recount : Option Nat
  folded : Option (Source × Kind)
deriving DecidableEq, Repr

/-- R186: the report a cold start leaves. -/
def Report.coldStart : Report :=
  { number := 1, source := .office, kind := .coldStart, state := .opened,
    firstAt := { time := 0, day := 0 }, lastAt := { time := 0, day := 0 }, repeats := 1,
    active := none, serial := none, pack := none, window := none, jobTag := none, recount := none,
    folded := none }

/-- A ROUTING entry (R164). -/
structure Route where
  windows : BitVec 12
  minimum : Severity
deriving DecidableEq, Repr

def Route.start : Route := { windows := 0#12, minimum := .fault }

/-- The LIMITS settings (R180), times in seconds. -/
structure Limits where
  burst : Nat
  pause : Nat
  routeWait : Nat
  jobWait : Nat
  lowStock : Nat
  latches : BitVec 8
  alarmEnable : Bool
deriving DecidableEq, Repr

def Limits.start : Limits :=
  { burst := 8, pause := 30, routeWait := 45, jobWait := 120, lowStock := 20, latches := 0#8,
    alarmEnable := true }

/-! ## The machine -/

structure State where
  phase : Phase
  resetPin : Bool
  lastStart : StartKind
  speed : Straps
  clock : Stamp
  clockUnset : Bool
  ports : Vector PortRecord 12
  svPort : PortRecord
  cursor : Cursor
  packs : List Pack
  printers : Vector Printer 8
  jobs : List Job
  spoils : List SpoilRun
  concessions : Vector Concession 16
  splits : Vector Split 16
  shifts : Vector Shift 12
  dayOpen : Bool
  reports : List Report
  reserved : Option Report
  counter : Nat
  windowFlags : Vector WindowFlags 12
  routing : Vector Route 8
  alarmIn : Bool
  silenced : Bool
  alarm : Bool
  fallback : Vector (Option PrinterId) 4
  tolerance : Tenders Nat
  limits : Limits
  pending : List Instr
deriving DecidableEq, Repr

/-- The state at the end of a cold start (R186) with both SPEED straps low and RESET released. -/
def State.reset : State :=
  { phase := .running, resetPin := false, lastStart := .cold, speed := 0,
    clock := { time := 0, day := 0 }, clockUnset := true,
    ports := Vector.replicate 12 .start, svPort := .start, cursor := .concession 0,
    packs := [], printers := Vector.replicate 8 .start, jobs := [], spoils := [],
    concessions := (Vector.replicate 16 Concession.invalid).set 0
      { valid := true, discount := 0, minimum := 0, step := 1 },
    splits := (Vector.replicate 16 ([] : Split)).set 0 [{ head := 0, share := 65536 }],
    shifts := Vector.replicate 12 .empty, dayOpen := false,
    reports := [.coldStart], reserved := none, counter := 2,
    windowFlags := Vector.replicate 12 .clear, routing := Vector.replicate 8 .start,
    alarmIn := false, silenced := false, alarm := false,
    fallback := Vector.replicate 4 none, tolerance := { cash := 0, card := 0, warrant := 0 },
    limits := .start, pending := [] }

/-! ## How a step can stop -/

/-- The reasons a step can stop with a fault. -/
inductive Fault where
  /-- Raised by a command whose operands describe no event of its row (an UNKNOWN_KIND with a command
  kind, a bad check that agrees with the check computed). Safe: no line carries such an event. -/
  | illFormed
deriving DecidableEq, Repr

/-- The reasons a step can refuse. -/
inductive Refusal where
  /-- Raised by exec for a row that has no meaning yet. Safe: the step says nothing. -/
  | notModelled (mnemonic : String)
deriving DecidableEq, Repr

end Sys2Proof.Machine
end

