-- ==== Sys2Proof/Machine/Fare.lean ====
section
/-!
DEFINITION. The fare unit's two computations (R95, R103, R105, R106) and the forms its table entries
are written in (R97, R99).
-/

namespace Sys2Proof.Machine

/-- R95: convergent division by 65536: to the nearest, an exact half to the even neighbour. -/
def convergent (x : Nat) : Nat :=
  let q := x / Config.wholeShare
  let r := x % Config.wholeShare
  if r < 32768 then q
  else if 32768 < r then q + 1
  else if q % 2 = 0 then q else q + 1

/-- R103: the unit charge of base fare `fare` under a concession. -/
def unitCharge (fare : Nat) (c : Concession) : Nat :=
  let discounted := fare - convergent (fare * c.discount)
  max (discounted - discounted % c.step) (min c.minimum fare)

/-- R105: the portions of the parts of a split, `before` being the cumulative portion so far. -/
def portionsFrom (amount : Nat) : Nat → Split → List (Head × Int)
  | _, [] => []
  | before, part :: rest =>
    let upTo := convergent (amount * part.share)
    (part.head, (upTo : Int) - before) :: portionsFrom amount upTo rest

/-- R105, R106: an amount divided over the parts of a split, a negative one by its magnitude. -/
def apportion (amount : Int) (split : Split) : List (Head × Int) :=
  (portionsFrom amount.natAbs 0 split).map fun hp => (hp.1, if amount < 0 then -hp.2 else hp.2)

/-- R98: the cumulative shares do not decrease, and the last is the whole. -/
def Split.sound (split : Split) : Bool :=
  (split.zip split.tail).all (fun ab => ab.1.share ≤ ab.2.share)
    && split.getLast?.elim true (·.share == Config.wholeShare)

/-- R96: a step is 1, 5, 10 or 50. -/
def stepAllowed (n : Nat) : Bool := n == 1 || n == 5 || n == 10 || n == 50

end Sys2Proof.Machine
end

