-- ==== Sys2Proof/Machine/Wire.lean ====
section
/-!
DEFINITION. Bytes on the lines: numbers sent high byte first (R183), the frame check (R173), the frame
as it stands on a line (section 9.2), and the fields of a ticket body (R46, R183).
-/

namespace Sys2Proof.Machine

/-- The number in `width` bytes from byte `off` of a body, high byte first (R183). -/
def num (body : List Byte) (off width : Nat) : Nat :=
  ((body.drop off).take width).foldl (fun n b => n * 256 + b.toNat) 0

/-- A number in `width` bytes, high byte first (R183). -/
def be : Nat → Nat → List Byte
  | 0, _ => []
  | width + 1, n => be width (n / 256) ++ [BitVec.ofNat 8 n]

/-- A signed field: two's complement in `width` bytes (R183). -/
def beInt (width : Nat) (i : Int) : List Byte := be width (i % (256 ^ width : Nat)).toNat

/-- An absent field: every byte FFh (R183). -/
def absent (width : Nat) : List Byte := List.replicate width 0xFF#8

/-- An optional number field (R183). -/
def beOpt (width : Nat) (n : Option Nat) : List Byte := n.elim (absent width) (be width)

/-- An optional pack id, absent as 0 (R183). -/
def bePack (n : Option Nat) : List Byte := be 2 (n.getD 0)

def beBool (b : Bool) : List Byte := [if b then 1#8 else 0#8]

/-- A time: the time of day in 3 bytes and the day number in 2 (R183). -/
def beStamp (t : Stamp) : List Byte := be 3 t.time ++ be 2 t.day

def beStampOpt (t : Option Stamp) : List Byte := t.elim (absent 5) beStamp

/-- R173: one data bit taken into the remainder. -/
def checkBit (r : BitVec 16) (b : Bool) : BitVec 16 :=
  if r.getLsbD 15 != b then (r <<< 1) ^^^ 0x1021#16 else r <<< 1

/-- R173: one byte taken, most significant bit first. -/
def checkByte (r : BitVec 16) (b : Byte) : BitVec 16 :=
  [7, 6, 5, 4, 3, 2, 1, 0].foldl (fun r i => checkBit r (b.getLsbD i)) r

/-- R173: the check over the length, kind, tag and body bytes. -/
def checkOf (bytes : List Byte) : BitVec 16 := bytes.foldl checkByte 0xFFFF#16

/-- The bytes a check covers in a frame of this kind, tag and body (R173). -/
def covered (kind tag : Byte) (body : List Byte) : List Byte :=
  BitVec.ofNat 8 (body.length + 2) :: kind :: tag :: body

/-- The frame as it stands on the line (section 9.8, "The frame"). -/
def Frame.line (f : Frame) : List Byte :=
  Config.startByte :: covered f.kind f.tag f.body ++ be 2 (checkOf (covered f.kind f.tag f.body)).toNat

/-- A framing fault that its bytes do make (R174); on a printer line the idle character is no bad start
(R182). -/
def genuine (cause : FramingFault) (printerLine : Bool) : Bool :=
  match cause with
  | .badStart b => b != Config.startByte && !(printerLine && b == Config.idleByte)
  | .badLength l => l.toNat < Config.minFrameLength || Config.maxFrameLength < l.toNat
  | .badCheck kind tag body check =>
    body.length ≤ Config.maxFrameBody && check != checkOf (covered kind tag body)

/-- R183: the fields of a ticket body: `n` times a length byte and that many bytes, with nothing over. -/
def splitFields : Nat → List Byte → Option (List (List Byte))
  | 0, bytes => if bytes = [] then some [] else none
  | _ + 1, [] => none
  | n + 1, l :: rest =>
    if l.toNat ≤ rest.length then
      (splitFields n (rest.drop l.toNat)).map (rest.take l.toNat :: ·)
    else none

/-- R46: the body length, the number of fields plus the sum of their lengths. -/
def bodyLength (fields : List (List Byte)) : Nat := (fields.map fun f => f.length + 1).sum

/-- The fields as they are sent (R183). -/
def fieldBytes (fields : List (List Byte)) : List Byte :=
  (fields.map fun f => BitVec.ofNat 8 f.length :: f).flatten

/-- R48 check 8 and R69 check 2: the ticket body that a field count and the bytes after it spell, none
where it breaks its limits. -/
def ticketBody (count : Nat) (bytes : List Byte) : Option (List (List Byte)) :=
  if 1 ≤ count ∧ count ≤ Config.maxFields then
    match splitFields count bytes with
    | some fields =>
      if (fields.all fun f => f.length ≤ Config.maxFieldLength) ∧ bodyLength fields ≤ Config.maxBodyLength then
        some fields
      else none
    | none => none
  else none

end Sys2Proof.Machine
end

