-- ==== Sys2Proof/Machine/Ops.lean ====
section
/-!
DEFINITION. The named reads and updates of the state, and what the manual derives from it: counts of a
pack (R2), the service state (R30), the hold (R91), whether a printer can take a ticket (R33), what a job
and a window have in flight (R47, R78), the allowances of a shift (R77), the table lock (R101).
-/

namespace Sys2Proof.Machine

/-- The part takes and sends frames (R185). -/
def State.running (s : State) : Bool := s.phase == .running

/-! ## Tenders -/

def Tenders.get {α : Type} (t : Tenders α) : Tender → α
  | .cash => t.cash
  | .card => t.card
  | .warrant => t.warrant

def Tenders.set {α : Type} (t : Tenders α) (k : Tender) (a : α) : Tenders α :=
  match k with
  | .cash => { t with cash := a }
  | .card => { t with card := a }
  | .warrant => { t with warrant := a }

def Tenders.map {α β : Type} (f : Tender → α → β) (t : Tenders α) : Tenders β :=
  { cash := f .cash t.cash, card := f .card t.card, warrant := f .warrant t.warrant }

/-! ## Ports -/

def State.port (s : State) : Port → PortRecord
  | .window w => s.ports[w]
  | .supervisor => s.svPort

def State.modPort (s : State) (port : Port) (f : PortRecord → PortRecord) : State :=
  match port with
  | .window w => { s with ports := s.ports.set w (f s.ports[w]) }
  | .supervisor => { s with svPort := f s.svPort }

/-- R170, R171: frames fall due for an ATTACHED port only; for a DETACHED one they are not kept. -/
def PortRecord.push (r : PortRecord) (frames : List Frame) : PortRecord :=
  if r.attached then { r with tx := r.tx ++ frames } else r

/-- Frames falling due for one port, in their order (R176). -/
def State.send (s : State) (port : Port) (frames : List Frame) : State :=
  s.modPort port (·.push frames)

/-- Frames falling due for the window ports, each window's in their order (R176). -/
def State.sendWindows (s : State) (frames : Window → List Frame) : State :=
  { s with ports := Vector.ofFn fun w : Window => s.ports[w].push (frames w) }

/-! ## Records -/

def State.modPrinter (s : State) (p : PrinterId) (f : Printer → Printer) : State :=
  { s with printers := s.printers.set p (f s.printers[p]) }

def State.mapPrinters (s : State) (f : PrinterId → Printer → Printer) : State :=
  { s with printers := Vector.ofFn fun p : PrinterId => f p s.printers[p] }

def State.modShift (s : State) (w : Window) (f : Shift → Shift) : State :=
  { s with shifts := s.shifts.set w (f s.shifts[w]) }

def State.mapShifts (s : State) (f : Window → Shift → Shift) : State :=
  { s with shifts := Vector.ofFn fun w : Window => f w s.shifts[w] }

def State.modWindowFlags (s : State) (w : Window) (f : WindowFlags → WindowFlags) : State :=
  { s with windowFlags := s.windowFlags.set w (f s.windowFlags[w]) }

def State.pack? (s : State) (id : Nat) : Option Pack := s.packs.find? (·.id == id)

def State.modPack (s : State) (id : Nat) (f : Pack → Pack) : State :=
  { s with packs := s.packs.map fun k => if k.id = id then f k else k }

def State.job? (s : State) (ref : JobRef) : Option Job := s.jobs.find? (·.ref == ref)

def State.modJob (s : State) (ref : JobRef) (f : Job → Job) : State :=
  { s with jobs := s.jobs.map fun j => if j.ref = ref then f j else j }

/-- A frame sent on a printer line. -/
def State.sendLine (s : State) (p : PrinterId) (f : Frame) : State :=
  s.modPrinter p fun pr => { pr with sent := pr.sent ++ [f] }

/-! ## Packs (R2) -/

def Pack.size (k : Pack) : Nat := k.last + 1 - k.first

/-- R2: last − next + 1. -/
def Pack.unused (k : Pack) : Nat := k.last + 1 - k.next

/-- The serials of a pack that one printer holds (R2). -/
def Printer.holds (pr : Printer) (id : Nat) : Nat :=
  (if pr.printing.any (·.pack == id) then 1 else 0) + (if pr.staged.any (·.pack == id) then 1 else 0)
    + pr.range.elim 0 (fun g => if g.pack = id then g.charges.length else 0)

/-- R2: the serials in a slot or an uncertain range. -/
def State.held (s : State) (id : Nat) : Nat :=
  (allPrinters.map fun p => s.printers[p].holds id).sum

/-- The pack loaded in a printer (R3). -/
def State.loadedPack (s : State) (p : PrinterId) : Option Pack :=
  s.printers[p].loaded.bind s.pack?

/-! ## Printers -/

/-- R30: the first line of the table whose condition holds. -/
def Printer.service (pr : Printer) : Service :=
  if pr.link ≠ .up then .absent
  else if pr.capabilityWait then .negotiating
  else if pr.printTimeout then .faulted
  else if pr.query.isSome then .recovering
  else if pr.stockHold then .stockHold
  else if pr.outOfService then .outOfService
  else if pr.loadCheck.isSome then .loading
  else if pr.conditions.coverOpen || pr.conditions.headFault || pr.conditions.jamPresent || pr.mismatch then .faulted
  else if pr.conditions.paused then .paused
  else if pr.loaded.isNone then .empty
  else .ready

/-- R91: 24 or fewer free entries in the spoil list. -/
def State.hold (s : State) : Bool := Config.maxSpoils ≤ s.spoils.length + Config.spoilReserve

/-- The free entries of the spoil list. -/
def State.spoilRoom (s : State) : Nat := Config.maxSpoils - s.spoils.length

/-- A load check, an unload check or a test print is outstanding (R13, R15, R69, R177). -/
def Printer.occupied (pr : Printer) : Bool :=
  pr.loadCheck.isSome || pr.unloadCheck.isSome || pr.test.isSome

/-- R33 and R56: nothing but its slots or a withdrawal keeps the printer from taking a ticket. -/
def State.canServe (s : State) (p : PrinterId) : Bool :=
  let pr := s.printers[p]
  pr.link == .up && pr.service == .ready && !s.hold && pr.range.isNone
    && (s.loadedPack p).any (fun k => 1 ≤ k.unused) && pr.unloadCheck.isNone

/-- R33: both slots empty, or a place behind the printing ticket in a printer that accepts staging. -/
def Printer.slotOpen (pr : Printer) : Bool :=
  !pr.withdrawal && pr.staged.isNone
    && (pr.printing.isNone || pr.capability.any (·.staging))

/-- R33: the printer can take a ticket. -/
def State.canTake (s : State) (p : PrinterId) : Bool :=
  s.canServe p && s.printers[p].slotOpen

/-- The tickets in a printer's slots, the printing one first (R33). -/
def Printer.tickets (pr : Printer) : List Ticket := pr.printing.toList ++ pr.staged.toList

/-! ## Jobs and windows -/

/-- R47: the tickets of a job in flight. -/
def State.inFlight (s : State) (ref : JobRef) : Nat :=
  (allPrinters.map fun p => s.printers[p].tickets.countP (·.owner == some ref)).sum

/-- R47: the quantity less what is printed and what is in flight. -/
def State.remaining (s : State) (j : Job) : Nat := j.quantity - j.printed - s.inFlight j.ref

/-- R78: the tickets of a window in flight on all printers. -/
def State.windowInFlight (s : State) (w : Window) : Nat :=
  (allPrinters.map fun p => s.printers[p].tickets.countP fun t => t.owner.any (·.window == w)).sum

/-- R45: the live jobs of a window. -/
def State.liveJobs (s : State) (w : Window) : Nat := s.jobs.countP (·.ref.window == w)

/-- The job is the burst holder of some printer (R50, R54). -/
def State.isHolder (s : State) (ref : JobRef) : Bool :=
  allPrinters.any fun p => s.printers[p].arbiter.holder == some ref

/-! ## Shifts -/

def Entry.last (e : Entry) : Nat := e.first + e.count - 1

def Entry.covers (e : Entry) (serial : Nat) : Bool := e.first ≤ serial && serial < e.first + e.count

/-- R77: entries of the main allowance. -/
def Shift.mainEntries (h : Shift) : Nat := h.entries.countP (·.allowance == .main)

/-- R77: entries of the disputed allowance. -/
def Shift.disputedEntries (h : Shift) : Nat := h.entries.countP (·.allowance == .disputed)

/-- R124: entries whose DISPUTED mark stands. -/
def Shift.standing (h : Shift) : Nat := h.entries.countP (·.disputed)

/-- The numbers of the entries whose DISPUTED mark stands. -/
def Shift.standingNumbers (h : Shift) : List Nat :=
  (List.range h.entries.length).filter fun n => (h.entries[n]?).any (·.disputed)

/-- R53, R118: the shift has a free entry. -/
def Shift.hasFreeEntry (h : Shift) : Bool := h.mainEntries + h.reservations < Config.mainAllowance

/-- R77: the free disputed places. -/
def Shift.freeDisputed (h : Shift) : Nat := Config.disputedAllowance - h.disputedEntries

/-- R101: the shift is in a locked state. -/
def Shift.locks (h : Shift) : Bool :=
  h.state == .opened || h.state == .draining || h.state == .counting || h.state == .declared

/-- R101: the table lock. -/
def State.tableLock (s : State) : Bool := allWindows.any fun w => s.shifts[w].locks

/-- R116: a count raised, held at 65,535. -/
def raised (n k : Nat) : Nat := min (n + k) Config.countLimit

/-- R138: some printer's uncertain range has a serial charged to the window. -/
def State.rangeCharges (s : State) (w : Window) : Bool :=
  allPrinters.any fun p => s.printers[p].range.any fun g => g.charges.any fun c => c.any (·.window == w)

/-- R138: the stock status of a window's shift. -/
def State.stockStatus (s : State) (w : Window) : StockStatus :=
  if s.shifts[w].entries.any (·.disputed) then .disputed
  else if s.rangeCharges w then .uncertain
  else .clear

/-- An issue entry of any shift with a standing DISPUTED mark names the pack (R22, R43). -/
def State.packDisputed (s : State) (id : Nat) : Bool :=
  allWindows.any fun w => s.shifts[w].entries.any fun e => e.disputed && e.pack == id

/-- R22: the SERIAL_DISPUTE condition of a printer. -/
def State.serialDispute (s : State) (p : PrinterId) : Bool :=
  s.printers[p].stockHold || s.printers[p].loaded.any s.packDisputed
    || s.packs.any fun k => k.location == .compromised && k.compromisedAt == some p

end Sys2Proof.Machine
end

