-- ==== Sys2Proof/Machine/Codes.lean ====
section
/-!
DEFINITION. The code bytes of section 9.8: command and frame kinds (9.4), refusal codes (9.5) and the
listed values of the layouts (R183); and the severity and nature of each report kind (R152).
-/

namespace Sys2Proof.Machine

/-! ## Kinds of commands (9.4) -/

namespace Cmd
def openShift : Byte := 0x10#8
def issue : Byte := 0x11#8
def cancel : Byte := 0x12#8
def void : Byte := 0x13#8
def refund : Byte := 0x14#8
def closeShift : Byte := 0x15#8
def declare : Byte := 0x16#8
def queryShift : Byte := 0x17#8
def receivePack : Byte := 0x20#8
def loadPack : Byte := 0x21#8
def unloadPack : Byte := 0x22#8
def forceUnload : Byte := 0x23#8
def writeOffPack : Byte := 0x24#8
def retirePack : Byte := 0x25#8
def readPack : Byte := 0x26#8
def testPrint : Byte := 0x27#8
def setService : Byte := 0x28#8
def resetLine : Byte := 0x29#8
def resolveDispute : Byte := 0x2A#8
def readSpoils : Byte := 0x2B#8
def readEntries : Byte := 0x2C#8
def readShift : Byte := 0x2D#8
def reopenCount : Byte := 0x2E#8
def signOff : Byte := 0x2F#8
def openDay : Byte := 0x30#8
def closeDay : Byte := 0x31#8
def nextFault : Byte := 0x32#8
def readFault : Byte := 0x33#8
def ackFault : Byte := 0x34#8
def readChanges : Byte := 0x35#8
def silenceAlarm : Byte := 0x36#8
def selectEntry : Byte := 0x37#8
def readEntry : Byte := 0x38#8
def writeEntry : Byte := 0x39#8
def setClock : Byte := 0x3A#8
def readOffice : Byte := 0x3B#8
end Cmd

/-- 9.4: window kinds occupy 10h to 17h and the assigned supervisor kinds 20h to 3Bh. -/
def commandKind (kind : Byte) : Bool :=
  (0x10 ≤ kind.toNat && kind.toNat ≤ 0x17) || (0x20 ≤ kind.toNat && kind.toNat ≤ 0x3B)

/-- 9.4: the kinds a printer sends, 50h to 56h. -/
def printerKind (kind : Byte) : Bool := 0x50 ≤ kind.toNat && kind.toNat ≤ 0x56

/-! ## Kinds of frames from the part (9.4) -/

namespace Out
def accepted : Byte := 0x80#8
def refused : Byte := 0x81#8
def ticketReport : Byte := 0x82#8
def jobEnd : Byte := 0x83#8
def notice : Byte := 0x84#8
def cashUpResult : Byte := 0x85#8
def shiftState : Byte := 0x86#8
def portStatus : Byte := 0x87#8
def testDone : Byte := 0x88#8
def loadDone : Byte := 0x89#8
def unloadDone : Byte := 0x8A#8
def packReply : Byte := 0x8B#8
def spoilsReply : Byte := 0x8C#8
def entriesReply : Byte := 0x8D#8
def shiftReply : Byte := 0x8E#8
def faultReply : Byte := 0x8F#8
def changesReply : Byte := 0x90#8
def entryReply : Byte := 0x91#8
def officeReply : Byte := 0x92#8
def queryReply : Byte := 0x93#8
def print : Byte := 0x40#8
def withdraw : Byte := 0x41#8
def topReport : Byte := 0x42#8
end Out

/-- The refusal codes (9.5), in their order. -/
inductive Code where
  | frame | unknownKind | permission | shiftState | dayState | tagInUse | queueFull | windowLimit
  | fareRange | concession | split | stockType | printerNumber | bodyLength | notFound | notVoidable
  | voidListFull | packState | overlap | packTableFull | typeUnsupported | printerState | hold
  | tableLocked | entryInvalid | disputeOpen
deriving DecidableEq, Repr

/-- R183, REFUSED: the code's place in the table of 9.5, counting FRAME as 1. -/
def Code.byte : Code → Byte
  | .frame => 1 | .unknownKind => 2 | .permission => 3 | .shiftState => 4 | .dayState => 5
  | .tagInUse => 6 | .queueFull => 7 | .windowLimit => 8 | .fareRange => 9 | .concession => 10
  | .split => 11 | .stockType => 12 | .printerNumber => 13 | .bodyLength => 14 | .notFound => 15
  | .notVoidable => 16 | .voidListFull => 17 | .packState => 18 | .overlap => 19
  | .packTableFull => 20 | .typeUnsupported => 21 | .printerState => 22 | .hold => 23
  | .tableLocked => 24 | .entryInvalid => 25 | .disputeOpen => 26

/-! ## Report kinds (R152) -/

def Kind.severity : Kind → Severity
  | .linkLost | .jabber | .headFault | .jam | .printTimeout | .loadMismatch | .shiftLimited => .fault
  | .capabilityBasic | .frameError => .info
  | .serialDispute | .missingBlanks | .accountabilityHold | .externalAlarm => .critical
  | .coverOpen | .pauseTimeout | .lowStock | .packExhausted | .recoverySpoil | .protocol | .lineBreak
  | .shiftVariance | .coldStart | .tableFull => .warning

/-- R152: the kind is a condition kind. -/
def Kind.isCondition : Kind → Bool
  | .linkLost | .jabber | .coverOpen | .headFault | .jam | .lowStock | .packExhausted | .serialDispute
  | .lineBreak | .accountabilityHold | .externalAlarm => true
  | .capabilityBasic | .printTimeout | .pauseTimeout | .loadMismatch | .missingBlanks | .recoverySpoil
  | .protocol | .frameError | .shiftVariance | .shiftLimited | .coldStart | .tableFull => false

/-- R150: severities rank INFO, WARNING, FAULT, CRITICAL; the NOTICE code of R183. -/
def Severity.rank : Severity → Nat
  | .info => 0 | .warning => 1 | .fault => 2 | .critical => 3

def Report.severity (r : Report) : Severity := r.kind.severity

/-- R183, NOTICE: the kind's place in the table of R152, counting LINK_LOST as 1. -/
def Kind.code : Kind → Nat
  | .linkLost => 1 | .jabber => 2 | .capabilityBasic => 3 | .coverOpen => 4 | .headFault => 5
  | .jam => 6 | .printTimeout => 7 | .pauseTimeout => 8 | .lowStock => 9 | .packExhausted => 10
  | .serialDispute => 11 | .loadMismatch => 12 | .missingBlanks => 13 | .recoverySpoil => 14
  | .protocol => 15 | .lineBreak => 16 | .frameError => 17 | .shiftVariance => 18
  | .shiftLimited => 19 | .accountabilityHold => 20 | .externalAlarm => 21 | .coldStart => 22
  | .tableFull => 23

/-- R183, NOTICE. -/
def Source.code : Source → Nat
  | .printer p => p.val
  | .window w => 0x10 + w.val
  | .office => 0x20

/-! ## Listed values (R183) -/

def Tender.code : Tender → Nat
  | .cash => 0 | .card => 1 | .warrant => 2

def ShiftState.code : ShiftState → Nat
  | .idle => 0 | .opened => 1 | .draining => 2 | .counting => 3 | .declared => 4 | .signedOff => 5

def Allowance.code : Allowance → Nat
  | .main => 0 | .disputed => 1

def JobOutcome.code : JobOutcome → Nat
  | .complete => 0 | .cancelled => 1 | .noPrinter => 2 | .printerUnavailable => 3 | .recordFull => 4
  | .detached => 5

def TenderClass.code : TenderClass → Nat
  | .balanced => 0 | .over => 1 | .short => 2

def Overall.code : Overall → Nat
  | .balanced => 0 | .out => 1 | .limited => 2

def StockStatus.code : StockStatus → Nat
  | .clear => 0 | .uncertain => 1 | .disputed => 2

def Cause.code : Cause → Nat
  | .jam => 0 | .linkLost => 1 | .missing => 2 | .test => 3 | .writtenOff => 4

def ReportState.code : ReportState → Nat
  | .opened => 0 | .acknowledged => 1 | .cleared => 2

def Link.code : Link → Nat
  | .down => 0 | .settling => 1 | .up => 2 | .jabber => 3

def Service.code : Service → Nat
  | .absent => 0 | .negotiating => 1 | .faulted => 2 | .recovering => 3 | .stockHold => 4
  | .outOfService => 5 | .loading => 6 | .paused => 7 | .empty => 8 | .ready => 9

def Location.code : Location → Nat
  | .safe => 0 | .loaded _ => 1 | .compromised => 2

/-- R178: a table's number. -/
def Cursor.table : Cursor → Nat
  | .concession _ => 0 | .split _ => 1 | .routing _ => 2 | .fallback _ => 3 | .tolerance _ => 4
  | .limits => 5

/-- R178: the entry index in the table. -/
def Cursor.index : Cursor → Nat
  | .concession i => i.val | .split i => i.val | .routing p => p.val | .fallback t => t.val
  | .tolerance t => t.code | .limits => 0

end Sys2Proof.Machine
end

