-- ==== Sys2Proof/Machine/Operands.lean ====
section
/-!
DEFINITION. How the numbers of a command body name things (R183): printers, windows, types, tenders,
ISSUE's selector (section 9.8, "ISSUE body"), table entries (R178).
-/

namespace Sys2Proof.Machine

/-- The thing of a range of `k` that a number names, none when it is above the range. -/
def named (k n : Nat) : Option (Fin k) := if h : n < k then some ⟨n, h⟩ else none

/-- R183: 0 CASH, 1 CARD, 2 WARRANT. -/
def tenderNamed : Nat → Option Tender
  | 0 => some .cash
  | 1 => some .card
  | 2 => some .warrant
  | _ + 3 => none

def severityNamed : Nat → Option Severity
  | 0 => some .info
  | 1 => some .warning
  | 2 => some .fault
  | 3 => some .critical
  | _ + 4 => none

/-- ISSUE's selector, as its byte spells it. -/
inductive Selector where
  | pool (stock : Nat)
  | specific (printer typeBits : Nat)
deriving DecidableEq, Repr

/-- 9.8, ISSUE byte 7: 00h to 7Fh a pool job; 80h to FFh a specific job, low four bits the printer,
the three bits above them the type. -/
def selectorOf (n : Nat) : Selector :=
  if n < 128 then .pool n else .specific (n % 16) (n / 16 % 8)

/-- R178: the cursor a table number and an index name. -/
def cursorNamed (table index : Nat) : Option Cursor :=
  match table with
  | 0 => (named 16 index).map .concession
  | 1 => (named 16 index).map .split
  | 2 => (named 8 index).map .routing
  | 3 => (named 4 index).map .fallback
  | 4 => (tenderNamed index).map .tolerance
  | 5 => if index = 0 then some .limits else none
  | _ + 6 => none

/-- A number clamped into a range (R179). -/
def clamp (lo hi n : Nat) : Nat := max lo (min hi n)

/-- R47: the quantity a field of 0 to 63 asks for. -/
def quantityOf (n : Nat) : Nat := if n = 0 then 64 else n

/-- R183: the three bytes FFFFFFh stand for no serial. -/
def serialRead (n : Nat) : Option Nat := if n = Config.noSerial then none else some n

end Sys2Proof.Machine
end

