-- ==== Sys2Proof/Machine/Replies.lean ====
section
/-!
DEFINITION. The frames the part sends, body by body (section 9.8, "Bodies from the part to terminals",
"ACCEPTED bodies", "PRINT body", "Other printer-line bodies").
-/

namespace Sys2Proof.Machine

/-! ## Answers -/

/-- 80h: the kind accepted and the fields its row of "ACCEPTED bodies" gives. -/
def acceptedFrame (kind : Byte) (tag : Tag) (fields : List Byte) : Frame :=
  { kind := Out.accepted, tag := tag, body := kind :: fields }

/-- 81h: the code and the refused kind; the tag is the refused frame's (R175). -/
def refusedFrame (code : Code) (kind : Byte) (tag : Tag) : Frame :=
  { kind := Out.refused, tag := tag, body := [code.byte, kind] }

/-- R174: the answer to a bad start, length or check: code FRAME, kind 0, tag 0. -/
def frameRefusal : Frame := refusedFrame .frame 0#8 0#8

/-! ## Window frames -/

/-- 93h: the fields of QUERY SHIFT (R124). -/
def State.queryBody (s : State) (w : Window) : List Byte :=
  let h := s.shifts[w]
  be 1 h.state.code ++ beStampOpt h.openedAt
    ++ be 2 h.tickets ++ be 2 h.voidCount ++ be 2 h.refunds ++ be 2 h.spoils
    ++ be 1 h.mainEntries ++ be 1 h.disputedEntries ++ be 1 h.standing ++ be 1 h.freeDisputed
    ++ be 1 (s.liveJobs w) ++ beBool h.limited ++ be 1 h.recount

/-- 86h: SHIFT STATE (R133). -/
def State.shiftStateFrame (s : State) (w : Window) : Frame :=
  { kind := Out.shiftState, tag := 0#8, body := s.queryBody w }

/-- R87, in the order of its table. -/
inductive TicketOutcome where
  | issued (posted : Int) (printed : Nat)
  | disputed (read : Option Nat) (posted : Int) (printed : Nat)
  | jammed (k : Nat)
  | discarded (spoiled : Bool)
  | withdrawn
  | lost
deriving DecidableEq, Repr

def TicketOutcome.code : TicketOutcome → Nat
  | .issued _ _ => 0 | .disputed _ _ _ => 1 | .jammed _ => 2 | .discarded _ => 3 | .withdrawn => 4
  | .lost => 5

def TicketOutcome.fields : TicketOutcome → List Byte
  | .issued posted printed => beInt 4 posted ++ be 1 printed
  | .disputed read posted printed => beOpt 3 read ++ beInt 4 posted ++ be 1 printed
  | .jammed k => be 1 k
  | .discarded spoiled => beBool spoiled
  | .withdrawn => []
  | .lost => []

/-- 82h: TICKET REPORT (R87). -/
def ticketReport (tag : Tag) (p : PrinterId) (t : Ticket) (o : TicketOutcome) : Frame :=
  { kind := Out.ticketReport, tag := tag,
    body := be 1 o.code ++ be 1 p.val ++ be 2 t.pack ++ be 3 t.serial ++ o.fields }

/-- 83h: JOB END (R66). -/
def jobEnd (j : Job) (o : JobOutcome) : Frame :=
  { kind := Out.jobEnd, tag := j.ref.tag,
    body := be 1 o.code ++ be 1 j.printed ++ be 2 j.jamSpoiled ++ beInt 4 j.charged }

/-- 84h: NOTICE (R165). -/
def noticeFrame (r : Report) : Frame :=
  { kind := Out.notice, tag := 0#8,
    body := be 2 r.number ++ be 1 r.source.code ++ be 1 r.kind.code ++ be 1 r.severity.rank }

/-- 85h: CASH-UP RESULT (R140). -/
def cashUpResult (tag : Tag) (d : Declaration) : Frame :=
  { kind := Out.cashUpResult, tag := tag,
    body := be 1 d.classes.cash.code ++ beInt 4 d.variances.cash
      ++ be 1 d.classes.card.code ++ beInt 4 d.variances.card
      ++ be 1 d.classes.warrant.code ++ beInt 4 d.variances.warrant
      ++ be 1 d.result.code ++ be 1 d.status.code ++ be 1 d.recount }

/-! ## Operation ends on the supervisor port -/

/-- R71 with ABANDONED of R70. -/
inductive TestOutcome where
  | printed | disputed (read : Option Nat) | jammed (k : Nat) | discarded | withdrawn | lost | abandoned
deriving DecidableEq, Repr

def TestOutcome.code : TestOutcome → Nat
  | .printed => 0 | .disputed _ => 1 | .jammed _ => 2 | .discarded => 3 | .withdrawn => 4 | .lost => 5
  | .abandoned => 6

/-- 88h: TEST DONE (R71). A test print abandoned before its grant has no ticket (log 17). -/
def testDone (tag : Tag) (p : PrinterId) (t : Option Ticket) (o : TestOutcome) : Frame :=
  { kind := Out.testDone, tag := tag,
    body := be 1 p.val ++ be 1 o.code ++ bePack (t.map (·.pack)) ++ beOpt 3 (t.map (·.serial))
      ++ (match o with | .disputed read => beOpt 3 read | _ => absent 3)
      ++ (match o with | .jammed k => be 1 k | _ => be 1 0) }

inductive LoadOutcome where
  | loaded | mismatch (read : Nat) | noAnswer | linkLost
deriving DecidableEq, Repr

def LoadOutcome.code : LoadOutcome → Nat
  | .loaded => 0 | .mismatch _ => 1 | .noAnswer => 2 | .linkLost => 3

/-- 89h: LOAD DONE (R14). -/
def loadDone (c : LoadCheck) (p : PrinterId) (o : LoadOutcome) : Frame :=
  { kind := Out.loadDone, tag := c.tag,
    body := be 2 c.pack ++ be 1 p.val ++ be 1 o.code
      ++ (match o with | .mismatch read => be 3 read | _ => absent 3) }

inductive UnloadOutcome where
  | clean | missing (count : Nat) | dispute (read : Nat) | noAnswer | linkLost
deriving DecidableEq, Repr

def UnloadOutcome.code : UnloadOutcome → Nat
  | .clean => 0 | .missing _ => 1 | .dispute _ => 2 | .noAnswer => 3 | .linkLost => 4

/-- 8Ah: UNLOAD DONE (R16, R17). -/
def unloadDone (tag : Tag) (p : PrinterId) (pack : Option Nat) (o : UnloadOutcome) : Frame :=
  { kind := Out.unloadDone, tag := tag,
    body := be 1 p.val ++ bePack pack ++ be 1 o.code
      ++ (match o with | .missing n => be 3 n | .dispute read => be 3 read | _ => be 3 0) }

/-! ## Printer-line frames -/

/-- R33: 1 for the PRINTING slot, 2 for the STAGED slot. -/
def slotTag (staged : Bool) : Tag := if staged then 2#8 else 1#8

/-- 40h: PRINT. -/
def printFrame (staged : Bool) (stock : StockType) (t : Ticket) (fields : List (List Byte)) : Frame :=
  { kind := Out.print, tag := slotTag staged,
    body := be 2 t.pack ++ be 1 stock.val ++ be 3 t.serial ++ be 1 fields.length ++ fieldBytes fields }

/-- 41h: WITHDRAW. -/
def withdrawFrame (serial : Nat) : Frame := { kind := Out.withdraw, tag := 2#8, body := be 3 serial }

/-- 42h: TOP REPORT. -/
def topReport : Frame := { kind := Out.topReport, tag := 0#8, body := [] }

/-! ## Replies to reads -/

def bePrinter (p : Option PrinterId) : List Byte := beOpt 1 (p.map (·.val))

/-- The printer a location names (R21). -/
def Location.printer : Location → Option PrinterId
  | .loaded p => some p
  | .safe => none
  | .compromised => none

/-- 8Bh: PACK REPLY (R21). -/
def State.packBody (s : State) (index : Nat) (k : Pack) : List Byte :=
  be 1 index ++ be 2 k.id ++ be 1 k.stock.val ++ be 3 k.first ++ be 3 k.last ++ be 3 k.next
    ++ be 1 k.location.code ++ bePrinter k.location.printer ++ bePrinter k.loadCheck
    ++ bePrinter k.compromisedAt ++ be 2 k.issued ++ be 2 k.spoiled ++ be 1 (s.held k.id)
    ++ be 2 k.unused ++ be 3 k.dayMark ++ beStamp k.received

/-- One run of SPOILS REPLY. -/
def SpoilRun.bytes (r : SpoilRun) : List Byte :=
  be 2 r.pack ++ be 3 r.first ++ be 2 r.count ++ be 1 r.cause.code ++ bePrinter r.printer
    ++ beOpt 1 (r.charged.map (·.window.val)) ++ beOpt 1 (r.charged.map (·.tag.toNat)) ++ beStamp r.time

/-- The items of a list from a starting index, at most `count`, each with its place. -/
def placed {α : Type} (items : List α) (start count : Nat) : List (Nat × α) :=
  ((items.zipIdx.map fun x => (x.2, x.1)).drop start).take count

/-- 8Ch: SPOILS REPLY (R90). -/
def State.spoilsBody (s : State) (start count : Nat) : List Byte :=
  be 2 s.spoils.length ++ (((s.spoils.drop start).take count).map SpoilRun.bytes).flatten

/-- One entry of ENTRIES REPLY (R126). -/
def entryBytes (number : Nat) (e : Entry) : List Byte :=
  be 1 number ++ be 1 e.allowance.code ++ [e.tag] ++ be 2 e.pack ++ be 3 e.first ++ be 1 e.count
    ++ be 3 e.unit ++ be 1 e.tender.code ++ be 1 e.concession.val ++ be 1 e.split.val
    ++ beBool e.disputed ++ beOpt 3 e.readSerial ++ beBool e.writtenOff

/-- One void of ENTRIES REPLY (R126). -/
def voidBytes (place : Nat) (v : VoidRecord) : List Byte :=
  be 1 place ++ be 2 v.pack ++ be 3 v.serial ++ beStamp v.time

/-- 8Dh: ENTRIES REPLY (R126). -/
def Shift.entriesBody (h : Shift) (voids : Bool) (start count : Nat) : List Byte :=
  if voids then
    be 1 h.voids.length ++ be 1 1 ++ ((placed h.voids start count).map fun x => voidBytes x.1 x.2).flatten
  else
    be 1 h.entries.length ++ be 1 0 ++ ((placed h.entries start count).map fun x => entryBytes x.1 x.2).flatten

/-- The declaration as SHIFT REPLY carries it. -/
def Declaration.bytes (d : Declaration) : List Byte :=
  be 4 d.declared.cash ++ be 4 d.declared.card ++ be 4 d.declared.warrant
    ++ beInt 5 d.expected.cash ++ beInt 5 d.expected.card ++ beInt 5 d.expected.warrant
    ++ be 4 d.tolerances.cash ++ be 4 d.tolerances.card ++ be 4 d.tolerances.warrant
    ++ beInt 4 d.variances.cash ++ beInt 4 d.variances.card ++ beInt 4 d.variances.warrant
    ++ be 1 d.classes.cash.code ++ be 1 d.classes.card.code ++ be 1 d.classes.warrant.code
    ++ be 1 d.result.code ++ be 1 d.status.code ++ be 1 d.recount ++ beStamp d.time

/-- 8Eh: SHIFT REPLY (R125). -/
def State.shiftBody (s : State) (w : Window) : List Byte :=
  let h := s.shifts[w]
  be 1 w.val ++ be 1 h.state.code ++ be 4 h.float ++ beStampOpt h.openedAt ++ beStampOpt h.signedOffAt
    ++ beInt 4 h.tenders.cash ++ beInt 4 h.tenders.card ++ beInt 4 h.tenders.warrant
    ++ (h.heads.toList.map (beInt 4)).flatten
    ++ be 2 h.tickets ++ be 2 h.voidCount ++ be 2 h.refunds ++ be 2 h.spoils
    ++ beBool h.limited ++ be 1 h.reservations ++ be 1 h.recount
    ++ be 1 h.mainEntries ++ be 1 h.disputedEntries ++ be 1 h.standing ++ be 1 h.voids.length
    ++ be 1 (s.liveJobs w) ++ h.declaration.elim (absent 62) Declaration.bytes

/-- All reports in the table's order of creation, the reserved one last (R149). -/
def State.allReports (s : State) : List Report := s.reports ++ s.reserved.toList

/-- The number of OPEN reports at a severity (R159). -/
def State.openAt (s : State) (v : Severity) : Nat :=
  s.allReports.countP fun r => r.state == .opened && r.severity == v

def State.openCount (s : State) : Nat := s.allReports.countP (·.state == .opened)

/-- The highest severity among OPEN reports, or none (R163, R172). -/
def State.highestOpen (s : State) : Option Severity :=
  if 0 < s.openAt .critical then some .critical
  else if 0 < s.openAt .fault then some .fault
  else if 0 < s.openAt .warning then some .warning
  else if 0 < s.openAt .info then some .info
  else none

/-- The OPEN reports' number and highest severity, as CHANGES REPLY and PORT STATUS carry them. -/
def State.openBytes (s : State) : List Byte :=
  be 1 s.openCount ++ beOpt 1 (s.highestOpen.map (·.rank))

/-- 87h: PORT STATUS (R172). -/
def State.portStatus (s : State) (port : Port) : Frame :=
  { kind := Out.portStatus, tag := 0#8,
    body := match port with
      | .window w => s.queryBody w
      | .supervisor => beBool s.dayOpen ++ s.openBytes }

/-- The fields of a report as FAULT REPLY carries them. -/
def Report.bytes (r : Report) : List Byte :=
  be 2 r.number ++ be 1 r.source.code ++ be 1 r.kind.code ++ be 1 r.severity.rank ++ be 1 r.state.code
    ++ beStamp r.firstAt ++ beStamp r.lastAt ++ be 1 r.repeats
    ++ r.active.elim (absent 1) beBool ++ beOpt 3 r.serial ++ bePack r.pack
    ++ beOpt 1 (r.window.map (·.val)) ++ beOpt 1 (r.jobTag.map (·.toNat)) ++ beOpt 1 r.recount
    ++ beOpt 1 (r.folded.map (·.1.code)) ++ beOpt 1 (r.folded.map (·.2.code))

/-- 8Fh: FAULT REPLY (R159, R160). -/
def State.faultBody (s : State) (r : Option Report) (following : Nat) : List Byte :=
  beBool r.isSome ++ r.elim (be 28 0) Report.bytes ++ be 2 following
    ++ be 1 (s.openAt .info) ++ be 1 (s.openAt .warning) ++ be 1 (s.openAt .fault)
    ++ be 1 (s.openAt .critical)

/-- One printer's byte of CHANGES REPLY. -/
def PrinterFlags.byte (f : PrinterFlags) : Byte :=
  BitVec.ofNat 8 (f.link.toNat + 2 * f.service.toNat + 4 * f.stock.toNat + 8 * f.conditions.toNat)

/-- One window's byte of CHANGES REPLY. -/
def WindowFlags.byte (f : WindowFlags) : Byte := BitVec.ofNat 8 (f.line.toNat + 2 * f.shift.toNat)

/-- 90h: CHANGES REPLY (R163). -/
def State.changesBody (s : State) : List Byte :=
  allPrinters.map (fun p => s.printers[p].flags.byte) ++ allWindows.map (fun w => s.windowFlags[w].byte)
    ++ s.openBytes

/-! ## Entry bodies (section 9.8) -/

def Concession.bytes (c : Concession) : List Byte :=
  beBool c.valid ++ be 2 c.discount ++ be 3 c.minimum ++ be 1 c.step

/-- A split's part count and its four part places, a place beyond the count absent (log 18). -/
def Split.bytes (split : Split) : List Byte :=
  be 1 split.length ++ (split.map fun part => be 1 part.head.val ++ be 3 part.share).flatten
    ++ absent (4 * (4 - split.length))

def Route.bytes (r : Route) : List Byte := be 2 r.windows.toNat ++ be 1 r.minimum.rank

def Limits.bytes (l : Limits) : List Byte :=
  be 1 l.burst ++ be 1 l.pause ++ be 2 l.routeWait ++ be 2 l.jobWait ++ be 2 l.lowStock
    ++ be 1 l.latches.toNat ++ beBool l.alarmEnable

/-- The entry a cursor names, as stored, in its entry body (R179). -/
def State.entryBody (s : State) : Cursor → List Byte
  | .concession i => s.concessions[i].bytes
  | .split i => Split.bytes s.splits[i]
  | .routing p => s.routing[p].bytes
  | .fallback t => bePrinter s.fallback[t]
  | .tolerance t => be 4 (s.tolerance.get t)
  | .limits => s.limits.bytes

/-- Table number, index and the entry as stored: ENTRY REPLY and the answer to WRITE ENTRY. -/
def State.cursorBody (s : State) : List Byte :=
  be 1 s.cursor.table ++ be 1 s.cursor.index ++ s.entryBody s.cursor

/-- One printer's part of OFFICE REPLY (R190). An absent capability is sent as FFh bytes (log 18). -/
def Printer.officeBytes (pr : Printer) : List Byte :=
  be 1 pr.link.code ++ be 1 pr.service.code ++ beBool (!pr.pool) ++ beBool pr.outOfService
    ++ bePack pr.loaded
    ++ be 1 (pr.capability.elim 0 fun c => if c.basic then 2 else 1)
    ++ pr.capability.elim (absent 5) (fun c => be 1 c.types.toNat ++ be 1 c.maxBody ++ beBool c.staging ++ be 2 c.model)
    ++ be 1 pr.tickets.length ++ be 1 (pr.range.elim 0 fun g => if g.disputed then 2 else 1)

/-- 92h: OFFICE REPLY (R190). -/
def State.officeBody (s : State) : List Byte :=
  beStamp s.clock ++ beBool s.clockUnset ++ be 1 (if s.lastStart = .cold then 0 else 1) ++ be 1 s.speed.val
    ++ beBool s.dayOpen ++ beBool s.hold ++ be 2 s.spoils.length ++ be 1 s.jobs.length
    ++ beBool s.alarm ++ beBool s.silenced ++ beBool s.alarmIn
    ++ (allPrinters.map fun p => s.printers[p].officeBytes).flatten

end Sys2Proof.Machine
end

