-- ==== Sys2Proof/Machine/Faults.lean ====
section
/-!
DEFINITION. The fault table's operations: raising an occurrence (R153, R156, R157), the number counter
(R151), the end of a condition (R154), acknowledgement (R155); the notice router (R165); the ALARM output
(R167) and the bay lamps (R168).
-/

namespace Sys2Proof.Machine

/-- An occurrence: a raising of a report of one source and kind, with the fields it carries (R153). -/
structure Occurrence where
  source : Source
  kind : Kind
  serial : Option Nat := none
  pack : Option Nat := none
  window : Option Window := none
  jobTag : Option Tag := none
  recount : Option Nat := none
deriving DecidableEq, Repr

/-- R153: an uncleared report of this source and kind. -/
def Report.uncleared (r : Report) (source : Source) (kind : Kind) : Bool :=
  r.source == source && r.kind == kind && r.state != .cleared

/-- R153: the occurrence merged into a report. -/
def Report.coalesce (r : Report) (o : Occurrence) (now : Stamp) : Report :=
  { r with
    state := .opened, repeats := min (r.repeats + 1) Config.maxRepeat, lastAt := now,
    active := if r.kind.isCondition then some true else none,
    serial := o.serial, pack := o.pack, window := o.window, jobTag := o.jobTag, recount := o.recount }

/-- R153: a new report. -/
def Report.create (number : Nat) (o : Occurrence) (now : Stamp) : Report :=
  { number := number, source := o.source, kind := o.kind, state := .opened, firstAt := now, lastAt := now,
    repeats := 1, active := if o.kind.isCondition then some true else none,
    serial := o.serial, pack := o.pack, window := o.window, jobTag := o.jobTag, recount := o.recount,
    folded := none }

/-- R151: the counter's next value, 65,535 going to 1. -/
def nextNumber (n : Nat) : Nat := if Config.maxReportNumber ≤ n then 1 else n + 1

/-- R151: the counter moves on again while it stands at a number in use. -/
def skipUsed (used : List Nat) : Nat → Nat → Nat
  | 0, n => n
  | fuel + 1, n => if n ∈ used then skipUsed used fuel (nextNumber n) else n

/-- R151: the counter after a creation, with the table's numbers as they then stand. -/
def State.movedCounter (s : State) : Nat :=
  let used := s.allReports.map (·.number)
  skipUsed used used.length (nextNumber s.counter)

/-- R165: whether a report's occurrence concerns a window. -/
def State.concerns (s : State) (r : Report) (w : Window) : Bool :=
  match r.source with
  | .printer p => (s.routing[p].minimum.rank ≤ r.severity.rank) && s.routing[p].windows.getLsbD w.val
  | .window x => x == w && r.kind != .frameError
  | .office => r.severity == .critical

/-- R153, R165, R167: an occurrence of a report in the table goes to the router, and a CRITICAL one ends
the silencing. -/
def State.announce (s : State) (r : Report) : State :=
  { s.sendWindows fun w => if s.concerns r w then [noticeFrame r] else [] with
    silenced := s.silenced && r.severity != .critical }

/-- R153, R156: a new general report joins the end of the list. -/
def State.createReport (s : State) (o : Occurrence) : State :=
  let r := Report.create s.counter o s.clock
  let s' := { s with reports := s.reports ++ [r] }
  { s' with counter := s'.movedCounter }.announce r

/-- R157: the occurrence is folded into the reserved TABLE_FULL report. -/
def State.foldReport (s : State) (o : Occurrence) : State :=
  let charged : Option Window := match o.source with | .window w => some w | _ => none
  let full : Occurrence := { source := .office, kind := .tableFull, window := charged }
  let fresh : State :=
    let r := { Report.create s.counter full s.clock with folded := some (o.source, o.kind) }
    let s' := { s with reserved := some r }
    { s' with counter := s'.movedCounter }.announce r
  match s.reserved with
  | some r =>
    if r.state = .opened then
      let r' := { r.coalesce full s.clock with folded := some (o.source, o.kind) }
      { s with reserved := some r' }.announce r'
    else fresh
  | none => fresh

/-- R156, step 2: an ACKNOWLEDGED report of lower severity than the occurrence. -/
def Report.yieldsTo (r : Report) (k : Kind) : Bool :=
  r.state == .acknowledged && r.severity.rank < k.severity.rank

/-- R153: the occurrence coalesces into the uncleared report of its source and kind. -/
def State.coalesceReport (s : State) (r : Report) (o : Occurrence) : State :=
  let merged : List Report := s.reports.map fun x =>
    if x.uncleared o.source o.kind then x.coalesce o s.clock else x
  { s with reports := merged }.announce (r.coalesce o s.clock)

/-- R156: room is made by taking out the first report that a test picks, and the new one is created. -/
def State.evictFor (s : State) (o : Occurrence) (test : Report → Bool) : State :=
  { s with reports := s.reports.eraseP test }.createReport o

/-- R153 and R156: one occurrence raised. -/
def State.raise (s : State) (o : Occurrence) : State :=
  match s.reports.find? (fun r => r.uncleared o.source o.kind) with
  | some r => s.coalesceReport r o
  | none =>
    if s.reports.length < Config.maxReports then s.createReport o
    else if s.reports.any (fun r => r.state == .cleared) then s.evictFor o fun r => r.state == .cleared
    else if s.reports.any (fun r => r.yieldsTo o.kind) then s.evictFor o fun r => r.yieldsTo o.kind
    else s.foldReport o

def State.raiseAll (s : State) (os : List Occurrence) : State := os.foldl State.raise s

/-- R154, R155: the end of a condition on one report. -/
def Report.ended (r : Report) : Report :=
  { r with
    active := some false
    state := if r.state = .acknowledged then .cleared else r.state }

/-- R154: the condition of a source and kind ceases to hold. -/
def State.endCondition (s : State) (source : Source) (kind : Kind) : State :=
  { s with reports := s.reports.map fun r => if r.uncleared source kind then r.ended else r }

/-- R154 for several conditions at once. -/
def State.endConditions (s : State) (which : Source → Kind → Bool) : State :=
  { s with
    reports := s.reports.map fun r =>
      if r.state != .cleared && which r.source r.kind then r.ended else r }

/-- R155: ACK FAULT on one report. -/
def Report.acknowledge (r : Report) : Report :=
  match r.state with
  | .opened => { r with state := if r.active = some true then .acknowledged else .cleared }
  | .acknowledged => r
  | .cleared => r

/-! ## Outputs -/

/-- R167: an OPEN CRITICAL report exists. -/
def State.openCritical (s : State) : Bool :=
  s.allReports.any fun r => r.state == .opened && r.severity == .critical

/-- R167: ALARM as its terms give it; R185: released while the part does not run. -/
def State.alarmLaw (s : State) : Bool :=
  s.running && s.limits.alarmEnable && !s.silenced && (s.openCritical || s.alarmIn)

/-- R168, line 2: an uncleared FAULT or CRITICAL report of the printer. -/
def State.printerInTrouble (s : State) (p : PrinterId) : Bool :=
  s.reports.any fun r => r.source == .printer p && r.state != .cleared && 2 ≤ r.severity.rank

/-- R168: the aspect of a printer's lamp; R185: dark while the part does not run. -/
def State.lampLaw (s : State) (p : PrinterId) : Aspect :=
  if !s.running then .off
  else if s.printers[p].link ≠ .up || s.printers[p].outOfService then .off
  else if s.printerInTrouble p then .flash
  else .on

/-- R168: a lamp taking an aspect: a new aspect begins afresh, FLASH and ON lit. -/
def Lamp.show (l : Lamp) (a : Aspect) : Lamp :=
  if l.aspect = a then l else { aspect := a, lit := a != .off, pulse := false }

/-- R168: the activity pulse darkens an ON lamp. -/
def Lamp.pulsed (l : Lamp) : Lamp :=
  if l.aspect = .on then { l with lit := false, pulse := true } else l

/-- R167, R168: ALARM and every lamp recomputed. -/
def State.outputs (s : State) : State :=
  { s.mapPrinters fun p pr => { pr with lamp := pr.lamp.show (s.lampLaw p) } with alarm := s.alarmLaw }

end Sys2Proof.Machine
end

