-- ==== Sys2Proof/Machine/Flags.lean ====
section
/-!
DEFINITION. What follows of itself at the end of a step: change flags from the state before and after
(R11, R24, R30, R31, R111, R163), conditions that came to hold or ceased to hold (R10, R22, R26, R31, R84,
R91, R166), and the housekeeping of test prints, burst holders, jobs, draining shifts and pause timers
(R36, R50, R56, R68, R70, R132).
-/

namespace Sys2Proof.Machine

/-! ## Conditions that the state itself shows -/

/-- R10: the loaded pack is low. -/
def State.lowStock (s : State) (p : PrinterId) : Bool :=
  (s.loadedPack p).any fun k => 0 < k.unused && k.unused ≤ s.limits.lowStock

/-- R10: the loaded pack has no unused blank. -/
def State.exhausted (s : State) (p : PrinterId) : Bool := (s.loadedPack p).any (·.unused == 0)

/-- Whether a condition kind that follows the state holds: R26 JABBER, R31 COVER_OPEN and HEAD_FAULT, R84
JAM, R10 LOW_STOCK and PACK_EXHAUSTED, R22 SERIAL_DISPUTE, R91 ACCOUNTABILITY_HOLD, R166 EXTERNAL_ALARM.
LINK_LOST (R25) and LINE_BREAK (R162) follow events and are marked by the commands that own them. -/
def State.conditionHolds (s : State) : Source → Kind → Bool
  | .printer p, .jabber => s.printers[p].link == .jabber
  | .printer p, .coverOpen => s.printers[p].conditions.coverOpen
  | .printer p, .headFault => s.printers[p].conditions.headFault
  | .printer p, .jam => s.printers[p].conditions.jamPresent
  | .printer p, .lowStock => s.lowStock p
  | .printer p, .packExhausted => s.exhausted p
  | .printer p, .serialDispute => s.serialDispute p
  | .office, .accountabilityHold => s.hold
  | .office, .externalAlarm => s.alarmIn
  | _, _ => false

/-- The conditions `conditionHolds` speaks of, in the order their occurrences are raised (log 9). -/
def stateConditions : List (Source × Kind) :=
  (allPrinters.map fun p =>
      [.jabber, .coverOpen, .headFault, .jam, .lowStock, .packExhausted, .serialDispute].map
        fun k => (Source.printer p, k)).flatten
    ++ [(.office, .accountabilityHold), (.office, .externalAlarm)]

/-- Conditions that came to hold since `before`, but for those the command itself raises. -/
def State.newConditions (s before : State) (told : List Occurrence) : List Occurrence :=
  (stateConditions.filter fun sk =>
      !before.conditionHolds sk.1 sk.2 && s.conditionHolds sk.1 sk.2
        && !told.any fun o => o.source == sk.1 && o.kind == sk.2).map
    fun sk => { source := sk.1, kind := sk.2 }

/-- R114: SHIFT_LIMITED for each shift whose limit indicator went from clear to set. -/
def State.newLimits (s before : State) : List Occurrence :=
  (allWindows.filter fun w => !before.shifts[w].limited && s.shifts[w].limited).map
    fun w => { source := .window w, kind := .shiftLimited }

/-! ## Change flags -/

/-- R11: what of a loaded pack sets the STOCK flag. -/
def Pack.stockView (k : Pack) : Nat × Nat × Nat × Location := (k.next, k.issued, k.spoiled, k.location)

/-- R11. -/
def State.stockChanged (s before : State) (p : PrinterId) : Bool :=
  before.printers[p].loaded != s.printers[p].loaded
    || (before.loadedPack p).map Pack.stockView != (s.loadedPack p).map Pack.stockView

/-- R24, R30, R31, R32: a printer's flags, set where its state has changed. -/
def State.printerFlags (s before : State) (p : PrinterId) : PrinterFlags :=
  let old := before.printers[p]
  let new := s.printers[p]
  { link := new.flags.link || old.link != new.link
    service := new.flags.service || old.service != new.service || old.pool != new.pool
      || old.outOfService != new.outOfService
    stock := new.flags.stock || s.stockChanged before p
    conditions := new.flags.conditions || old.conditions != new.conditions }

/-- R111, R163: a window's flags, set where its port or shift has changed. -/
def State.flagsOfWindow (s before : State) (w : Window) : WindowFlags :=
  let old := before.shifts[w]
  let new := s.shifts[w]
  { line := s.windowFlags[w].line || before.ports[w].attached != s.ports[w].attached
    shift := s.windowFlags[w].shift || old.state != new.state || (!old.limited && new.limited)
      || old.standingNumbers != new.standingNumbers || old.declaration != new.declaration }

/-- R163: every change flag whose state has changed since `before` is set. -/
def State.changeFlags (s before : State) : State :=
  { s.mapPrinters fun p pr => { pr with flags := s.printerFlags before p } with
    windowFlags := Vector.ofFn fun w : Window => s.flagsOfWindow before w }

/-! ## Housekeeping -/

/-- R70: a pending test print that is abandoned. -/
def State.testAbandoned (s : State) (p : PrinterId) : Bool :=
  let pr := s.printers[p]
  pr.test.any fun t =>
    !t.sent && (pr.service != .ready || s.hold || pr.capability.any (·.maxBody < bodyLength t.fields))

/-- R70: abandoned test prints end, TEST DONE ABANDONED going to the supervisor port. Where several are
abandoned in one step the manual does not order their frames: they go in the order of the printers, P0 to P7,
before the JOB ENDs and the other frames of the step that follow of themselves (the model's choice, log 9). -/
def State.abandonTests (s : State) : State :=
  let frames : List Frame := allPrinters.filterMap fun p =>
    if s.testAbandoned p then s.printers[p].test.map fun t => testDone t.tag p none .abandoned else none
  (s.mapPrinters fun p pr => if s.testAbandoned p then { pr with test := none } else pr).send .supervisor frames

/-- R56: the arbiter of a printer clears its burst holder. -/
def State.holderCleared (s : State) (p : PrinterId) (ref : JobRef) : Bool :=
  !s.canServe p
    || match s.job? ref with
      | none => true
      | some j => j.state != .active || s.remaining j == 0

/-- R56. -/
def State.clearHolders (s : State) : State :=
  s.mapPrinters fun p pr =>
    if pr.arbiter.holder.any (s.holderCleared p) then
      { pr with arbiter := { pr.arbiter with holder := none } }
    else pr

/-- R66: COMPLETE whenever the printed count equals the quantity. -/
def Job.endOutcome (j : Job) (o : JobOutcome) : JobOutcome := if j.printed = j.quantity then .complete else o

def Ending.outcome : Ending → JobOutcome
  | .cancelled => .cancelled
  | .recordFull => .recordFull
  | .detached => .detached

/-- R50, R68: the outcome with which a job is now removed, none while it stays. -/
def State.jobRemoved (s : State) (j : Job) : Option JobOutcome :=
  match j.state with
  | .queued => none
  | .ending e => if s.inFlight j.ref = 0 then some (j.endOutcome e.outcome) else none
  | .active =>
    if s.inFlight j.ref = 0 ∧ !s.isHolder j.ref ∧ j.printed = j.quantity then some .complete else none

/-- R50, R62, R63: a job entering QUEUED, its wait timers started with the limits as they stand. -/
def Job.enqueue (j : Job) (l : Limits) : Job :=
  { j with
    state := .queued, current := none, jobWait := some l.jobWait,
    routeWait := if j.target.isNone && !j.routePassed then some l.routeWait else none }

/-- R50: an ACTIVE job with nothing in flight and no burst holding returns to QUEUED. -/
def State.requeue (s : State) (j : Job) : Job :=
  if j.state = .active ∧ s.inFlight j.ref = 0 ∧ !s.isHolder j.ref then j.enqueue s.limits else j

/-- R50, R66, R68: jobs are settled, and each removed job's JOB END goes to its window in arrival order. -/
def State.settleJobs (s : State) : State :=
  { s.sendWindows fun w =>
      (s.jobs.filter (·.ref.window == w)).filterMap fun j => (s.jobRemoved j).map (jobEnd j) with
    jobs := (s.jobs.filter fun j => (s.jobRemoved j).isNone).map s.requeue }

/-- R132: a DRAINING shift whose window has no live job. -/
def State.drained (s : State) (w : Window) : Bool :=
  s.shifts[w].state == .draining && s.liveJobs w == 0

/-- R132, R133: drained shifts move to COUNTING, and SHIFT STATE goes to their windows. -/
def State.drain (s : State) : State :=
  let s' := s.mapShifts fun w h => if s.drained w then { h with state := .counting } else h
  s'.sendWindows fun w => if s.drained w then [s'.shiftStateFrame w] else []

/-- R36: the pause timer's three conditions. -/
def Printer.pauseDue (pr : Printer) : Bool := pr.conditions.paused && pr.staged.isSome && !pr.withdrawal

/-- R36: pause timers start with the pause limit, go on, or stop. -/
def State.pauseTimers (s : State) : State :=
  s.mapPrinters fun _ pr =>
    { pr with
      pauseTimer := if pr.pauseDue then some (pr.pauseTimer.getD s.limits.pause) else none }

/-- What follows of itself from the slots, printers and jobs as a command leaves them. -/
def State.housekeep (s : State) : State :=
  s.abandonTests.clearHolders.settleJobs.drain.pauseTimers

/-- The end of a step that began at `before`: housekeeping, the ends of conditions, the occurrences the
command raises and those that follow, the change flags and the outputs (log 9). -/
def State.commit (s before : State) (told : List Occurrence) : State :=
  let t := s.housekeep
  (((t.endConditions fun source kind => before.conditionHolds source kind && !t.conditionHolds source kind).raiseAll
      (told ++ t.newLimits before ++ t.newConditions before told)).changeFlags before).outputs

end Sys2Proof.Machine
end

