-- ==== Sys2Proof/Machine/Take.lean ====
section
/-!
DEFINITION. Taking a frame: a command on a terminal port with the checks of R175 and its answer (R176), a
frame on a printer line (R182), and an event that occurs only while the part runs (R185).
-/

namespace Sys2Proof.Machine

/-- What a command or an event answers. -/
abbrev Answer := Host.Outcome State Fault Refusal

/-- A check of a command's rule: where it fails, its code refuses the command. -/
def need (holds : Bool) (code : Code) : Except Code Unit := if holds then .ok () else .error code

/-- A check that also reads a value. -/
def want {α : Type} (found : Option α) (code : Code) : Except Code α :=
  match found with
  | some a => .ok a
  | none => .error code

/-- The port decodes frames: the part runs (R185) and the port is ATTACHED (R171). -/
def State.listens (s : State) (port : Port) : Bool := s.running && (s.port port).attached

/-- R173: after a sound frame the receiver hunts from the byte that follows. -/
def State.sound (s : State) (port : Port) : State := s.modPort port fun r => { r with rx := .fresh }

/-- REFUSED with the frame's kind and tag (R175). -/
def State.refuse (s : State) (port : Port) (code : Code) (kind : Byte) (tag : Tag) : State :=
  s.send port [refusedFrame code kind tag]

/-- ACCEPTED with the fields the command's rule gives. -/
def State.accept (s : State) (port : Port) (kind : Byte) (tag : Tag) (fields : List Byte) : State :=
  s.send port [acceptedFrame kind tag fields]

/-- A reply in place of ACCEPTED, with the tag of the command it answers (9.4). -/
def State.reply (s : State) (port : Port) (kind : Byte) (tag : Tag) (body : List Byte) : State :=
  s.send port [{ kind := kind, tag := tag, body := body }]

/-- A refused command changes nothing but that it is answered (9.5). -/
def State.answer (s : State) (port : Port) (kind : Byte) (tag : Tag) (result : Except Code State) : State :=
  match result with
  | .error code => s.refuse port code kind tag
  | .ok t => t

/-- R175, check 3: the body is no shorter and no longer than its layout allows. -/
def fits (lo hi : Nat) (body : List Byte) : Bool := lo ≤ body.length && body.length ≤ hi

/-- A window command: checks 2 and 3 of R175, then its owner's own. -/
def windowCommand (kind : Byte) (lo hi : Nat) (port : Port) (tag : Tag) (body : List Byte) (s : State)
    (act : Window → State → Except Code State) : Answer :=
  .next <|
    if s.listens port then
      let t := s.sound port
      t.answer port kind tag <|
        match port with
        | .supervisor => .error .permission
        | .window w => if fits lo hi body then act w t else .error .entryInvalid
    else s

/-- A supervisor command: checks 2 and 3 of R175, then its owner's own. -/
def supervisorCommand (kind : Byte) (lo hi : Nat) (port : Port) (tag : Tag) (body : List Byte) (s : State)
    (act : State → Except Code State) : Answer :=
  .next <|
    if s.listens port then
      let t := s.sound port
      t.answer port kind tag <|
        match port with
        | .window _ => .error .permission
        | .supervisor => if fits lo hi body then act t else .error .entryInvalid
    else s

/-- R39: an unexpected frame is ignored and raises PROTOCOL for the printer. -/
def State.protocol (s : State) (p : PrinterId) : State :=
  s.commit s [{ source := .printer p, kind := .protocol }]

/-- Frames of a printer are decoded in UP alone (R24), while the part runs (R185). -/
def State.decodes (s : State) (p : PrinterId) : Bool := s.running && s.printers[p].link == .up

/-- A sound frame on a printer line, expected or not: a body that is not of its layout's length is an
unexpected frame (R182), and so is one for which `act` answers none (R39). -/
def printerFrame (p : PrinterId) (length : Nat) (body : List Byte) (s : State) (act : State → Option State) :
    Answer :=
  .next <|
    if s.decodes p then
      if body.length = length then (act s).getD (s.protocol p) else s.protocol p
    else s

/-- An event that occurs only where `occurs` holds while the part runs (R185, log 2). -/
def event (s : State) (occurs : Bool) (act : State → State) : Answer :=
  .next (if s.running && occurs then act s else s)

end Sys2Proof.Machine
end

