-- ==== Sys2Proof/Machine/Accounts.lean ====
section
/-!
DEFINITION. Operations on a shift record: postings (R113, R114), recording a printed ticket (R74, R76,
R119), reservations (R59, R118).
-/

namespace Sys2Proof.Machine

/-- R114: a total held within its range. -/
def heldWithin (i : Int) : Int := max (-Config.totalLimit) (min Config.totalLimit i)

/-- R114: the addition of `a` to a total is held. -/
def isHeld (total a : Int) : Bool := heldWithin (total + a) != total + a

/-- R113: one portion added to its head. -/
def Shift.addHead (h : Shift) (head : Head) (a : Int) : Shift :=
  { h with
    heads := h.heads.set head (heldWithin (h.heads[head] + a))
    limited := h.limited || isHeld h.heads[head] a }

/-- R113: an amount added to its tender. -/
def Shift.addTender (h : Shift) (t : Tender) (a : Int) : Shift :=
  { h with
    tenders := h.tenders.set t (heldWithin (h.tenders.get t + a))
    limited := h.limited || isHeld (h.tenders.get t) a }

/-- R113: a posting, made whole: the tender and then each part's head in order. -/
def Shift.post (h : Shift) (t : Tender) (a : Int) (split : Split) : Shift :=
  (apportion a split).foldl (fun h hp => h.addHead hp.1 hp.2) (h.addTender t a)

/-- R113: the amount posted, the new tender total less the old. -/
def posted (before after : Shift) (t : Tender) : Int := after.tenders.get t - before.tenders.get t

/-- R53, R59: the entry of a number is of the main allowance, lies on the pack and ends just below the
serial. -/
def Shift.extends (h : Shift) (entry : Option Nat) (pack serial : Nat) : Bool :=
  (entry.bind (h.entries[·]?)).any fun e =>
    e.allowance == .main && e.pack == pack && e.first + e.count == serial

/-- R118: a reservation leaves the count. -/
def Shift.release (h : Shift) (held : Bool) : Shift :=
  { h with reservations := h.reservations - (if held then 1 else 0) }

/-- The entry a printed ticket of a job makes (R74, R76). -/
def Job.entry (j : Job) (t : Ticket) (allowance : Allowance) (read : Option Nat) : Entry :=
  { allowance := allowance, tag := j.ref.tag, pack := t.pack, first := t.serial, count := 1, unit := j.unit,
    tender := j.tender, concession := j.concession, split := j.split,
    disputed := allowance == .disputed, readSerial := read, writtenOff := false }

/-- R119: a ticket printed with its serial as sent: the shift and the job's last entry after it. -/
def Shift.recordIssued (h : Shift) (j : Job) (t : Ticket) : Shift × Option Nat :=
  if h.extends j.lastEntry t.pack t.serial then
    ({ h.release t.reserved with
        entries := h.entries.modify (j.lastEntry.getD 0) fun e => { e with count := e.count + 1 } },
      j.lastEntry)
  else
    ({ h.release t.reserved with entries := h.entries ++ [j.entry t .main none] }, some h.entries.length)

/-- R76: a disputed ticket: an entry of its own from the disputed allowance. `passed` says that the
ticket's reservation goes to its follower (R59). -/
def Shift.recordDisputed (h : Shift) (j : Job) (t : Ticket) (read : Option Nat) (passed : Bool) :
    Shift × Option Nat :=
  ({ h.release (t.reserved && !passed) with entries := h.entries ++ [j.entry t .disputed read] },
    some h.entries.length)

/-- R74, R116: one more ticket recorded and its charge posted over the job's split. -/
def Shift.charge (h : Shift) (j : Job) (split : Split) : Shift :=
  { h.post j.tender j.unit split with tickets := raised h.tickets 1 }

/-- R118: the reservation of a ticket of a job is released. -/
def State.releaseTicket (s : State) (t : Ticket) : State :=
  match t.owner with
  | some ref => s.modShift ref.window (·.release t.reserved)
  | none => s

end Sys2Proof.Machine
end

