-- ==== Sys2Proof/Machine/FaultCommands.lean ====
section
/-!
DEFINITION. The supervisor's commands on the fault table and the alarm: NEXT_FAULT (R159), READ_FAULT
(R160), ACK_FAULT (R161), READ_CHANGES (R163), SILENCE_ALARM (R167); the contact ALARM_IN (R166) and the
lamps' ACTIVITY_PULSE and FLASH (R168).
-/

namespace Sys2Proof.Machine

/-- R159: the oldest OPEN report of the highest severity. -/
def State.nextReport (s : State) : Option Report :=
  s.highestOpen.bind fun v => s.allReports.find? fun r => r.state == .opened && r.severity == v

/-- R159. -/
def execNextFault (port : Port) (tag : Tag) (body : List Byte) (s : State) : Answer :=
  supervisorCommand Cmd.nextFault 0 0 port tag body s fun s =>
    return s.reply port Out.faultReply tag (s.faultBody s.nextReport 0)

/-- R160: the place in the table's order of the report a number names, 0 naming the first place. -/
def State.reportPlace (s : State) (number : Nat) : Option Nat :=
  if number = 0 then some 0 else s.allReports.findIdx? (·.number == number)

/-- R160: the number of the report that follows a place, 0 where none follows. -/
def State.followingNumber (s : State) (place : Nat) : Nat :=
  (s.allReports[place + 1]?).elim 0 (·.number)

/-- R160. -/
def execReadFault (port : Port) (tag : Tag) (body : List Byte) (s : State) : Answer :=
  supervisorCommand Cmd.readFault 2 2 port tag body s fun s => do
    let place ← want (s.reportPlace (num body 0 2)) .notFound
    return s.reply port Out.faultReply tag
      (s.faultBody s.allReports[place]? (s.followingNumber place))

/-- R155, R161: the report of a number acknowledged, general or reserved. -/
def State.acknowledge (s : State) (number : Nat) : State :=
  { s with
    reports := s.reports.map fun r => if r.number = number then r.acknowledge else r
    reserved := s.reserved.map fun r => if r.number = number then r.acknowledge else r }

/-- R161. -/
def execAckFault (port : Port) (tag : Tag) (body : List Byte) (s : State) : Answer :=
  supervisorCommand Cmd.ackFault 2 2 port tag body s fun s => do
    let number := num body 0 2
    let r ← want (s.allReports.find? (·.number == number)) .notFound
    return ((s.acknowledge number).accept port Cmd.ackFault tag
      (be 2 number ++ be 1 r.acknowledge.state.code)).outputs

/-- R163: every change flag cleared. -/
def State.clearFlags (s : State) : State :=
  { s.mapPrinters fun _ pr => { pr with flags := .clear } with
    windowFlags := Vector.replicate 12 .clear }

/-- R163. -/
def execReadChanges (port : Port) (tag : Tag) (body : List Byte) (s : State) : Answer :=
  supervisorCommand Cmd.readChanges 0 0 port tag body s fun s =>
    return (s.reply port Out.changesReply tag s.changesBody).clearFlags

/-- R167. -/
def execSilenceAlarm (port : Port) (tag : Tag) (body : List Byte) (s : State) : Answer :=
  supervisorCommand Cmd.silenceAlarm 0 0 port tag body s fun s =>
    return ({ s with silenced := true }.accept port Cmd.silenceAlarm tag []).outputs

/-- R166: the contact taken as active or inactive, a change of what was taken. -/
def execAlarmIn (active : Bool) (s : State) : Answer :=
  event s (active != s.alarmIn) fun s => { s with alarmIn := active }.commit s []

/-- R168: the 100 ms of an activity pulse have passed. -/
def execActivityPulse (printer : PrinterId) (s : State) : Answer :=
  event s (s.printers[printer].lamp.aspect == .on && s.printers[printer].lamp.pulse) fun s =>
    s.modPrinter printer fun pr => { pr with lamp := { pr.lamp with lit := true, pulse := false } }

/-- R168: 250 ms of a flashing lamp have passed. -/
def execFlash (printer : PrinterId) (s : State) : Answer :=
  event s (s.printers[printer].lamp.aspect == .flash) fun s =>
    s.modPrinter printer fun pr => { pr with lamp := { pr.lamp with lit := !pr.lamp.lit } }

end Sys2Proof.Machine
end

