-- ==== Sys2Proof/Machine/Tickets.lean ====
section
/-!
DEFINITION. Operations on blanks and tickets: the stock register's three forms of outcome (R6), spoil runs
(R88, R89), slots, promotion and withdrawal (R33, R34, R37), tickets lost into an uncertain range (R40,
R85), its settlement (R7, R42), and the ending of jobs (R64, R65, R67).
-/

namespace Sys2Proof.Machine

/-! ## Blanks -/

/-- R6: a serial applied as issued. -/
def State.issueBlank (s : State) (pack : Nat) : State :=
  s.modPack pack fun k => { k with issued := k.issued + 1 }

/-- R6: a serial returned: next is set to it. -/
def State.returnBlank (s : State) (pack serial : Nat) : State :=
  s.modPack pack fun k => { k with next := serial }

/-- R88: a run joins the spoil list, raising its pack's spoiled count (R2), moving next past the run (R6)
and raising the spoil count of the shift it is charged to. -/
def State.writeRun (s : State) (pack first count : Nat) (cause : Cause) (printer : Option PrinterId)
    (charged : Option JobRef) : State :=
  let run : SpoilRun :=
    { pack := pack, first := first, count := count, cause := cause, printer := printer, charged := charged,
      time := s.clock }
  let t := { s with spoils := s.spoils ++ [run] }.modPack pack fun k =>
    { k with spoiled := k.spoiled + count, next := max k.next (first + count) }
  match charged with
  | some ref => t.modShift ref.window fun h => { h with spoils := raised h.spoils count }
  | none => t

/-- R18, R42, R89: the runs of consecutive spoiled serials of a range: one where all are charged alike,
otherwise one for each serial. Each is its first serial, its count and its charge. -/
def runsOf (first : Nat) : List (Option JobRef) → List (Nat × Nat × Option JobRef)
  | [] => []
  | c :: rest =>
    if rest.all (· == c) then [(first, rest.length + 1, c)]
    else (first, 1, c) :: runsOf (first + 1) rest

/-- The spoiled serials of a range written with cause LINK_LOST (R18, R42). -/
def State.spoilRange (s : State) (p : PrinterId) (pack first : Nat) (charges : List (Option JobRef)) : State :=
  (runsOf first charges).foldl
    (fun s r => s.writeRun pack r.1 r.2.1 .linkLost (some p) r.2.2) s

/-- R3, R29, R43: a printer's loaded-pack reference emptied, with what ends with it. -/
def State.emptyPrinter (s : State) (p : PrinterId) : State :=
  s.modPrinter p fun pr => { pr with loaded := none, stockHold := false, mismatch := false }

/-- R19, R81: every unused blank of a pack written off and the pack made SAFE; R8: its day mark while the
day is CLOSED. -/
def State.writeOff (s : State) (k : Pack) : State :=
  let t := if 0 < k.unused then s.writeRun k.id k.next k.unused .writtenOff none none else s
  t.modPack k.id fun x =>
    { x with
      next := x.last + 1, location := .safe, compromisedAt := none,
      dayMark := if s.dayOpen then x.dayMark else x.last + 1 }

/-! ## Slots -/

/-- R37: WITHDRAW sent for the staged ticket; nothing where none is staged or one is outstanding. -/
def Printer.askWithdrawal (pr : Printer) : Printer :=
  match pr.staged with
  | some t =>
    if pr.withdrawal then pr
    else { pr with withdrawal := true, sent := pr.sent ++ [withdrawFrame t.serial] }
  | none => pr

/-- R34: the staged ticket moves into PRINTING and its print timer starts. -/
def Printer.promote (pr : Printer) : Printer :=
  match pr.staged with
  | some t => { pr with printing := some t, staged := none, printTimer := true }
  | none => pr

/-- R34, first step of R73 on PRINTED: PRINTING emptied, and the staged ticket promoted unless the
printer is paused or a withdrawal is outstanding. -/
def Printer.finishPrinting (pr : Printer) : Printer :=
  let q := { pr with printing := none, printTimer := false }
  if pr.conditions.paused || pr.withdrawal then q else q.promote

/-- R87: the TICKET REPORT of a job's ticket, or the TEST DONE of a test print (R71), which then ends. -/
def State.ticketEnds (s : State) (p : PrinterId) (t : Ticket) (job : TicketOutcome) (test : TestOutcome) : State :=
  match t.owner with
  | some ref => s.send (.window ref.window) [ticketReport ref.tag p t job]
  | none =>
    match s.printers[p].test with
    | some x => (s.modPrinter p fun pr => { pr with test := none }).send .supervisor [testDone x.tag p (some t) test]
    | none => s

/-- R61: the arbiter of the printer clears the job as burst holder. -/
def State.backOff (s : State) (p : PrinterId) (owner : Option JobRef) : State :=
  s.modPrinter p fun pr =>
    if owner.isSome && pr.arbiter.holder == owner then { pr with arbiter := { pr.arbiter with holder := none } }
    else pr

/-- R85: one ticket lost to the part: its reservation is released, its job backs off, and the loss is
reported. -/
def State.loseTicket (s : State) (p : PrinterId) (t : Ticket) : State :=
  ((s.releaseTicket t).backOff p t.owner).ticketEnds p t .lost .lost

/-- R40: the uncertain range made of the tickets in the slots, none where both are empty. -/
def rangeOf : List Ticket → Option Range
  | [] => none
  | t :: rest =>
    some { pack := t.pack, first := t.serial, charges := (t :: rest).map (·.owner), disputed := false }

/-- R40: the slots emptied into a new uncertain range; an earlier range is kept (R25). -/
def Printer.moveToRange (pr : Printer) : Printer :=
  { pr with
    range := match rangeOf pr.tickets with
      | some g => some g
      | none => pr.range
    printing := none, staged := none, printTimer := false }

/-- R25, R35, R40: the tickets in flight moved into the uncertain range and reported lost. -/
def State.loseTickets (s : State) (p : PrinterId) : State :=
  s.printers[p].tickets.foldl (fun s t => s.loseTicket p t) (s.modPrinter p Printer.moveToRange)

/-- R41: TOP REPORT sent, the recovery query outstanding with its timer started. -/
def Printer.beginRecovery (pr : Printer) : Printer :=
  { pr with query := some .first, sent := pr.sent ++ [topReport] }

/-- R28, R41: recovery begins where the printer has a range that is not disputed. -/
def Printer.recoverIfDue (pr : Printer) : Printer :=
  if pr.range.any (!·.disputed) then pr.beginRecovery else pr

/-- R29: the loaded pack's type is missing from the capability. -/
def State.mismatches (s : State) (p : PrinterId) : Bool :=
  (s.loadedPack p).any fun k => s.printers[p].capability.any fun c => !c.types.getLsbD k.stock.val

/-- R29, R37: the capability compared with the loaded pack, a mismatch asking for the staged ticket's
withdrawal. -/
def State.compareCapability (s : State) (p : PrinterId) : State :=
  s.modPrinter p fun pr =>
    if s.mismatches p then { pr with mismatch := true }.askWithdrawal else { pr with mismatch := false }

/-- R29: the PROTOCOL report of a mismatch, with the pack id. -/
def State.mismatchReport (s : State) (p : PrinterId) : List Occurrence :=
  if s.mismatches p then
    [{ source := .printer p, kind := .protocol, pack := s.printers[p].loaded }]
  else []

/-! ## Link loss (R25) -/

/-- R14: a load check ends without loading; the pack stays SAFE. -/
def State.endLoadCheck (s : State) (p : PrinterId) (c : LoadCheck) (o : LoadOutcome) : State :=
  ((s.modPack c.pack fun k => { k with loadCheck := none }).modPrinter p fun pr =>
      { pr with loadCheck := none }).send .supervisor [loadDone c p o]

/-- R14: the LOAD_MISMATCH of a load check, with the pack id and the serial read, if one was. -/
def loadMismatch (p : PrinterId) (c : LoadCheck) (read : Option Nat) : Occurrence :=
  { source := .printer p, kind := .loadMismatch, pack := some c.pack, serial := read }

/-- R17: an unload check ends, and UNLOAD DONE goes to the supervisor port. -/
def State.endUnloadCheck (s : State) (p : PrinterId) (c : UnloadCheck) (pack : Option Nat) (o : UnloadOutcome) :
    State :=
  (s.modPrinter p fun pr => { pr with unloadCheck := none }).send .supervisor [unloadDone c.tag p pack o]

/-- R25: what a printer's line forgets when its link leaves UP for `link`. -/
def Printer.lineLost (pr : Printer) (link : Link) : Printer :=
  { pr with
    link := link, quiet := false, capabilityWait := false, capability := none, conditions := .clear,
    mismatch := false, printTimeout := false, printTimer := false, pauseTimer := none,
    withdrawal := false, query := none }

/-- R14, R17: the checks that a link loss ends. -/
def State.endChecks (s : State) (p : PrinterId) : State :=
  let a := match s.printers[p].loadCheck with
    | some c => s.endLoadCheck p c .linkLost
    | none => s
  match a.printers[p].unloadCheck with
  | some c => a.endUnloadCheck p c a.printers[p].loaded .linkLost
  | none => a

/-- R25: a link loss, the link going to DOWN or to JABBER. -/
def State.linkLoss (s : State) (p : PrinterId) (link : Link) : State :=
  ((s.loseTickets p).modPrinter p (·.lineLost link)).endChecks p

/-- R25: the reports a link loss raises: LOAD_MISMATCH of a load check it ends (R14), and LINK_LOST. -/
def State.linkLossReports (s : State) (p : PrinterId) : List Occurrence :=
  (s.printers[p].loadCheck.map fun c => loadMismatch p c none).toList
    ++ [{ source := .printer p, kind := .linkLost }]

/-! ## Ending jobs -/

/-- R64, R65, R67: a QUEUED or ACTIVE job goes to ENDING; housekeeping removes it at once where nothing
of it is in flight. -/
def Job.toEnding (j : Job) (e : Ending) : Job :=
  match j.state with
  | .ending _ => j
  | .queued | .active => { j with state := .ending e, current := none, jobWait := none, routeWait := none }

/-- The staged ticket of a printer belongs to an ACTIVE job of the selection (R37). -/
def State.stagedOf (s : State) (p : PrinterId) (chosen : Job → Bool) : Bool :=
  s.printers[p].staged.any fun t =>
    (t.owner.bind s.job?).any fun j => j.state == .active && chosen j

/-- R64, R65, R67: the chosen jobs end with the outcome, and their staged tickets are withdrawn. -/
def State.endJobs (s : State) (chosen : Job → Bool) (e : Ending) : State :=
  { s.mapPrinters fun p pr => if s.stagedOf p chosen then pr.askWithdrawal else pr with
    jobs := s.jobs.map fun j => if chosen j then j.toEnding e else j }

end Sys2Proof.Machine
end

