-- ==== Sys2Proof/Machine/Jobs.lean ====
section
/-!
DEFINITION. The issue queue and the pool arbiters: ISSUE (R48, R49), CANCEL (R64), TEST_PRINT (R69), GRANT
(R51 to R58), JOB_WAIT (R62) and ROUTE_WAIT (R63).
-/

namespace Sys2Proof.Machine

/-! ## ISSUE -/

/-- R48, check 7, and R49: the target and the stock type a selector names. -/
def State.selected (s : State) (sel : Selector) : Except Code (Option PrinterId × StockType) :=
  match sel with
  | .pool stock => do
    let t ← want (named 4 stock) .stockType
    return (none, t)
  | .specific printer typeBits => do
    let p : PrinterId ← want (named 8 printer) .printerNumber
    if typeBits = 0 then
      let k ← want (s.loadedPack p) .stockType
      return (some p, k.stock)
    else
      let t ← want (named 4 (typeBits - 1)) .stockType
      return (some p, t)

/-- R48, R49: the job an ISSUE body asks for, or the code that refuses it. -/
def State.issueJob (s : State) (w : Window) (tag : Tag) (body : List Byte) : Except Code Job := do
  need (s.dayOpen && s.shifts[w].state == .opened) .shiftState
  need (s.job? { window := w, tag := tag }).isNone .tagInUse
  need (s.jobs.length < Config.maxJobs) .queueFull
  need (s.liveJobs w < Config.maxJobsPerWindow) .windowLimit
  let fare := num body 0 3
  need (fare ≤ Config.maxFare) .fareRange
  let concession ← want (named 16 (num body 3 1)) .concession
  need s.concessions[concession].valid .concession
  let split ← want (named 16 (num body 4 1)) .split
  need (!(s.splits[split] : Split).isEmpty) .split
  let target ← s.selected (selectorOf (num body 7 1))
  let fields ← want (ticketBody (num body 8 1) (body.drop 9)) .bodyLength
  let tender ← want (tenderNamed (num body 5 1)) .entryInvalid
  need (num body 6 1 ≤ 63) .entryInvalid
  let job : Job :=
    { ref := { window := w, tag := tag }, target := target.1, stock := target.2,
      concession := concession, split := split, tender := tender, baseFare := fare,
      unit := unitCharge fare s.concessions[concession], quantity := quantityOf (num body 6 1),
      printed := 0, jamSpoiled := 0, state := .queued, fields := fields, routePassed := false,
      current := none, lastEntry := none, charged := 0, jobWait := none, routeWait := none }
  return job.enqueue s.limits

/-- R48, R49. -/
def execIssue (port : Port) (tag : Tag) (body : List Byte) (s : State) : Answer :=
  windowCommand Cmd.issue 9 Config.maxFrameBody port tag body s fun w s => do
    let job ← s.issueJob w tag body
    let t := { s with jobs := s.jobs ++ [job] }
    return t.accept port Cmd.issue tag (be 3 job.unit ++ be 4 (job.unit * job.quantity))

/-! ## CANCEL and the waits -/

/-- R64. -/
def execCancel (port : Port) (tag : Tag) (body : List Byte) (s : State) : Answer :=
  windowCommand Cmd.cancel 1 1 port tag body s fun w s => do
    let jobTag : Tag := BitVec.ofNat 8 (num body 0 1)
    need (s.job? { window := w, tag := jobTag }).isSome .notFound
    return ((s.accept port Cmd.cancel tag [jobTag]).endJobs
      (fun j => j.ref == { window := w, tag := jobTag }) .cancelled).commit s []

/-- R62: the job wait's outcome. -/
def Job.waitOutcome (j : Job) : JobOutcome := if j.target.isNone then .noPrinter else .printerUnavailable

/-- R62: a QUEUED job's job wait expires: its JOB END is sent and it is removed. -/
def execJobWait (window : Window) (tag : Tag) (s : State) : Answer :=
  let ref : JobRef := { window := window, tag := tag }
  match s.job? ref with
  | some j =>
    event s (j.state == .queued && j.jobWait.isSome) fun s =>
      let t := { s with jobs := s.jobs.filter (·.ref != ref) }
      (t.send (.window window) [jobEnd j (j.endOutcome j.waitOutcome)]).commit s []
  | none => event s false id

/-- R63: a pool job's route wait expires. -/
def execRouteWait (window : Window) (tag : Tag) (s : State) : Answer :=
  let ref : JobRef := { window := window, tag := tag }
  match s.job? ref with
  | some j =>
    event s (j.state == .queued && j.routeWait.isSome) fun s =>
      s.modJob ref fun j => { j with routePassed := true, routeWait := none }
  | none => event s false id

/-! ## TEST PRINT -/

/-- R69. -/
def execTestPrint (port : Port) (tag : Tag) (body : List Byte) (s : State) : Answer :=
  supervisorCommand Cmd.testPrint 2 Config.maxFrameBody port tag body s fun s => do
    let p : PrinterId ← want (named 8 (num body 0 1)) .printerNumber
    let fields ← want (ticketBody (num body 1 1) (body.drop 2)) .bodyLength
    need (!s.hold) .hold
    let pr := s.printers[p]
    need (pr.service == .ready && !pr.occupied) .printerState
    need (pr.capability.any fun c => bodyLength fields ≤ c.maxBody) .bodyLength
    let t := s.modPrinter p fun pr => { pr with test := some { tag := tag, fields := fields, sent := false } }
    return t.accept port Cmd.testPrint tag (be 1 p.val)

/-! ## Eligibility (R52, R53, R78) -/

/-- R52: the job's target matches the printer. -/
def State.targets (s : State) (p : PrinterId) (j : Job) : Bool :=
  match j.target with
  | some q => q == p
  | none => s.printers[p].pool || (j.routePassed && s.fallback[j.stock] == some p)

/-- R52: every condition but the entry condition. -/
def State.suits (s : State) (p : PrinterId) (j : Job) : Bool :=
  (j.state == .queued || (j.state == .active && j.current == some p))
    && 1 ≤ s.remaining j
    && (s.loadedPack p).any (fun k => k.stock == j.stock)
    && s.printers[p].capability.any (fun c => bodyLength j.fields ≤ c.maxBody)
    && s.targets p j

/-- R53. -/
inductive TicketClass where
  | extension
  | follower (aheadReserved : Bool)
  | newEntry
deriving DecidableEq, Repr

/-- R53: the class of the job's next ticket on the printer. -/
def State.ticketClass (s : State) (p : PrinterId) (j : Job) : TicketClass :=
  let extension := (s.loadedPack p).any fun k => s.shifts[j.ref.window].extends j.lastEntry k.id k.next
  if s.inFlight j.ref = 0 && extension then .extension
  else match s.printers[p].printing with
    | some ahead => if ahead.owner = some j.ref then .follower ahead.reserved else .newEntry
    | none => .newEntry

/-- R53: a reservation is taken at the send. -/
def TicketClass.reserves : TicketClass → Bool
  | .extension => false
  | .follower aheadReserved => !aheadReserved
  | .newEntry => true

/-- R53, R78: the entry condition. -/
def State.entryHolds (s : State) (p : PrinterId) (j : Job) : Bool :=
  let h := s.shifts[j.ref.window]
  (!(s.ticketClass p j).reserves || h.hasFreeEntry) && s.windowInFlight j.ref.window < h.freeDisputed

/-- R52: the job is eligible on the printer. -/
def State.eligible (s : State) (p : PrinterId) (j : Job) : Bool := s.suits p j && s.entryHolds p j

/-- R58, R78: the job is to end RECORD_FULL: a new entry and no free one, or no free disputed place. -/
def State.recordFull (s : State) (p : PrinterId) (j : Job) : Bool :=
  let h := s.shifts[j.ref.window]
  s.suits p j && ((s.ticketClass p j == .newEntry && !h.hasFreeEntry) || h.freeDisputed == 0)

/-- R58: the jobs that end RECORD_FULL go to ENDING (log 23). -/
def State.endRecordFull (s : State) (p : PrinterId) : State :=
  { s with jobs := s.jobs.map fun j => if s.recordFull p j then j.toEnding .recordFull else j }

/-! ## Arbitration (R54, R55) -/

inductive Choice where
  | nothing
  | test (t : TestPrint)
  | holder (j : Job)
  | burst (j : Job)
deriving DecidableEq, Repr

/-- R54: the windows in rotation after the pointer. -/
def rotationAfter (w : Window) : List Window := allWindows.map fun i => w + 1 + i

/-- R54, step 3: the first window in rotation with an eligible job, and its oldest. -/
def firstInRotation (pointer : Window) (jobs : List Job) : Option Job :=
  (rotationAfter pointer).findSome? fun w => jobs.find? (·.ref.window == w)

/-- R54, step 3: specific jobs before pool jobs. -/
def preferred (jobs : List Job) : List Job :=
  if jobs.any (·.target.isSome) then jobs.filter (·.target.isSome) else jobs

/-- R54: the burst holder's job, while the burst is short of the limit and every condition but its entry
condition holds. -/
def State.claimant (s : State) (p : PrinterId) : Option Job :=
  let a := s.printers[p].arbiter
  ((a.holder.bind s.job?).filter fun j => s.suits p j).filter fun _ => a.burst < s.limits.burst

/-- R54: what the arbiter of a printer chooses. -/
def State.choose (s : State) (p : PrinterId) : Choice :=
  match s.printers[p].test.filter (!·.sent) with
  | some t => .test t
  | none =>
    match s.claimant p with
    | some j => if s.entryHolds p j then .holder j else .nothing
    | none =>
      match firstInRotation s.printers[p].arbiter.rotation (preferred (s.jobs.filter (s.eligible p))) with
      | some j => .burst j
      | none => .nothing

/-- R55: the arbiter after a grant. -/
def Arbiter.granted (a : Arbiter) : Choice → Arbiter
  | .nothing => a
  | .test _ => a
  | .holder _ => { a with burst := a.burst + 1 }
  | .burst j => { rotation := j.ref.window, holder := some j.ref, burst := 1 }

/-! ## Sending (R5, R33, R58) -/

/-- R33: a ticket placed in PRINTING if that slot is empty, otherwise in STAGED, and PRINT sent. -/
def Printer.place (pr : Printer) (t : Ticket) (stock : StockType) (fields : List (List Byte)) : Printer :=
  let staged := pr.printing.isSome
  let q := if staged then { pr with staged := some t } else { pr with printing := some t, printTimer := true }
  { q with sent := q.sent ++ [printFrame staged stock t fields], lamp := q.lamp.pulsed }

/-- R5: the next serial of the pack assigned. -/
def State.assign (s : State) (k : Pack) : State := s.modPack k.id fun k => { k with next := k.next + 1 }

/-- R58: a job granted: its reservation taken, its serial assigned, PRINT sent, the job ACTIVE. -/
def State.sendJob (s : State) (p : PrinterId) (k : Pack) (j : Job) : State :=
  let reserves := (s.ticketClass p j).reserves
  let t : Ticket := { owner := some j.ref, pack := k.id, serial := k.next, reserved := reserves }
  let a := s.modShift j.ref.window fun h =>
    { h with reservations := h.reservations + (if reserves then 1 else 0) }
  ((a.assign k).modPrinter p fun pr => pr.place t k.stock j.fields).modJob j.ref fun j =>
    { j with state := .active, current := some p, jobWait := none, routeWait := none }

/-- R70: the pending test print granted. -/
def State.sendTest (s : State) (p : PrinterId) (k : Pack) (x : TestPrint) : State :=
  let t : Ticket := { owner := none, pack := k.id, serial := k.next, reserved := false }
  (s.assign k).modPrinter p fun pr =>
    { pr.place t k.stock x.fields with test := some { x with sent := true } }

/-- R51, R55, R58: one grant of the arbiter of a printer that can take a ticket from its loaded pack. -/
def State.grantOne (s : State) (p : PrinterId) (k : Pack) : State :=
  let c := s.choose p
  let t := match c with
    | .nothing => s
    | .test x => s.sendTest p k x
    | .holder j => s.sendJob p k j
    | .burst j => s.sendJob p k j
  t.modPrinter p fun pr => { pr with arbiter := pr.arbiter.granted c }

/-- R51, R54, R58. -/
def execGrant (printer : PrinterId) (s : State) : Answer :=
  event s (s.canTake printer) fun s =>
    match s.loadedPack printer with
    | some k => ((s.endRecordFull printer).grantOne printer k).commit s []
    | none => s

end Sys2Proof.Machine
end

