-- ==== Sys2Proof/Machine/Lines.lean ====
section
/-!
DEFINITION. The printer lines: SET_SERVICE (R32), RESET_LINE (R27), the events of the link (R24 to R26) and
the timers of a printer line controller (R28, R35, R36, R38, R41, R14, R17), and the framing faults of a
printer line (R39, R182).
-/

namespace Sys2Proof.Machine

/-! ## Supervisor commands -/

/-- R32: the FALLBACK table names the printer for some stock type. -/
def State.isFallback (s : State) (p : PrinterId) : Bool :=
  ([0, 1, 2, 3] : List StockType).any fun t => s.fallback[t] == some p

/-- R32. -/
def execSetService (port : Port) (tag : Tag) (body : List Byte) (s : State) : Answer :=
  supervisorCommand Cmd.setService 3 3 port tag body s fun s => do
    let p : PrinterId ← want (named 8 (num body 0 1)) .printerNumber
    let pool := num body 1 1 == 0
    let out := num body 2 1 != 0
    need (!(pool && !s.printers[p].pool && s.isFallback p)) .printerState
    need (!s.printers[p].occupied) .printerState
    return ((s.modPrinter p fun pr => { pr with pool := pool, outOfService := out }).accept
      port Cmd.setService tag (be 1 p.val)).commit s []

/-- R27: the link forced to DOWN. -/
def State.forceDown (s : State) (p : PrinterId) : State :=
  match s.printers[p].link with
  | .up => s.linkLoss p .down
  | .settling | .jabber => s.modPrinter p fun pr => { pr with link := .down, quiet := false }
  | .down => s

/-- R27: the reports a RESET LINE raises: those of a link loss, from UP. -/
def State.forceDownReports (s : State) (p : PrinterId) : List Occurrence :=
  if s.printers[p].link = .up then s.linkLossReports p else []

/-- R27. -/
def execResetLine (port : Port) (tag : Tag) (body : List Byte) (s : State) : Answer :=
  supervisorCommand Cmd.resetLine 1 1 port tag body s fun s => do
    let p : PrinterId ← want (named 8 (num body 0 1)) .printerNumber
    return ((s.accept port Cmd.resetLine tag (be 1 p.val)).forceDown p).commit s (s.forceDownReports p)

/-! ## The link (R24 to R26) -/

/-- R24: what a printer line carries for a list of frames sent on it: the frames in their order, idle
characters and nothing else before, between and after them. `gap n` is the number of idle characters before
frame n, which follows from timing alone and is left open (log 37). -/
def lineBytes (gap : Nat → Nat) (frames : List Frame) : List Byte :=
  (frames.zipIdx.map fun x => List.replicate (gap x.2) Config.idleByte ++ x.1.line).flatten
    ++ List.replicate (gap frames.length) Config.idleByte

/-- R24, R187: what the part has sent on a printer line since the start. -/
def State.lineSent (s : State) (p : PrinterId) (gap : Nat → Nat) : List Byte :=
  lineBytes gap s.printers[p].sent

/-- R24: the character a printer line carries while the part runs and sends no frame on it; none while the part
does not run and its lines are held at mark (R185). -/
def State.lineIdle (s : State) : Option Byte := if s.running then some Config.idleByte else none

/-- R24: in DOWN, the first valid idle mark starts the settle timer. -/
def execIdleMark (printer : PrinterId) (s : State) : Answer :=
  event s (s.printers[printer].link == .down) fun s =>
    (s.modPrinter printer fun pr => { pr with link := .settling }).commit s []

/-- R24: a gap returns a SETTLING link to DOWN; R26: a character restarts the measure of quiet of a line
in JABBER (log 22). -/
def execLinkGap (printer : PrinterId) (cause : GapCause) (s : State) : Answer :=
  match s.printers[printer].link with
  | .settling =>
    event s true fun s => (s.modPrinter printer fun pr => { pr with link := .down }).commit s []
  | .jabber =>
    event s (cause == .character) fun s => s.modPrinter printer fun pr => { pr with quiet := false }
  | .down => event s false id
  | .up => event s false id

/-- R24, R25, R28: the link becomes UP, LINK_LOST ends and the capability wait starts. -/
def execSettleTimer (printer : PrinterId) (s : State) : Answer :=
  event s (s.printers[printer].link == .settling) fun s =>
    ((s.modPrinter printer fun pr => { pr with link := .up, capabilityWait := true }).endCondition
      (.printer printer) .linkLost).commit s []

/-- R24, R25: the silence timer takes the link from UP to DOWN. -/
def execSilenceTimer (printer : PrinterId) (s : State) : Answer :=
  event s (s.printers[printer].link == .up) fun s =>
    (s.linkLoss printer .down).commit s (s.linkLossReports printer)

/-- R26: a frame in progress for 300 ms puts the link into JABBER, a link loss. -/
def execJabber (printer : PrinterId) (s : State) : Answer :=
  event s (s.printers[printer].link == .up) fun s =>
    (s.linkLoss printer .jabber).commit s (s.linkLossReports printer)

/-- R26: the line leaves JABBER for SETTLING. -/
def Printer.settle (pr : Printer) : Printer := { pr with link := .settling, quiet := false }

/-- R26: 1.0 s of quiet: to SETTLING with the latch off, otherwise remembered. -/
def execJabberQuiet (printer : PrinterId) (s : State) : Answer :=
  event s (s.printers[printer].link == .jabber) fun s =>
    (s.modPrinter printer fun pr =>
      if s.limits.latches.getLsbD printer.val then { pr with quiet := true } else pr.settle).commit s []

/-! ## Timers -/

/-- R28: the BASIC capability. -/
def Capability.asBasic : Capability :=
  { types := 1#4, maxBody := Config.basicMaxBody, staging := false, model := 0, basic := true }

/-- R28: the capability wait ends with this capability; R29 compares it, and recovery begins (R41). -/
def State.endCapabilityWait (s : State) (p : PrinterId) (c : Capability) : State :=
  ((s.modPrinter p fun pr => { pr with capabilityWait := false, capability := some c }).compareCapability
    p).modPrinter p Printer.recoverIfDue

/-- R28: the wait expires and the printer is taken as BASIC. -/
def execCapabilityWait (printer : PrinterId) (s : State) : Answer :=
  event s (s.printers[printer].link == .up && s.printers[printer].capabilityWait) fun s =>
    let t := s.endCapabilityWait printer .asBasic
    t.commit s ({ source := .printer printer, kind := .capabilityBasic } :: t.mismatchReport printer)

/-- R35: the print timer expires: the tickets are lost, the print-timeout fault set, TOP REPORT sent. A
withdrawal outstanding is abandoned (R35) or stays only to meet its reply (R38), as the free constant has it
(log 10). -/
def execPrintTimer (printer : PrinterId) (s : State) : Answer :=
  match s.printers[printer].printing with
  | some t =>
    event s s.printers[printer].printTimer fun s =>
      ((s.loseTickets printer).modPrinter printer fun pr =>
        { pr with
          withdrawal := pr.withdrawal && Config.withdrawalOutlivesTimeout, pauseTimer := none
          printTimeout := true }.beginRecovery).commit s
        [{ source := .printer printer, kind := .printTimeout, pack := some t.pack, serial := some t.serial }]
  | none => event s false id

/-- R36: the pause timer expires: PAUSE_TIMEOUT, and the staged ticket's withdrawal is asked for. -/
def execPauseTimer (printer : PrinterId) (s : State) : Answer :=
  match s.printers[printer].staged with
  | some t =>
    event s s.printers[printer].pauseTimer.isSome fun s =>
      (s.modPrinter printer fun pr => { pr with pauseTimer := none }.askWithdrawal).commit s
        [{ source := .printer printer, kind := .pauseTimeout, serial := some t.serial,
           window := t.owner.map (·.window) }]
  | none => event s false id

/-- R38: a withdrawal ends as TOO_LATE: the staged ticket is promoted where PRINTING is empty, and stays
where it is occupied. -/
def Printer.endWithdrawal (pr : Printer) : Printer :=
  let q := { pr with withdrawal := false }
  if pr.printing.isNone then q.promote else q

/-- R38: the withdrawal timer expires. -/
def execWithdrawalTimer (printer : PrinterId) (s : State) : Answer :=
  event s s.printers[printer].withdrawal fun s => (s.modPrinter printer (·.endWithdrawal)).commit s []

/-- R41: the query timer expires: TOP REPORT once more, or the query ends undecided. -/
def execQueryTimer (printer : PrinterId) (s : State) : Answer :=
  match s.printers[printer].query with
  | some .first =>
    event s true fun s =>
      (s.modPrinter printer fun pr => { pr with query := some .second }).sendLine printer topReport
  | some .second =>
    event s true fun s =>
      (s.modPrinter printer fun pr => { pr with query := none, printTimeout := true }).commit s
        [{ source := .printer printer, kind := .printTimeout,
           pack := s.printers[printer].range.map (·.pack),
           serial := s.printers[printer].range.map (·.first) }]
  | none => event s false id

/-- R14: the answer timer of a load check expires. -/
def execLoadAnswerTimer (printer : PrinterId) (s : State) : Answer :=
  match s.printers[printer].loadCheck with
  | some c =>
    event s true fun s =>
      match c.attempt with
      | .first =>
        (s.modPrinter printer fun pr =>
          { pr with loadCheck := some { c with attempt := .second } }).sendLine printer topReport
      | .second => (s.endLoadCheck printer c .noAnswer).commit s [loadMismatch printer c none]
  | none => event s false id

/-- R17: the answer timer of an unload check expires. -/
def execUnloadAnswerTimer (printer : PrinterId) (s : State) : Answer :=
  match s.printers[printer].unloadCheck with
  | some c =>
    event s true fun s =>
      match c.attempt with
      | .first =>
        (s.modPrinter printer fun pr =>
          { pr with unloadCheck := some { c with attempt := .second } }).sendLine printer topReport
      | .second =>
        (s.endUnloadCheck printer c s.printers[printer].loaded .noAnswer).commit s
          [{ source := .printer printer, kind := .protocol }]
  | none => event s false id

/-! ## Framing faults -/

/-- R39, R182: a bad start, length or check discards the frame and raises PROTOCOL. -/
def execPrinterFrameError (printer : PrinterId) (cause : FramingFault) (s : State) : Answer :=
  if !genuine cause true then .fault .illFormed
  else event s (s.printers[printer].link == .up) fun s => s.protocol printer

/-- R39: a gap of 20 ms within a frame discards it and raises PROTOCOL. -/
def execPrinterFrameGap (printer : PrinterId) (s : State) : Answer :=
  event s (s.printers[printer].link == .up) fun s => s.protocol printer

/-- R39: a sound frame of a kind that no printer sends. -/
def execPrinterUnknownKind (printer : PrinterId) (kind : Byte) (s : State) : Answer :=
  if printerKind kind then .fault .illFormed
  else event s (s.printers[printer].link == .up) fun s => s.protocol printer

end Sys2Proof.Machine
end

