-- ==== Sys2Proof/Machine/Outcomes.lean ====
section
/-!
DEFINITION. The frames of the printers: CAPABILITY (R28, R29), STATUS (R31), PRINTED (R73 to R79), JAMMED
(R82 to R84), WITHDRAWN and TOO_LATE (R38), TOP (R7, R14, R16, R42).
-/

namespace Sys2Proof.Machine

/-- 9.8, CAPABILITY: the capability a body declares. -/
def capabilityOf (body : List Byte) : Capability :=
  { types := BitVec.ofNat 4 (num body 0 1), maxBody := clamp 64 200 (num body 1 1),
    staging := num body 2 1 != 0, model := num body 3 2, basic := false }

/-- R28, R29. -/
def execCapability (printer : PrinterId) (_tag : Tag) (body : List Byte) (s : State) : Answer :=
  printerFrame printer 5 body s fun s =>
    let c := capabilityOf body
    let t :=
      if s.printers[printer].capabilityWait then s.endCapabilityWait printer c
      else (s.modPrinter printer fun pr => { pr with capability := some c }).compareCapability printer
    some (t.commit s (t.mismatchReport printer))

/-- 9.8, STATUS: the condition flags a body carries. -/
def conditionsOf (body : List Byte) : Conditions :=
  let n := num body 0 1
  { paused := n.testBit 0, coverOpen := n.testBit 1, headFault := n.testBit 2, jamPresent := n.testBit 3 }

/-- R31: COVER_OPEN, HEAD_FAULT or JAM_PRESENT goes from clear to set. -/
def Conditions.worsens (old new : Conditions) : Bool :=
  (!old.coverOpen && new.coverOpen) || (!old.headFault && new.headFault)
    || (!old.jamPresent && new.jamPresent)

/-- R31, R34, R37: the flags replaced; a promotion waiting on PAUSED released; then a withdrawal asked for
where a fault flag has come (log 11). -/
def Printer.takeStatus (pr : Printer) (c : Conditions) : Printer :=
  let q := { pr with conditions := c }
  let released :=
    if pr.conditions.paused && !c.paused && pr.printing.isNone && !pr.withdrawal then q.promote else q
  if pr.conditions.worsens c then released.askWithdrawal else released

/-- R31. -/
def execStatus (printer : PrinterId) (_tag : Tag) (body : List Byte) (s : State) : Answer :=
  printerFrame printer 1 body s fun s =>
    some ((s.modPrinter printer (·.takeStatus (conditionsOf body))).commit s [])

/-! ## PRINTED -/

/-- R168: a PRINTED the part takes starts the activity pulse (log 14). -/
def Printer.pulse (pr : Printer) : Printer := { pr with lamp := pr.lamp.pulsed }

/-- R59: the disputed ticket's reservation passes to its job's follower in STAGED. -/
def Printer.passes (pr : Printer) (t : Ticket) : Bool :=
  t.reserved && pr.staged.any fun f => f.owner == t.owner && !f.reserved

/-- R59: the follower takes the reservation. -/
def Printer.passReservation (pr : Printer) (t : Ticket) : Printer :=
  if pr.passes t then { pr with staged := pr.staged.map fun f => { f with reserved := true } } else pr

/-- R74, R76, R119: a job's printed ticket recorded in its shift and charged, and its job and window told. -/
def State.settleJobTicket (s : State) (p : PrinterId) (t : Ticket) (j : Job) (read : Option Nat)
    (passed : Bool) : State :=
  let w := j.ref.window
  let h := s.shifts[w]
  let same := read == some t.serial
  let r := if same then h.recordIssued j t else h.recordDisputed j t read passed
  let after := r.1.charge j s.splits[j.split]
  let amount := posted h after j.tender
  let u := (s.modShift w fun _ => after).modJob j.ref fun j =>
    { j with printed := j.printed + 1, charged := j.charged + amount, lastEntry := r.2 }
  u.send (.window w)
    [ticketReport j.ref.tag p t
      (if same then .issued amount (j.printed + 1) else .disputed read amount (j.printed + 1))]

/-- R43, R76, R79: the stock-hold marker set where the serial read differs. -/
def State.holdIf (s : State) (p : PrinterId) (differs : Bool) : State :=
  s.modPrinter p fun pr => { pr with stockHold := pr.stockHold || differs }

/-- R74, R76: a PRINTED for a job's ticket. -/
def State.printedJob (s : State) (p : PrinterId) (t : Ticket) (ref : JobRef) (read : Option Nat) : State :=
  let differs := read != some t.serial
  let passed := differs && s.printers[p].passes t
  let a := (s.modPrinter p fun pr =>
    ((if differs then pr.passReservation t else pr).finishPrinting).pulse).issueBlank t.pack
  let b := match s.job? ref with
    | some j => a.settleJobTicket p t j read passed
    | none => a
  b.holdIf p differs

/-- R75, R79: a PRINTED for a test print. -/
def State.printedTest (s : State) (p : PrinterId) (t : Ticket) (read : Option Nat) : State :=
  let differs := read != some t.serial
  let a := (s.modPrinter p fun pr => pr.finishPrinting.pulse).writeRun t.pack t.serial 1 .test (some p) none
  (a.ticketEnds p t .lost (if differs then .disputed read else .printed)).holdIf p differs

/-- R76: the SERIAL_DISPUTE a disputed job ticket raises, with its pack, serial, window and job tag. -/
def disputeReport (p : PrinterId) (t : Ticket) (ref : JobRef) : Occurrence :=
  { source := .printer p, kind := .serialDispute, pack := some t.pack, serial := some t.serial,
    window := some ref.window, jobTag := some ref.tag }

/-- R73. -/
def execPrinted (printer : PrinterId) (tag : Tag) (body : List Byte) (s : State) : Answer :=
  printerFrame printer 3 body s fun s =>
    let read := serialRead (num body 0 3)
    match s.printers[printer].printing with
    | some t =>
      if tag = slotTag false then
        match t.owner with
        | some ref =>
          some ((s.printedJob printer t ref read).commit s
            (if read = some t.serial then [] else [disputeReport printer t ref]))
        | none => some ((s.printedTest printer t read).commit s [])
      else none
    | none => none

/-! ## JAMMED -/

/-- R82: the count of a jam, 0 taken as 1 and above 4 as 4. -/
def jamCount (n : Nat) : Nat := clamp 1 4 n

/-- R82: the count settled against the pack's last serial. -/
def State.jamRun (s : State) (t : Ticket) (n : Nat) : Nat :=
  (s.pack? t.pack).elim (jamCount n) fun k => min (jamCount n) (k.last + 1 - t.serial)

/-- R82: the PROTOCOL report of a count of 0, or of a run beyond the pack's last serial. -/
def State.jamProtocol (s : State) (p : PrinterId) (t : Ticket) (n : Nat) : List Occurrence :=
  if n = 0 then [{ source := .printer p, kind := .protocol }]
  else if s.jamRun t n < jamCount n then
    [{ source := .printer p, kind := .protocol, pack := some t.pack, serial := some t.serial }]
  else []

/-- R84: the JAM report, with the pack, serial, and a job's window and tag. -/
def jamReport (p : PrinterId) (t : Ticket) : Occurrence :=
  { source := .printer p, kind := .jam, pack := some t.pack, serial := some t.serial,
    window := t.owner.map (·.window), jobTag := t.owner.map (·.tag) }

/-- R84: the printing job's jam-spoiled count raised. -/
def State.countJam (s : State) (owner : Option JobRef) (k : Nat) : State :=
  match owner with
  | some ref => s.modJob ref fun j => { j with jamSpoiled := raised j.jamSpoiled k }
  | none => s

/-- R83, R84: the staged ticket discarded: its blank returned unless the run took it. -/
def State.discardStaged (s : State) (p : PrinterId) (f : Ticket) (spoiled : Bool) : State :=
  let a := if spoiled then s else s.returnBlank f.pack f.serial
  ((a.releaseTicket f).backOff p f.owner).ticketEnds p f (.discarded spoiled) .discarded

/-- R83, R84: a jam of k blanks on the printing ticket. -/
def State.jam (s : State) (p : PrinterId) (t : Ticket) (k : Nat) : State :=
  let staged := s.printers[p].staged
  let a := s.modPrinter p fun pr =>
    { pr with
      printing := none, staged := none, printTimer := false
      conditions := { pr.conditions with jamPresent := true } }
  let b := a.writeRun t.pack t.serial k (if t.owner.isSome then .jam else .test) (some p) t.owner
  let c := (((b.countJam t.owner k).releaseTicket t).backOff p t.owner).ticketEnds p t (.jammed k) (.jammed k)
  match staged with
  | some f => c.discardStaged p f (2 ≤ k)
  | none => c

/-- R82 to R84. -/
def execJammed (printer : PrinterId) (tag : Tag) (body : List Byte) (s : State) : Answer :=
  printerFrame printer 1 body s fun s =>
    match s.printers[printer].printing with
    | some t =>
      if tag = slotTag false then
        some ((s.jam printer t (s.jamRun t (num body 0 1))).commit s
          (s.jamProtocol printer t (num body 0 1) ++ [jamReport printer t]))
      else none
    | none => none

/-! ## WITHDRAWN and TOO_LATE (R38) -/

/-- R38: the staged ticket withdrawn. -/
def State.withdrawStaged (s : State) (p : PrinterId) (t : Ticket) : State :=
  ((((s.modPrinter p fun pr => { pr with staged := none, withdrawal := false }).returnBlank
    t.pack t.serial).releaseTicket t).backOff p t.owner).ticketEnds p t .withdrawn .withdrawn

/-- R38. -/
def execWithdrawn (printer : PrinterId) (tag : Tag) (body : List Byte) (s : State) : Answer :=
  printerFrame printer 3 body s fun s =>
    if s.printers[printer].withdrawal && tag == slotTag true then
      match s.printers[printer].staged with
      | some t =>
        if t.serial = num body 0 3 then some ((s.withdrawStaged printer t).commit s []) else none
      | none => some ((s.modPrinter printer fun pr => { pr with withdrawal := false }).commit s [])
    else none

/-- R38. -/
def execTooLate (printer : PrinterId) (tag : Tag) (body : List Byte) (s : State) : Answer :=
  printerFrame printer 3 body s fun s =>
    let pr := s.printers[printer]
    if pr.withdrawal && tag == slotTag true then
      match pr.staged with
      | some t =>
        if t.serial = num body 0 3 && pr.printing.isNone then
          some ((s.modPrinter printer (·.endWithdrawal)).commit s [])
        else none
      | none => some ((s.modPrinter printer fun pr => { pr with withdrawal := false }).commit s [])
    else none

/-! ## TOP -/

/-- R14, R42: a top serial, no blank sensed being last + 1 of the pack concerned. -/
def topOf (k : Pack) (n : Nat) : Nat := (serialRead n).getD (k.last + 1)

/-- R14: the pack loaded, TOP being its next serial. -/
def State.load (s : State) (p : PrinterId) (c : LoadCheck) : State :=
  ((s.modPack c.pack fun k => { k with location := .loaded p }).modPrinter p fun pr =>
    { pr with loaded := some c.pack }).compareCapability p

/-- R14: a TOP ends a load check. -/
def State.topLoad (s : State) (p : PrinterId) (c : LoadCheck) (k : Pack) (t : Nat) : State :=
  if t = k.next then
    let u := (s.load p c).endLoadCheck p c .loaded
    u.commit s (u.mismatchReport p)
  else (s.endLoadCheck p c (.mismatch t)).commit s [loadMismatch p c (some t)]

/-- R16: the unloaded pack SAFE. -/
def State.makeSafe (s : State) (pack : Nat) : State :=
  s.modPack pack fun k => { k with location := .safe, compromisedAt := none }

/-- R16: a TOP ends an unload check. -/
def State.topUnload (s : State) (p : PrinterId) (c : UnloadCheck) (k : Pack) (t : Nat) : State :=
  if t = k.next then
    (((s.makeSafe k.id).emptyPrinter p).endUnloadCheck p c (some k.id) .clean).commit s []
  else if k.next < t ∧ t ≤ k.last + 1 then
    ((((s.writeRun k.id k.next (t - k.next) .missing (some p) none).makeSafe k.id).emptyPrinter
      p).endUnloadCheck p c (some k.id) (.missing (t - k.next))).commit s
      [{ source := .printer p, kind := .missingBlanks, pack := some k.id, serial := some k.next }]
  else
    (((s.modPack k.id fun k => { k with location := .compromised, compromisedAt := some p }).emptyPrinter
      p).endUnloadCheck p c (some k.id) (.dispute t)).commit s
      [{ source := .printer p, kind := .serialDispute }]

/-- R7, R42: a TOP in the range's window: the serials below it spoiled, the rest returned. -/
def State.settleRange (s : State) (p : PrinterId) (g : Range) (t : Nat) : State :=
  ((s.spoilRange p g.pack g.first (g.charges.take (t - g.first))).returnBlank g.pack t).modPrinter p fun pr =>
    { pr with range := none, query := none, printTimeout := false }

/-- R7, R42: a TOP ends a recovery query. -/
def State.topRecover (s : State) (p : PrinterId) (g : Range) (t : Nat) : State :=
  if g.first ≤ t ∧ t ≤ g.first + g.charges.length then
    (s.settleRange p g t).commit s
      (if g.first < t then
        [{ source := .printer p, kind := .recoverySpoil, pack := some g.pack, serial := some g.first }]
      else [])
  else
    (s.modPrinter p fun pr =>
      { pr with range := some { g with disputed := true }, stockHold := true, query := none }).commit s
      [{ source := .printer p, kind := .serialDispute }]

/-- R39, R42: the operation a TOP ends: a load check, an unload check or a recovery query. -/
def State.takeTop (s : State) (p : PrinterId) (n : Nat) : Option State :=
  let pr := s.printers[p]
  match pr.loadCheck with
  | some c => (s.pack? c.pack).map fun k => s.topLoad p c k (topOf k n)
  | none =>
    match pr.unloadCheck with
    | some c => (s.loadedPack p).map fun k => s.topUnload p c k (topOf k n)
    | none =>
      if pr.query.isSome then
        pr.range.bind fun g => (s.pack? g.pack).map fun k => s.topRecover p g (topOf k n)
      else none

/-- R42. -/
def execTop (printer : PrinterId) (_tag : Tag) (body : List Byte) (s : State) : Answer :=
  printerFrame printer 3 body s fun s => s.takeTop printer (num body 0 3)

end Sys2Proof.Machine
end

