-- ==== Sys2Proof/Machine/Ports.lean ====
section
/-!
DEFINITION. The events of the terminal ports: UNKNOWN_KIND (R175), FRAME_ERROR and FRAME_GAP (R174), BREAK
(R171), ATTACH (R172) and FRAME_SENT (R176).
-/

namespace Sys2Proof.Machine

/-- R174: the source of a port's FRAME_ERROR: the window, or the office for the supervisor port. -/
def portSource : Port → Source
  | .window w => .window w
  | .supervisor => .office

/-- R175, check 1. -/
def execUnknownKind (port : Port) (kind : Byte) (tag : Tag) (s : State) : Answer :=
  if commandKind kind then .fault .illFormed
  else .next (if s.listens port then (s.sound port).refuse port .unknownKind kind tag else s)

/-- R174: the frame discarded, the interface hunting again, and FRAME_ERROR raised after `frames`. -/
def State.framingFault (s : State) (port : Port) (frames : List Frame) : State :=
  ((s.modPort port fun r => { r with rx := .hunting }).send port frames).commit s
    [{ source := portSource port, kind := .frameError }]

/-- R174: a bad start is answered and reported only after a sound frame or an attach; a bad length and a
bad check always. -/
def execFrameError (port : Port) (cause : FramingFault) (s : State) : Answer :=
  if !genuine cause false then .fault .illFormed
  else .next <|
    if s.listens port then
      match cause with
      | .badStart _ => if (s.port port).rx = .fresh then s.framingFault port [frameRefusal] else s
      | .badLength _ => s.framingFault port [frameRefusal]
      | .badCheck _ _ _ _ => s.framingFault port [frameRefusal]
    else s

/-- R174: a gap has no answer. -/
def execFrameGap (port : Port) (s : State) : Answer :=
  event s (s.port port).attached fun s => s.framingFault port []

/-- R171: the port becomes DETACHED, its frames discarded; a window's jobs end (R67), and LINE_BREAK is
raised where its shift is not IDLE (R162). -/
def execLineBreak (port : Port) (s : State) : Answer :=
  event s (s.port port).attached fun s =>
    let t := s.modPort port fun _ => .start
    match port with
    | .supervisor => t
    | .window w =>
      (t.endJobs (fun j => j.ref.window == w) .detached).commit s
        (if s.shifts[w].state = .idle then [] else [{ source := .window w, kind := .lineBreak }])

/-- R172: the port becomes ATTACHED and sends PORT STATUS; a window's LINE flag is set and its LINE_BREAK
ends. -/
def execAttach (port : Port) (s : State) : Answer :=
  event s (!(s.port port).attached) fun s =>
    let t := s.modPort port fun r => { r with attached := true, rx := .fresh }
    let u := t.send port [t.portStatus port]
    match port with
    | .supervisor => u
    | .window w =>
      (u.endCondition (.window w) .lineBreak).modWindowFlags w fun f => { f with line := true }

/-- R176: the first waiting frame has been sent, and the next is begun. -/
def execFrameSent (port : Port) (s : State) : Answer :=
  event s (s.port port).attached fun s => s.modPort port fun r => { r with tx := r.tx.tail }

end Sys2Proof.Machine
end

