-- ==== Sys2Proof/Machine/Settings.lean ====
section
/-!
DEFINITION. The settings tables behind the cursor: SELECT_ENTRY (R178), READ_ENTRY and WRITE_ENTRY (R97,
R99, R136, R164, R179 to R181); and the office clock's commands SET_CLOCK (R189) and READ_OFFICE (R190).
-/

namespace Sys2Proof.Machine

/-- R178. -/
def execSelectEntry (port : Port) (tag : Tag) (body : List Byte) (s : State) : Answer :=
  supervisorCommand Cmd.selectEntry 2 2 port tag body s fun s => do
    let c ← want (cursorNamed (num body 0 1) (num body 1 1)) .entryInvalid
    return { s with cursor := c }.accept port Cmd.selectEntry tag (be 1 c.table ++ be 1 c.index)

/-- R179. -/
def execReadEntry (port : Port) (tag : Tag) (body : List Byte) (s : State) : Answer :=
  supervisorCommand Cmd.readEntry 0 0 port tag body s fun s =>
    return s.reply port Out.entryReply tag s.cursorBody

/-! ## WRITE_ENTRY -/

/-- 9.8, "Entry bodies": the length of the body of the table a cursor names. -/
def Cursor.bodyLength : Cursor → Nat
  | .concession _ => 7
  | .split _ => 17
  | .routing _ => 3
  | .fallback _ => 1
  | .tolerance _ => 4
  | .limits => 10

/-- R97. -/
def State.writeConcession (s : State) (i : EntryIndex) (body : List Byte) : Except Code State := do
  need (!s.tableLock) .tableLocked
  need (num body 0 1 == 0 || stepAllowed (num body 6 1)) .entryInvalid
  let c : Concession :=
    if num body 0 1 = 0 then .invalid
    else { valid := true, discount := num body 1 2, minimum := min (num body 3 3) Config.maxFare,
           step := num body 6 1 }
  return { s with concessions := s.concessions.set i c }

/-- R99, check 3: the parts of `n` places from byte `off`, none where a head or a share is out of range. -/
def partsFrom (body : List Byte) : Nat → Nat → Option Split
  | 0, _ => some []
  | n + 1, off =>
    match named 8 (num body off 1) with
    | some head =>
      if num body (off + 1) 3 ≤ Config.wholeShare then
        (partsFrom body n (off + 4)).map ({ head := head, share := num body (off + 1) 3 } :: ·)
      else none
    | none => none

/-- R99. -/
def State.writeSplit (s : State) (i : EntryIndex) (body : List Byte) : Except Code State := do
  need (!s.tableLock) .tableLocked
  need (num body 0 1 ≤ 4) .entryInvalid
  let split ← want (partsFrom body (num body 0 1) 1) .entryInvalid
  need split.sound .entryInvalid
  return { s with splits := s.splits.set i split }

/-- R164, R179. -/
def State.writeRouting (s : State) (p : PrinterId) (body : List Byte) : Except Code State := do
  let minimum ← want (severityNamed (num body 2 1)) .entryInvalid
  return { s with
    routing := s.routing.set p { windows := BitVec.ofNat 12 (num body 0 2), minimum := minimum } }

/-- R181. -/
def State.writeFallback (s : State) (t : StockType) (body : List Byte) : Except Code State :=
  if num body 0 1 = 0xFF then return { s with fallback := s.fallback.set t none }
  else do
    let p : PrinterId ← want (named 8 (num body 0 1)) .entryInvalid
    need (!s.printers[p].pool) .entryInvalid
    return { s with fallback := s.fallback.set t (some p) }

/-- R136, R179. -/
def State.writeTolerance (s : State) (t : Tender) (body : List Byte) : Except Code State :=
  return { s with tolerance := s.tolerance.set t (min (num body 0 4) Config.maxTolerance) }

/-- R180: the settings of a LIMITS body, each clamped into its range. -/
def limitsOf (body : List Byte) : Limits :=
  { burst := clamp 1 16 (num body 0 1), pause := clamp 5 120 (num body 1 1),
    routeWait := clamp 5 300 (num body 2 2), jobWait := clamp 10 600 (num body 4 2),
    lowStock := clamp 0 500 (num body 6 2), latches := BitVec.ofNat 8 (num body 8 1),
    alarmEnable := num body 9 1 != 0 }

/-- R26, R180: a latch off on a line of JABBER already quiet moves the line to SETTLING. -/
def State.settleQuiet (s : State) : State :=
  s.mapPrinters fun p pr =>
    if pr.link == .jabber && pr.quiet && !s.limits.latches.getLsbD p.val then pr.settle else pr

/-- R180. -/
def State.writeLimits (s : State) (body : List Byte) : Except Code State :=
  return { s with limits := limitsOf body }.settleQuiet

/-- R179: the entry the cursor names written from an entry body. -/
def State.writeEntry (s : State) (body : List Byte) : Except Code State :=
  match s.cursor with
  | .concession i => s.writeConcession i body
  | .split i => s.writeSplit i body
  | .routing p => s.writeRouting p body
  | .fallback t => s.writeFallback t body
  | .tolerance t => s.writeTolerance t body
  | .limits => s.writeLimits body

/-- R179. -/
def execWriteEntry (port : Port) (tag : Tag) (body : List Byte) (s : State) : Answer :=
  supervisorCommand Cmd.writeEntry s.cursor.bodyLength s.cursor.bodyLength port tag body s fun s => do
    let t ← s.writeEntry body
    return (t.accept port Cmd.writeEntry tag t.cursorBody).commit s []

/-! ## The office clock -/

/-- R189. -/
def execSetClock (port : Port) (tag : Tag) (body : List Byte) (s : State) : Answer :=
  supervisorCommand Cmd.setClock 5 5 port tag body s fun s => do
    let now : Stamp := { time := num body 0 3, day := num body 3 2 }
    need (now.time < Config.secondsPerDay && now.day < Config.dayNumbers) .entryInvalid
    return { s with clock := now, clockUnset := false }.accept port Cmd.setClock tag (beStamp now)

/-- R190. -/
def execReadOffice (port : Port) (tag : Tag) (body : List Byte) (s : State) : Answer :=
  supervisorCommand Cmd.readOffice 0 0 port tag body s fun s =>
    return s.reply port Out.officeReply tag s.officeBody

end Sys2Proof.Machine
end

