-- ==== Sys2Proof/Machine/Shifts.lean ====
section
/-!
DEFINITION. The commands of the shift accounts: the window's OPEN_SHIFT, VOID, REFUND, CLOSE_SHIFT, DECLARE
and QUERY_SHIFT, and the supervisor's READ_SHIFT, READ_ENTRIES, RESOLVE_DISPUTE, REOPEN_COUNT, SIGN_OFF,
OPEN_DAY and CLOSE_DAY (chapters 4, 6 and 7).
-/

namespace Sys2Proof.Machine

/-- R111: the window's SHIFT change flag set. -/
def State.flagShift (s : State) (w : Window) : State :=
  s.modWindowFlags w fun f => { f with shift := true }

/-! ## Opening (R112) -/

/-- R112. -/
def execOpenShift (port : Port) (tag : Tag) (body : List Byte) (s : State) : Answer :=
  windowCommand Cmd.openShift 4 4 port tag body s fun w s => do
    need s.dayOpen .dayState
    need (s.shifts[w].state == .idle) .shiftState
    let float := min (num body 0 4) Config.maxFloat
    return ((s.modShift w fun h =>
      { h with state := .opened, float := float, openedAt := some s.clock }).flagShift w).accept
        port Cmd.openShift tag (be 4 float)

/-! ## Voids and refunds (R121 to R123) -/

/-- R121, check 3: the number of the entry of a shift that holds a serial of a stock type. -/
def State.entryHolding (s : State) (w : Window) (stock : StockType) (serial : Nat) : Option Nat :=
  s.shifts[w].entries.findIdx? fun e =>
    e.covers serial && (s.pack? e.pack).any (·.stock == stock)

/-- R122: the shift after a void of a serial of an entry. -/
def State.voided (s : State) (h : Shift) (e : Entry) (serial : Nat) : Shift :=
  let listed : Shift :=
    { h with
      voids := h.voids ++ [{ pack := e.pack, serial := serial, time := s.clock }],
      voidCount := raised h.voidCount 1 }
  listed.post e.tender (-e.unit) s.splits[e.split]

/-- R121, R122. -/
def execVoid (port : Port) (tag : Tag) (body : List Byte) (s : State) : Answer :=
  windowCommand Cmd.void 4 4 port tag body s fun w s => do
    let h := s.shifts[w]
    let serial := num body 1 3
    need (h.state == .opened || h.state == .draining) .shiftState
    let stock ← want (named 4 (num body 0 1)) .stockType
    let number ← want (s.entryHolding w stock serial) .notVoidable
    let e ← want h.entries[number]? .notVoidable
    need (!e.disputed) .notVoidable
    need (!h.voids.any fun v => v.pack == e.pack && v.serial == serial) .notVoidable
    need (h.voids.length < Config.maxVoids) .voidListFull
    let after := s.voided h e serial
    return (((s.modShift w fun _ => after).accept port Cmd.void tag
      (be 1 number ++ beInt 4 (posted h after e.tender))).commit s [])

/-- R123. -/
def execRefund (port : Port) (tag : Tag) (body : List Byte) (s : State) : Answer :=
  windowCommand Cmd.refund 5 5 port tag body s fun w s => do
    let h := s.shifts[w]
    let amount := num body 0 3
    need (h.state == .opened) .shiftState
    need (1 ≤ amount && amount ≤ Config.maxFare) .fareRange
    let tender ← want (tenderNamed (num body 3 1)) .entryInvalid
    let split ← want (named 16 (num body 4 1)) .split
    need (!(s.splits[split] : Split).isEmpty) .split
    let after := { h with refunds := raised h.refunds 1 }.post tender (-amount) s.splits[split]
    return (((s.modShift w fun _ => after).accept port Cmd.refund tag
      (beInt 4 (posted h after tender))).commit s [])

/-! ## Closing and counting (R130 to R140) -/

/-- R130. -/
def execCloseShift (port : Port) (tag : Tag) (body : List Byte) (s : State) : Answer :=
  windowCommand Cmd.closeShift 0 0 port tag body s fun w s => do
    need (s.shifts[w].state == .opened) .shiftState
    return ((((s.modShift w fun h => { h with state := .draining }).accept port Cmd.closeShift tag []).endJobs
      (fun j => j.ref.window == w) .cancelled).commit s [])

/-- R135: the expected amounts: the tender totals, with the float added to CASH. -/
def Shift.expected (h : Shift) : Tenders Int :=
  { h.tenders with cash := h.tenders.cash + h.float }

/-- R136. -/
def classOf (variance : Int) (tolerance : Nat) : TenderClass :=
  if (tolerance : Int) < variance then .over
  else if variance < -(tolerance : Int) then .short
  else .balanced

/-- R137. -/
def Shift.overall (h : Shift) (classes : Tenders TenderClass) : Overall :=
  if h.limited then .limited
  else if classes.cash = .balanced ∧ classes.card = .balanced ∧ classes.warrant = .balanced then .balanced
  else .out

/-- R135 to R139: the declaration made of three declared amounts. -/
def State.declarationOf (s : State) (w : Window) (declared : Tenders Nat) : Declaration :=
  let h := s.shifts[w]
  let variances := h.expected.map fun t expected => heldWithin (declared.get t - expected)
  let classes := variances.map fun t v => classOf v (s.tolerance.get t)
  { declared := declared, expected := h.expected, tolerances := s.tolerance, variances := variances,
    classes := classes, result := h.overall classes, status := s.stockStatus w, recount := h.recount,
    time := s.clock }

/-- R134: the declared amounts of a body, each held at its greatest value. -/
def declaredAmounts (body : List Byte) : Tenders Nat :=
  { cash := min (num body 0 4) Config.maxDeclared
    card := min (num body 4 4) Config.maxDeclared
    warrant := min (num body 8 4) Config.maxDeclared }

/-- R134, R139, R140. -/
def execDeclare (port : Port) (tag : Tag) (body : List Byte) (s : State) : Answer :=
  windowCommand Cmd.declare 12 12 port tag body s fun w s => do
    need (s.shifts[w].state == .counting) .shiftState
    let d := s.declarationOf w (declaredAmounts body)
    let t := (s.modShift w fun h => { h with state := .declared, declaration := some d }).send port
      [cashUpResult tag d]
    return t.commit s
      (if d.result = .out then
        [{ source := .window w, kind := .shiftVariance, recount := some d.recount }]
      else [])

/-- R124. -/
def execQueryShift (port : Port) (tag : Tag) (body : List Byte) (s : State) : Answer :=
  windowCommand Cmd.queryShift 0 0 port tag body s fun w s =>
    return s.reply port Out.queryReply tag (s.queryBody w)

/-! ## The supervisor's reads (R125, R126) -/

/-- R125. -/
def execReadShift (port : Port) (tag : Tag) (body : List Byte) (s : State) : Answer :=
  supervisorCommand Cmd.readShift 1 1 port tag body s fun s => do
    let w : Window ← want (named 12 (num body 0 1)) .entryInvalid
    return s.reply port Out.shiftReply tag (s.shiftBody w)

/-- R126. -/
def execReadEntries (port : Port) (tag : Tag) (body : List Byte) (s : State) : Answer :=
  supervisorCommand Cmd.readEntries 4 4 port tag body s fun s => do
    let list := num body 1 1
    let start := num body 2 1
    let count := num body 3 1
    need (1 ≤ count && count ≤ 8) .entryInvalid
    let w : Window ← want (named 12 (num body 0 1)) .entryInvalid
    need (list ≤ 1) .entryInvalid
    need (start ≤ (if list = 0 then 103 else 31)) .entryInvalid
    return s.reply port Out.entriesReply tag (s.shifts[w].entriesBody (list == 1) start count)

/-! ## Disputes (R80, R81) -/

/-- R43, R81: the stock-hold markers that a resolution on a pack clears. -/
def State.clearMarkers (s : State) (pack : Nat) : State :=
  s.mapPrinters fun _ pr =>
    if pr.loaded == some pack && pr.range.isNone && !s.packDisputed pack then
      { pr with stockHold := false }
    else pr

/-- R81: the entry's mark cleared, its read serial kept, a written-off note taken for WRITE-OFF. -/
def Shift.resolveEntry (h : Shift) (number : Nat) (writeOff : Bool) : Shift :=
  { h with
    entries := h.entries.modify number fun e =>
      { e with disputed := false, writtenOff := e.writtenOff || writeOff } }

/-- R80: checks 3 and 4, for WRITE-OFF only: the pack to be written off, if any. -/
def State.disputedPack (s : State) (e : Entry) (writeOff : Bool) : Except Code (Option Pack) :=
  if writeOff then do
    need (!s.hold) .hold
    let k ← want (s.pack? e.pack) .packState
    need ((k.location == .safe || k.location == .compromised) && k.loadCheck.isNone) .packState
    return some k
  else return none

/-- R80, R81. -/
def execResolveDispute (port : Port) (tag : Tag) (body : List Byte) (s : State) : Answer :=
  supervisorCommand Cmd.resolveDispute 3 3 port tag body s fun s => do
    let number := num body 1 1
    let w : Window ← want (named 12 (num body 0 1)) .entryInvalid
    need (num body 2 1 ≤ 1) .entryInvalid
    let h := s.shifts[w]
    need (h.state != .idle) .notFound
    let e ← want h.entries[number]? .notFound
    need e.disputed .notFound
    let off := num body 2 1 == 1
    let pack ← s.disputedPack e off
    let t := s.modShift w (·.resolveEntry number off)
    let u := pack.elim t t.writeOff
    return (((u.clearMarkers e.pack).accept port Cmd.resolveDispute tag
      (be 1 w.val ++ be 1 number ++ be 2 (pack.elim 0 Pack.unused))).commit s [])

/-! ## Recount and sign-off (R141, R143) -/

/-- R133: SHIFT STATE to the window. -/
def State.sendShiftState (s : State) (w : Window) : State := s.send (.window w) [s.shiftStateFrame w]

/-- R141. -/
def execReopenCount (port : Port) (tag : Tag) (body : List Byte) (s : State) : Answer :=
  supervisorCommand Cmd.reopenCount 1 1 port tag body s fun s => do
    let w : Window ← want (named 12 (num body 0 1)) .entryInvalid
    let h := s.shifts[w]
    need (h.state == .declared && h.recount < Config.maxRecounts) .shiftState
    return ((((s.modShift w fun h => { h with state := .counting, recount := h.recount + 1 }).flagShift w).accept
      port Cmd.reopenCount tag (be 1 w.val ++ be 1 (h.recount + 1))).sendShiftState w)

/-- R143. -/
def execSignOff (port : Port) (tag : Tag) (body : List Byte) (s : State) : Answer :=
  supervisorCommand Cmd.signOff 1 1 port tag body s fun s => do
    let w : Window ← want (named 12 (num body 0 1)) .entryInvalid
    need (s.shifts[w].state == .declared) .shiftState
    need (s.stockStatus w == .clear) .disputeOpen
    return ((((s.modShift w fun h =>
      { h with state := .signedOff, signedOffAt := some s.clock }).flagShift w).accept
        port Cmd.signOff tag (be 1 w.val)).sendShiftState w)

/-! ## The office day (R144 to R146) -/

/-- R8: every pack's day mark set to its next serial. -/
def State.markDay (s : State) : State :=
  { s with packs := s.packs.map fun k => { k with dayMark := k.next } }

/-- R144. -/
def execOpenDay (port : Port) (tag : Tag) (body : List Byte) (s : State) : Answer :=
  supervisorCommand Cmd.openDay 0 0 port tag body s fun s => do
    need (!s.dayOpen) .dayState
    return ({ s.markDay with dayOpen := true }.accept port Cmd.openDay tag (be 1 s.packs.length))

/-- R145: the five checks of CLOSE DAY. -/
def State.dayCanClose (s : State) : Bool :=
  s.dayOpen
    && allWindows.all (fun w => s.shifts[w].state == .idle || s.shifts[w].state == .signedOff)
    && allPrinters.all (fun p => s.printers[p].tickets.isEmpty)
    && allPrinters.all (fun p => s.printers[p].range.isNone)
    && allPrinters.all (fun p => s.printers[p].loadCheck.isNone)

/-- R146: the shift is emptied by CLOSE DAY. -/
def Shift.emptied (h : Shift) : Bool := h.state == .signedOff

/-- R146, R162: the SIGNED_OFF shifts emptied, SHIFT STATE sent to each, and the LINE_BREAK of each whose
port is detached ended. -/
def State.emptyShifts (s : State) : State :=
  let t := s.mapShifts fun _ h => if h.emptied then .empty else h
  (t.sendWindows fun w => if s.shifts[w].emptied then [t.shiftStateFrame w] else []).endConditions
    fun source kind => match source with
      | .window w => kind == .lineBreak && s.shifts[w].emptied && !s.ports[w].attached
      | _ => false

/-- R93: the spoil list emptied and the hold's condition ended. -/
def State.emptySpoils (s : State) : State :=
  let t : State := { s with spoils := [] }
  t.endConditions fun source kind => s.hold && source == .office && kind == .accountabilityHold

/-- R158: every CLEARED report removed, general and reserved. -/
def State.removeCleared (s : State) : State :=
  { s with
    reports := s.reports.filter (·.state != .cleared)
    reserved := s.reserved.filter (·.state != .cleared) }

/-- R145, R146. -/
def execCloseDay (port : Port) (tag : Tag) (body : List Byte) (s : State) : Answer :=
  supervisorCommand Cmd.closeDay 0 0 port tag body s fun s => do
    need s.dayCanClose .dayState
    let t := { s.emptyShifts.emptySpoils.removeCleared.markDay with dayOpen := false }
    return (t.accept port Cmd.closeDay tag
      (be 1 (allWindows.countP fun w => s.shifts[w].emptied) ++ be 2 s.spoils.length)).commit s []

end Sys2Proof.Machine
end

