-- ==== Sys2Proof/Machine/Start.lean ====
section
/-!
DEFINITION. The retention control and the clock: RESET_ASSERTED, RESET_RELEASED, POWER_UP and POWER_FAIL
(R185), the cold start (R186), the warm start (R187, with R23, R44, R72, R128, R148, R169, R184), and
CLOCK_PULSE (R188).
-/

namespace Sys2Proof.Machine

/-! ## The starts -/

/-- R186: every retained item at its default and every volatile one at its start value. -/
def State.coldStart (s : State) (straps : Straps) : State :=
  { State.reset with speed := straps, resetPin := s.resetPin, pending := s.pending }

/-- R44, R72, R187: a printer after a warm start: its tickets in an uncertain range, its retained items
kept, all else as after a cold start. -/
def Printer.restart (pr : Printer) : Printer :=
  { Printer.start with
    loaded := pr.loaded, pool := pr.pool, outOfService := pr.outOfService, stockHold := pr.stockHold,
    range := pr.moveToRange.range }

/-- R128, R148: a shift after a warm start. -/
def Shift.restart (h : Shift) : Shift :=
  { h with reservations := 0, state := if h.state = .draining then .counting else h.state }

/-- R169: the conditions that a warm start ends (log 16). -/
def endsAtStart : Source → Kind → Bool
  | .printer _, .jabber => true
  | .printer _, .coverOpen => true
  | .printer _, .headFault => true
  | .printer _, .jam => true
  | .office, .externalAlarm => true
  | _, _ => false

/-- R187. -/
def State.warmStart (s : State) (straps : Straps) : State :=
  let t : State :=
    { s with
      phase := .running, lastStart := .warm, speed := straps
      ports := Vector.replicate 12 .start, svPort := .start, cursor := .concession 0
      packs := s.packs.map fun k => { k with loadCheck := none }
      printers := s.printers.map Printer.restart
      jobs := []
      shifts := s.shifts.map Shift.restart
      windowFlags := s.shifts.map fun h => { line := false, shift := h.state == .draining }
      alarmIn := false, silenced := false }
  (t.endConditions endsAtStart).outputs

/-- R185: a start of the kind that is due. -/
def State.startAs (s : State) (kind : StartKind) (straps : Straps) : State :=
  match kind with
  | .cold => s.coldStart straps
  | .warm => s.warmStart straps

/-! ## Stopping -/

/-- R185: a printer while the part does not run: its timers stopped, its lamp dark. -/
def Printer.stop (pr : Printer) : Printer :=
  { pr with capabilityWait := false, printTimer := false, pauseTimer := none, lamp := .dark }

/-- R185: the part stops: no timer runs, ALARM is released and every lamp is dark. -/
def State.stop (s : State) (phase : Phase) : State :=
  { s with
    phase := phase, alarm := false
    printers := s.printers.map Printer.stop
    jobs := s.jobs.map fun j => { j with jobWait := none, routeWait := none } }

/-- R185: RESET asserted; a running part stops and a warm start is due. -/
def execResetAsserted (s : State) : Answer :=
  .next <|
    let t := { s with resetPin := true }
    if s.running then t.stop (.held .warm) else t

/-- R185: RESET released; a part held in RESET makes the start that is due. -/
def execResetReleased (straps : Straps) (s : State) : Answer :=
  .next <|
    let t := { s with resetPin := false }
    match s.phase with
    | .held kind => t.startAs kind straps
    | .running => t
    | .off => t

/-- R185: the start that BACKUP_GOOD decides at power-up. -/
def startKindOf (backupGood : Bool) : StartKind := if backupGood then .warm else .cold

/-- R185: power-up; with RESET asserted the start waits for its release. -/
def execPowerUp (backupGood : Bool) (straps : Straps) (s : State) : Answer :=
  .next <|
    if s.phase = .off then
      if s.resetPin then { s with phase := .held (startKindOf backupGood) }
      else s.startAs (startKindOf backupGood) straps
    else s

/-- R185: main power fails. -/
def execPowerFail (s : State) : Answer :=
  .next (if s.phase = .off then s else s.stop .off)

/-! ## The clock -/

/-- R188: one second on. -/
def Stamp.tick (c : Stamp) : Stamp :=
  if Config.secondsPerDay ≤ c.time + 1 then
    { time := 0, day := if Config.dayNumbers ≤ c.day + 1 then 0 else c.day + 1 }
  else { c with time := c.time + 1 }

/-- R188: a pulse of the 1 Hz signal, whether the part runs, is held in RESET or has no main power. -/
def execClockPulse (s : State) : Answer := .next { s with clock := s.clock.tick }

end Sys2Proof.Machine
end

