-- ==== Sys2Proof/Machine/Stock.lean ====
section
/-!
DEFINITION. The supervisor's stock commands (R12, R13, R15, R18 to R21) and READ_SPOILS (R90).
-/

namespace Sys2Proof.Machine

/-- R12, check 1: the values of a received pack are in range. -/
def packInRange (id stock first last : Nat) : Bool :=
  1 ≤ id && id ≤ 65535 && stock < 4 && first ≤ Config.maxSerial && last ≤ Config.maxSerial
    && first ≤ last && last + 1 - first ≤ Config.maxPackSize

/-- R12, check 3: a record of the same stock type shares a serial with the range. -/
def State.overlaps (s : State) (stock : StockType) (first last : Nat) : Bool :=
  s.packs.any fun k => k.stock == stock && first ≤ k.last && k.first ≤ last

/-- R12: the record RECEIVE PACK makes. -/
def newPack (id : Nat) (stock : StockType) (first last : Nat) (now : Stamp) : Pack :=
  { id := id, stock := stock, first := first, last := last, next := first, location := .safe,
    loadCheck := none, compromisedAt := none, issued := 0, spoiled := 0, dayMark := first, received := now }

/-- R12. -/
def execReceivePack (port : Port) (tag : Tag) (body : List Byte) (s : State) : Answer :=
  supervisorCommand Cmd.receivePack 9 9 port tag body s fun s => do
    let id := num body 0 2
    let first := num body 3 3
    let last := num body 6 3
    need (packInRange id (num body 2 1) first last) .entryInvalid
    let stock ← want (named 4 (num body 2 1)) .entryInvalid
    need (s.pack? id).isNone .packState
    need (!s.overlaps stock first last) .overlap
    need (s.packs.length < Config.maxPacks) .packTableFull
    let t := { s with packs := s.packs ++ [newPack id stock first last s.clock] }
    return t.accept port Cmd.receivePack tag (be 2 id ++ be 1 s.packs.length)

/-- R13. -/
def execLoadPack (port : Port) (tag : Tag) (body : List Byte) (s : State) : Answer :=
  supervisorCommand Cmd.loadPack 3 3 port tag body s fun s => do
    let id := num body 0 2
    let p : PrinterId ← want (named 8 (num body 2 1)) .printerNumber
    let k ← want (s.pack? id) .notFound
    need (!s.hold) .hold
    need (k.location == .safe && k.loadCheck.isNone && 1 ≤ k.unused) .packState
    let pr := s.printers[p]
    need (pr.service == .empty && !pr.occupied) .printerState
    need (pr.capability.any fun c => c.types.getLsbD k.stock.val) .typeUnsupported
    let t := s.modPack id fun k => { k with loadCheck := some p }
    let u := (t.modPrinter p fun pr =>
      { pr with loadCheck := some { pack := id, tag := tag, attempt := .first } }).sendLine p topReport
    return (u.accept port Cmd.loadPack tag (be 1 p.val)).commit s []

/-- R15, check 2: an unload check may start on the printer. -/
def Printer.canUnload (pr : Printer) : Bool :=
  pr.loaded.isSome && pr.link == .up
    && (pr.service == .ready || pr.service == .faulted || pr.service == .stockHold)
    && pr.tickets.isEmpty && pr.range.isNone && !pr.occupied

/-- R15. -/
def execUnloadPack (port : Port) (tag : Tag) (body : List Byte) (s : State) : Answer :=
  supervisorCommand Cmd.unloadPack 1 1 port tag body s fun s => do
    let p : PrinterId ← want (named 8 (num body 0 1)) .printerNumber
    need s.printers[p].canUnload .printerState
    need (1 ≤ s.spoilRoom) .hold
    let t := (s.modPrinter p fun pr =>
      { pr with unloadCheck := some { tag := tag, attempt := .first } }).sendLine p topReport
    return (t.accept port Cmd.unloadPack tag (be 1 p.val)).commit s []

/-- R18, check 2: the printer's pack may be forced out. -/
def Printer.canForce (pr : Printer) : Bool :=
  pr.loaded.isSome && !pr.occupied && !(pr.link == .up && !pr.tickets.isEmpty)

/-- R18: the runs that the printer's uncertain range would write. -/
def Printer.rangeRuns (pr : Printer) : Nat := pr.range.elim 0 fun g => (runsOf g.first g.charges).length

/-- R18: the uncertain range spoiled and removed, and the query for it abandoned. -/
def State.spoilOut (s : State) (p : PrinterId) : State :=
  match s.printers[p].range with
  | some g =>
    (s.spoilRange p g.pack g.first g.charges).modPrinter p fun pr =>
      { pr with range := none, query := none, printTimeout := false }
  | none => s

/-- R3, R18: the loaded pack COMPROMISED at the printer, whose reference is emptied. -/
def State.compromise (s : State) (p : PrinterId) : State :=
  let t := match s.printers[p].loaded with
    | some id => s.modPack id fun k => { k with location := .compromised, compromisedAt := some p }
    | none => s
  t.emptyPrinter p

/-- R18. -/
def execForceUnload (port : Port) (tag : Tag) (body : List Byte) (s : State) : Answer :=
  supervisorCommand Cmd.forceUnload 1 1 port tag body s fun s => do
    let p : PrinterId ← want (named 8 (num body 0 1)) .printerNumber
    need s.printers[p].canForce .printerState
    need (s.printers[p].rangeRuns ≤ s.spoilRoom) .hold
    return (((s.accept port Cmd.forceUnload tag (be 1 p.val)).spoilOut p).compromise p).commit s
      [{ source := .printer p, kind := .serialDispute }]

/-- R19. -/
def execWriteOffPack (port : Port) (tag : Tag) (body : List Byte) (s : State) : Answer :=
  supervisorCommand Cmd.writeOffPack 2 2 port tag body s fun s => do
    let id := num body 0 2
    let k ← want (s.pack? id) .notFound
    need (!s.hold) .hold
    need ((k.location == .safe || k.location == .compromised) && k.loadCheck.isNone) .packState
    return ((s.writeOff k).accept port Cmd.writeOffPack tag (be 2 id ++ be 2 k.unused)).commit s []

/-- R20, check 2: the record has nothing left to account for. -/
def State.canRetire (s : State) (k : Pack) : Bool :=
  k.location == .safe && k.loadCheck.isNone && k.unused == 0 && (!s.dayOpen || k.dayMark == k.next)
    && s.spoils.all (·.pack != k.id)

/-- R20. -/
def execRetirePack (port : Port) (tag : Tag) (body : List Byte) (s : State) : Answer :=
  supervisorCommand Cmd.retirePack 2 2 port tag body s fun s => do
    let id := num body 0 2
    let k ← want (s.pack? id) .notFound
    need (s.canRetire k) .packState
    let t := { s with packs := s.packs.eraseP (·.id == id) }
    return t.accept port Cmd.retirePack tag (be 2 id)

/-- R21: the record a READ PACK names, with its table index. -/
def State.packRead (s : State) (byIndex : Bool) (n : Nat) : Except Code (Nat × Pack) :=
  if byIndex then do
    need (n < Config.maxPacks) .entryInvalid
    let k ← want s.packs[n]? .notFound
    return (n, k)
  else do
    let i ← want (s.packs.findIdx? (·.id == n)) .notFound
    let k ← want s.packs[i]? .notFound
    return (i, k)

/-- R21. -/
def execReadPack (port : Port) (tag : Tag) (body : List Byte) (s : State) : Answer :=
  supervisorCommand Cmd.readPack 3 3 port tag body s fun s => do
    let found ← s.packRead (num body 0 1 != 0) (num body 1 2)
    return s.reply port Out.packReply tag (s.packBody found.1 found.2)

/-- R90. -/
def execReadSpoils (port : Port) (tag : Tag) (body : List Byte) (s : State) : Answer :=
  supervisorCommand Cmd.readSpoils 2 2 port tag body s fun s => do
    let count := num body 1 1
    need (1 ≤ count && count ≤ 8) .entryInvalid
    return s.reply port Out.spoilsReply tag (s.spoilsBody (num body 0 1) count)

end Sys2Proof.Machine
end

