-- ==== Sys2Proof/Machine/Dispatch.lean ====
section
/-!
DEFINITION. The meaning of each command: one arm per row of spec/opcode_table.json.
-/

namespace Sys2Proof.Machine

/-- The effect of a command on everything but the queue. -/
def exec (i : Instr) (s : State) : Host.Outcome State Fault Refusal :=
  match i with
  | .openShift port tag body => Sys2Proof.Machine.execOpenShift port tag body s
  | .issue port tag body => Sys2Proof.Machine.execIssue port tag body s
  | .cancel port tag body => Sys2Proof.Machine.execCancel port tag body s
  | .void port tag body => Sys2Proof.Machine.execVoid port tag body s
  | .refund port tag body => Sys2Proof.Machine.execRefund port tag body s
  | .closeShift port tag body => Sys2Proof.Machine.execCloseShift port tag body s
  | .declare port tag body => Sys2Proof.Machine.execDeclare port tag body s
  | .queryShift port tag body => Sys2Proof.Machine.execQueryShift port tag body s
  | .receivePack port tag body => Sys2Proof.Machine.execReceivePack port tag body s
  | .loadPack port tag body => Sys2Proof.Machine.execLoadPack port tag body s
  | .unloadPack port tag body => Sys2Proof.Machine.execUnloadPack port tag body s
  | .forceUnload port tag body => Sys2Proof.Machine.execForceUnload port tag body s
  | .writeOffPack port tag body => Sys2Proof.Machine.execWriteOffPack port tag body s
  | .retirePack port tag body => Sys2Proof.Machine.execRetirePack port tag body s
  | .readPack port tag body => Sys2Proof.Machine.execReadPack port tag body s
  | .testPrint port tag body => Sys2Proof.Machine.execTestPrint port tag body s
  | .setService port tag body => Sys2Proof.Machine.execSetService port tag body s
  | .resetLine port tag body => Sys2Proof.Machine.execResetLine port tag body s
  | .resolveDispute port tag body => Sys2Proof.Machine.execResolveDispute port tag body s
  | .readSpoils port tag body => Sys2Proof.Machine.execReadSpoils port tag body s
  | .readEntries port tag body => Sys2Proof.Machine.execReadEntries port tag body s
  | .readShift port tag body => Sys2Proof.Machine.execReadShift port tag body s
  | .reopenCount port tag body => Sys2Proof.Machine.execReopenCount port tag body s
  | .signOff port tag body => Sys2Proof.Machine.execSignOff port tag body s
  | .openDay port tag body => Sys2Proof.Machine.execOpenDay port tag body s
  | .closeDay port tag body => Sys2Proof.Machine.execCloseDay port tag body s
  | .nextFault port tag body => Sys2Proof.Machine.execNextFault port tag body s
  | .readFault port tag body => Sys2Proof.Machine.execReadFault port tag body s
  | .ackFault port tag body => Sys2Proof.Machine.execAckFault port tag body s
  | .readChanges port tag body => Sys2Proof.Machine.execReadChanges port tag body s
  | .silenceAlarm port tag body => Sys2Proof.Machine.execSilenceAlarm port tag body s
  | .selectEntry port tag body => Sys2Proof.Machine.execSelectEntry port tag body s
  | .readEntry port tag body => Sys2Proof.Machine.execReadEntry port tag body s
  | .writeEntry port tag body => Sys2Proof.Machine.execWriteEntry port tag body s
  | .setClock port tag body => Sys2Proof.Machine.execSetClock port tag body s
  | .readOffice port tag body => Sys2Proof.Machine.execReadOffice port tag body s
  | .unknownKind port kind tag => Sys2Proof.Machine.execUnknownKind port kind tag s
  | .frameError port cause => Sys2Proof.Machine.execFrameError port cause s
  | .frameGap port => Sys2Proof.Machine.execFrameGap port s
  | .lineBreak port => Sys2Proof.Machine.execLineBreak port s
  | .attach port => Sys2Proof.Machine.execAttach port s
  | .capability printer tag body => Sys2Proof.Machine.execCapability printer tag body s
  | .status printer tag body => Sys2Proof.Machine.execStatus printer tag body s
  | .printed printer tag body => Sys2Proof.Machine.execPrinted printer tag body s
  | .jammed printer tag body => Sys2Proof.Machine.execJammed printer tag body s
  | .withdrawn printer tag body => Sys2Proof.Machine.execWithdrawn printer tag body s
  | .tooLate printer tag body => Sys2Proof.Machine.execTooLate printer tag body s
  | .top printer tag body => Sys2Proof.Machine.execTop printer tag body s
  | .printerFrameError printer cause => Sys2Proof.Machine.execPrinterFrameError printer cause s
  | .printerFrameGap printer => Sys2Proof.Machine.execPrinterFrameGap printer s
  | .idleMark printer => Sys2Proof.Machine.execIdleMark printer s
  | .linkGap printer cause => Sys2Proof.Machine.execLinkGap printer cause s
  | .settleTimer printer => Sys2Proof.Machine.execSettleTimer printer s
  | .silenceTimer printer => Sys2Proof.Machine.execSilenceTimer printer s
  | .jabber printer => Sys2Proof.Machine.execJabber printer s
  | .jabberQuiet printer => Sys2Proof.Machine.execJabberQuiet printer s
  | .capabilityWait printer => Sys2Proof.Machine.execCapabilityWait printer s
  | .printTimer printer => Sys2Proof.Machine.execPrintTimer printer s
  | .pauseTimer printer => Sys2Proof.Machine.execPauseTimer printer s
  | .withdrawalTimer printer => Sys2Proof.Machine.execWithdrawalTimer printer s
  | .queryTimer printer => Sys2Proof.Machine.execQueryTimer printer s
  | .loadAnswerTimer printer => Sys2Proof.Machine.execLoadAnswerTimer printer s
  | .unloadAnswerTimer printer => Sys2Proof.Machine.execUnloadAnswerTimer printer s
  | .grant printer => Sys2Proof.Machine.execGrant printer s
  | .jobWait window tag => Sys2Proof.Machine.execJobWait window tag s
  | .routeWait window tag => Sys2Proof.Machine.execRouteWait window tag s
  | .clockPulse => Sys2Proof.Machine.execClockPulse s
  | .alarmIn active => Sys2Proof.Machine.execAlarmIn active s
  | .activityPulse printer => Sys2Proof.Machine.execActivityPulse printer s
  | .flash printer => Sys2Proof.Machine.execFlash printer s
  | .resetAsserted => Sys2Proof.Machine.execResetAsserted s
  | .resetReleased straps => Sys2Proof.Machine.execResetReleased straps s
  | .powerUp backupGood straps => Sys2Proof.Machine.execPowerUp backupGood straps s
  | .powerFail => Sys2Proof.Machine.execPowerFail s
  | .printerUnknownKind printer kind => Sys2Proof.Machine.execPrinterUnknownKind printer kind s
  | .frameSent port => Sys2Proof.Machine.execFrameSent port s

end Sys2Proof.Machine
end

