-- ==== Sys2Proof/WellFormed.lean ====
section
/-!
DEFINITION. The commands that a line, a timer or a pin can carry: a frame's body fits its length byte
(section 9.2), a kind that no command has is no command kind (9.4), and a framing fault is one.
-/

namespace Sys2Proof

/-- The body fits a frame (section 9.2). -/
def bodyFits (body : List Byte) : Bool := decide (body.length ≤ Config.maxFrameBody)

/-- The operands describe an event of the command's row. -/
def Instr.wellFormed : Instr → Bool
  | .openShift _ _ body => bodyFits body
  | .issue _ _ body => bodyFits body
  | .cancel _ _ body => bodyFits body
  | .void _ _ body => bodyFits body
  | .refund _ _ body => bodyFits body
  | .closeShift _ _ body => bodyFits body
  | .declare _ _ body => bodyFits body
  | .queryShift _ _ body => bodyFits body
  | .receivePack _ _ body => bodyFits body
  | .loadPack _ _ body => bodyFits body
  | .unloadPack _ _ body => bodyFits body
  | .forceUnload _ _ body => bodyFits body
  | .writeOffPack _ _ body => bodyFits body
  | .retirePack _ _ body => bodyFits body
  | .readPack _ _ body => bodyFits body
  | .testPrint _ _ body => bodyFits body
  | .setService _ _ body => bodyFits body
  | .resetLine _ _ body => bodyFits body
  | .resolveDispute _ _ body => bodyFits body
  | .readSpoils _ _ body => bodyFits body
  | .readEntries _ _ body => bodyFits body
  | .readShift _ _ body => bodyFits body
  | .reopenCount _ _ body => bodyFits body
  | .signOff _ _ body => bodyFits body
  | .openDay _ _ body => bodyFits body
  | .closeDay _ _ body => bodyFits body
  | .nextFault _ _ body => bodyFits body
  | .readFault _ _ body => bodyFits body
  | .ackFault _ _ body => bodyFits body
  | .readChanges _ _ body => bodyFits body
  | .silenceAlarm _ _ body => bodyFits body
  | .selectEntry _ _ body => bodyFits body
  | .readEntry _ _ body => bodyFits body
  | .writeEntry _ _ body => bodyFits body
  | .setClock _ _ body => bodyFits body
  | .readOffice _ _ body => bodyFits body
  | .unknownKind _ kind _ => !Machine.commandKind kind
  | .frameError _ cause => Machine.genuine cause false
  | .frameGap _ => true
  | .lineBreak _ => true
  | .attach _ => true
  | .capability _ _ body => bodyFits body
  | .status _ _ body => bodyFits body
  | .printed _ _ body => bodyFits body
  | .jammed _ _ body => bodyFits body
  | .withdrawn _ _ body => bodyFits body
  | .tooLate _ _ body => bodyFits body
  | .top _ _ body => bodyFits body
  | .printerFrameError _ cause => Machine.genuine cause true
  | .printerFrameGap _ => true
  | .idleMark _ => true
  | .linkGap _ _ => true
  | .settleTimer _ => true
  | .silenceTimer _ => true
  | .jabber _ => true
  | .jabberQuiet _ => true
  | .capabilityWait _ => true
  | .printTimer _ => true
  | .pauseTimer _ => true
  | .withdrawalTimer _ => true
  | .queryTimer _ => true
  | .loadAnswerTimer _ => true
  | .unloadAnswerTimer _ => true
  | .grant _ => true
  | .jobWait _ _ => true
  | .routeWait _ _ => true
  | .clockPulse => true
  | .alarmIn _ => true
  | .activityPulse _ => true
  | .flash _ => true
  | .resetAsserted => true
  | .resetReleased _ => true
  | .powerUp _ _ => true
  | .powerFail => true
  | .printerUnknownKind _ kind => !Machine.printerKind kind
  | .frameSent _ => true

end Sys2Proof
end

