-- ==== Sys2Proof/Safety.lean ====
section
/-!
DEFINITION. What the statements speak of: what a state looks like apart from the bookkeeping that ends a
step, a port that has taken one frame and answered, and the laws of the manual that every step keeps.
-/

namespace Sys2Proof.Machine

/-! ## Frames as commands -/

/-- A frame of a terminal port with what section 9.4 and its layout in 9.8 give its kind: the kind byte,
whether the supervisor port takes it, and the least and greatest length of its body. -/
structure FrameRow where
  port : Port
  kind : Byte
  tag : Tag
  body : List Byte
  supervisor : Bool
  lo : Nat
  hi : Nat
deriving DecidableEq, Repr

/-- Section 9.4, with the layouts of 9.8: the frame a command of a terminal port is. The body of WRITE ENTRY
is as long as the entry body of the cursor's table. -/
def State.frame (s : State) : Instr → Option FrameRow
  | .openShift port tag body => some ⟨port, 0x10#8, tag, body, false, 4, 4⟩
  | .issue port tag body => some ⟨port, 0x11#8, tag, body, false, 9, 248⟩
  | .cancel port tag body => some ⟨port, 0x12#8, tag, body, false, 1, 1⟩
  | .void port tag body => some ⟨port, 0x13#8, tag, body, false, 4, 4⟩
  | .refund port tag body => some ⟨port, 0x14#8, tag, body, false, 5, 5⟩
  | .closeShift port tag body => some ⟨port, 0x15#8, tag, body, false, 0, 0⟩
  | .declare port tag body => some ⟨port, 0x16#8, tag, body, false, 12, 12⟩
  | .queryShift port tag body => some ⟨port, 0x17#8, tag, body, false, 0, 0⟩
  | .receivePack port tag body => some ⟨port, 0x20#8, tag, body, true, 9, 9⟩
  | .loadPack port tag body => some ⟨port, 0x21#8, tag, body, true, 3, 3⟩
  | .unloadPack port tag body => some ⟨port, 0x22#8, tag, body, true, 1, 1⟩
  | .forceUnload port tag body => some ⟨port, 0x23#8, tag, body, true, 1, 1⟩
  | .writeOffPack port tag body => some ⟨port, 0x24#8, tag, body, true, 2, 2⟩
  | .retirePack port tag body => some ⟨port, 0x25#8, tag, body, true, 2, 2⟩
  | .readPack port tag body => some ⟨port, 0x26#8, tag, body, true, 3, 3⟩
  | .testPrint port tag body => some ⟨port, 0x27#8, tag, body, true, 2, 248⟩
  | .setService port tag body => some ⟨port, 0x28#8, tag, body, true, 3, 3⟩
  | .resetLine port tag body => some ⟨port, 0x29#8, tag, body, true, 1, 1⟩
  | .resolveDispute port tag body => some ⟨port, 0x2A#8, tag, body, true, 3, 3⟩
  | .readSpoils port tag body => some ⟨port, 0x2B#8, tag, body, true, 2, 2⟩
  | .readEntries port tag body => some ⟨port, 0x2C#8, tag, body, true, 4, 4⟩
  | .readShift port tag body => some ⟨port, 0x2D#8, tag, body, true, 1, 1⟩
  | .reopenCount port tag body => some ⟨port, 0x2E#8, tag, body, true, 1, 1⟩
  | .signOff port tag body => some ⟨port, 0x2F#8, tag, body, true, 1, 1⟩
  | .openDay port tag body => some ⟨port, 0x30#8, tag, body, true, 0, 0⟩
  | .closeDay port tag body => some ⟨port, 0x31#8, tag, body, true, 0, 0⟩
  | .nextFault port tag body => some ⟨port, 0x32#8, tag, body, true, 0, 0⟩
  | .readFault port tag body => some ⟨port, 0x33#8, tag, body, true, 2, 2⟩
  | .ackFault port tag body => some ⟨port, 0x34#8, tag, body, true, 2, 2⟩
  | .readChanges port tag body => some ⟨port, 0x35#8, tag, body, true, 0, 0⟩
  | .silenceAlarm port tag body => some ⟨port, 0x36#8, tag, body, true, 0, 0⟩
  | .selectEntry port tag body => some ⟨port, 0x37#8, tag, body, true, 2, 2⟩
  | .readEntry port tag body => some ⟨port, 0x38#8, tag, body, true, 0, 0⟩
  | .writeEntry port tag body => some ⟨port, 0x39#8, tag, body, true, s.cursor.bodyLength, s.cursor.bodyLength⟩
  | .setClock port tag body => some ⟨port, 0x3A#8, tag, body, true, 5, 5⟩
  | .readOffice port tag body => some ⟨port, 0x3B#8, tag, body, true, 0, 0⟩
  | .unknownKind _ _ _ => none
  | .frameError _ _ => none
  | .frameGap _ => none
  | .lineBreak _ => none
  | .attach _ => none
  | .capability _ _ _ => none
  | .status _ _ _ => none
  | .printed _ _ _ => none
  | .jammed _ _ _ => none
  | .withdrawn _ _ _ => none
  | .tooLate _ _ _ => none
  | .top _ _ _ => none
  | .printerFrameError _ _ => none
  | .printerFrameGap _ => none
  | .idleMark _ => none
  | .linkGap _ _ => none
  | .settleTimer _ => none
  | .silenceTimer _ => none
  | .jabber _ => none
  | .jabberQuiet _ => none
  | .capabilityWait _ => none
  | .printTimer _ => none
  | .pauseTimer _ => none
  | .withdrawalTimer _ => none
  | .queryTimer _ => none
  | .loadAnswerTimer _ => none
  | .unloadAnswerTimer _ => none
  | .grant _ => none
  | .jobWait _ _ => none
  | .routeWait _ _ => none
  | .clockPulse => none
  | .alarmIn _ => none
  | .activityPulse _ => none
  | .flash _ => none
  | .resetAsserted => none
  | .resetReleased _ => none
  | .powerUp _ _ => none
  | .powerFail => none
  | .printerUnknownKind _ _ => none
  | .frameSent _ => none

/-- A frame of a printer line: the printer, the body, and the length of the body of its kind (9.8). -/
def printerFrameOf : Instr → Option (PrinterId × List Byte × Nat)
  | .openShift _ _ _ => none
  | .issue _ _ _ => none
  | .cancel _ _ _ => none
  | .void _ _ _ => none
  | .refund _ _ _ => none
  | .closeShift _ _ _ => none
  | .declare _ _ _ => none
  | .queryShift _ _ _ => none
  | .receivePack _ _ _ => none
  | .loadPack _ _ _ => none
  | .unloadPack _ _ _ => none
  | .forceUnload _ _ _ => none
  | .writeOffPack _ _ _ => none
  | .retirePack _ _ _ => none
  | .readPack _ _ _ => none
  | .testPrint _ _ _ => none
  | .setService _ _ _ => none
  | .resetLine _ _ _ => none
  | .resolveDispute _ _ _ => none
  | .readSpoils _ _ _ => none
  | .readEntries _ _ _ => none
  | .readShift _ _ _ => none
  | .reopenCount _ _ _ => none
  | .signOff _ _ _ => none
  | .openDay _ _ _ => none
  | .closeDay _ _ _ => none
  | .nextFault _ _ _ => none
  | .readFault _ _ _ => none
  | .ackFault _ _ _ => none
  | .readChanges _ _ _ => none
  | .silenceAlarm _ _ _ => none
  | .selectEntry _ _ _ => none
  | .readEntry _ _ _ => none
  | .writeEntry _ _ _ => none
  | .setClock _ _ _ => none
  | .readOffice _ _ _ => none
  | .unknownKind _ _ _ => none
  | .frameError _ _ => none
  | .frameGap _ => none
  | .lineBreak _ => none
  | .attach _ => none
  | .capability p _ body => some (p, body, 5)
  | .status p _ body => some (p, body, 1)
  | .printed p _ body => some (p, body, 3)
  | .jammed p _ body => some (p, body, 1)
  | .withdrawn p _ body => some (p, body, 3)
  | .tooLate p _ body => some (p, body, 3)
  | .top p _ body => some (p, body, 3)
  | .printerFrameError _ _ => none
  | .printerFrameGap _ => none
  | .idleMark _ => none
  | .linkGap _ _ => none
  | .settleTimer _ => none
  | .silenceTimer _ => none
  | .jabber _ => none
  | .jabberQuiet _ => none
  | .capabilityWait _ => none
  | .printTimer _ => none
  | .pauseTimer _ => none
  | .withdrawalTimer _ => none
  | .queryTimer _ => none
  | .loadAnswerTimer _ => none
  | .unloadAnswerTimer _ => none
  | .grant _ => none
  | .jobWait _ _ => none
  | .routeWait _ _ => none
  | .clockPulse => none
  | .alarmIn _ => none
  | .activityPulse _ => none
  | .flash _ => none
  | .resetAsserted => none
  | .resetReleased _ => none
  | .powerUp _ _ => none
  | .powerFail => none
  | .printerUnknownKind _ _ => none
  | .frameSent _ => none

/-- The part runs and the port is ATTACHED: its frames are decoded (R171, R185). -/
def State.Hears (s : State) (port : Port) : Prop := s.phase = .running ∧ (s.port port).attached = true

/-- The part runs and the printer's link is UP: its frames are decoded (R24, R185). -/
def State.HearsPrinter (s : State) (p : PrinterId) : Prop := s.phase = .running ∧ s.printers[p].link = .up

/-- `t` is `u` with ALARM (R167) and the bay lamps (R168) as they must show. -/
def State.Shown (u t : State) : Prop :=
  t.alarm = t.alarmLaw
    ∧ (∀ p : PrinterId, t.printers[p] = { u.printers[p] with lamp := u.printers[p].lamp.show (t.lampLaw p) })
    ∧ { t with alarm := u.alarm, printers := u.printers } = u

/-! ## The checks of the commands -/

/-- The checks of a command that a window port takes. -/
def atWindow (port : Port) (checks : Window → List (Bool × Code)) : List (Bool × Code) :=
  match port with
  | .window w => checks w
  | .supervisor => []

/-- Each command's checks in the order of its rule, with the code of each; what the manual gives a command
whose frame has passed the checks of R175. -/
def State.checks (s : State) : Instr → List (Bool × Code)
  | .openShift port _ _ => atWindow port fun w =>
      [(s.dayOpen, .dayState), (s.shifts[w].state == .idle, .shiftState)]
  | .issue port tag body => atWindow port fun w =>
      let selector := num body 7 1
      let printer := selector % 16
      let type := selector / 16 % 8
      [(s.dayOpen && s.shifts[w].state == .opened, .shiftState),
        (s.jobs.all (·.ref != { window := w, tag := tag }), .tagInUse),
        (s.jobs.length < 32, .queueFull),
        ((s.jobs.filter (·.ref.window == w)).length < 4, .windowLimit),
        (num body 0 3 ≤ 1999999, .fareRange),
        ((named 16 (num body 3 1)).any fun i => s.concessions[i].valid, .concession),
        ((named 16 (num body 4 1)).any fun i => (s.splits[i] : Split) != [], .split),
        (selector < 128 || printer < 8, .printerNumber),
        (if selector < 128 then selector < 4
          else if type = 0 then (named 8 printer).any fun p => (s.loadedPack p).isSome
          else type ≤ 4, .stockType),
        ((ticketBody (num body 8 1) (body.drop 9)).isSome, .bodyLength),
        (num body 5 1 < 3 && num body 6 1 ≤ 63, .entryInvalid)]
  | .cancel port _ body => atWindow port fun w =>
      [(s.jobs.any fun j => j.ref == { window := w, tag := BitVec.ofNat 8 (num body 0 1) }, .notFound)]
  | .void port _ body => atWindow port fun w =>
      let h := s.shifts[w]
      let serial := num body 1 3
      let entry := (s.entryHolding w (BitVec.ofNat 2 (num body 0 1)).toFin serial).bind (h.entries[·]?)
      [(h.state == .opened || h.state == .draining, .shiftState),
        (num body 0 1 < 4, .stockType),
        (entry.isSome, .notVoidable),
        (entry.all (!·.disputed), .notVoidable),
        (entry.all fun e => h.voids.all fun v => v.pack != e.pack || v.serial != serial, .notVoidable),
        (h.voids.length < 32, .voidListFull)]
  | .refund port _ body => atWindow port fun w =>
      [(s.shifts[w].state == .opened, .shiftState),
        (1 ≤ num body 0 3 && num body 0 3 ≤ 1999999, .fareRange),
        (num body 3 1 < 3, .entryInvalid),
        ((named 16 (num body 4 1)).any fun i => (s.splits[i] : Split) != [], .split)]
  | .closeShift port _ _ => atWindow port fun w => [(s.shifts[w].state == .opened, .shiftState)]
  | .declare port _ _ => atWindow port fun w => [(s.shifts[w].state == .counting, .shiftState)]
  | .receivePack _ _ body =>
      let id := num body 0 2
      let stock := num body 2 1
      let first := num body 3 3
      let last := num body 6 3
      [(1 ≤ id && stock < 4 && first ≤ 9999999 && last ≤ 9999999 && first ≤ last && last - first + 1 ≤ 2000,
          .entryInvalid),
        (s.packs.all (·.id != id), .packState),
        (s.packs.all fun k => k.stock.val != stock || k.last < first || last < k.first, .overlap),
        (s.packs.length < 64, .packTableFull)]
  | .loadPack _ _ body =>
      let pack := s.pack? (num body 0 2)
      let printer := (named 8 (num body 2 1)).map fun p => s.printers[p]
      [(printer.isSome, .printerNumber),
        (pack.isSome, .notFound),
        (s.spoils.length < 232, .hold),
        (pack.all fun k => k.location == .safe && k.loadCheck == none && k.next ≤ k.last, .packState),
        (printer.all fun pr => pr.service == .empty && pr.loadCheck == none && pr.unloadCheck == none
            && pr.test == none, .printerState),
        (printer.all fun pr => pack.all fun k => pr.capability.any fun c => c.types.getLsbD k.stock.val,
          .typeUnsupported)]
  | .unloadPack _ _ body =>
      let printer := (named 8 (num body 0 1)).map fun p => s.printers[p]
      [(printer.isSome, .printerNumber),
        (printer.all fun pr => pr.loaded.isSome && pr.link == .up
            && (pr.service == .ready || pr.service == .faulted || pr.service == .stockHold)
            && pr.printing == none && pr.staged == none && pr.range == none && pr.loadCheck == none
            && pr.unloadCheck == none && pr.test == none, .printerState),
        (s.spoils.length < 256, .hold)]
  | .forceUnload _ _ body =>
      let printer := (named 8 (num body 0 1)).map fun p => s.printers[p]
      [(printer.isSome, .printerNumber),
        (printer.all fun pr => pr.loaded.isSome && pr.loadCheck == none && pr.unloadCheck == none
            && pr.test == none && (pr.link != .up || (pr.printing == none && pr.staged == none)),
          .printerState),
        (printer.all fun pr => pr.rangeRuns ≤ 256 - s.spoils.length, .hold)]
  | .writeOffPack _ _ body =>
      let pack := s.pack? (num body 0 2)
      [(pack.isSome, .notFound),
        (s.spoils.length < 232, .hold),
        (pack.all fun k => (k.location == .safe || k.location == .compromised) && k.loadCheck == none,
          .packState)]
  | .retirePack _ _ body =>
      let pack := s.pack? (num body 0 2)
      [(pack.isSome, .notFound),
        (pack.all fun k => k.location == .safe && k.loadCheck == none && k.last < k.next
            && (!s.dayOpen || k.dayMark == k.next) && s.spoils.all (·.pack != k.id), .packState)]
  | .readPack _ _ body =>
      let n := num body 1 2
      if num body 0 1 = 0 then [(s.packs.any (·.id == n), .notFound)]
      else [(n < 64, .entryInvalid), (n < s.packs.length, .notFound)]
  | .testPrint _ _ body =>
      let printer := (named 8 (num body 0 1)).map fun p => s.printers[p]
      let fields := ticketBody (num body 1 1) (body.drop 2)
      [(printer.isSome, .printerNumber),
        (fields.isSome, .bodyLength),
        (s.spoils.length < 232, .hold),
        (printer.all fun pr => pr.service == .ready && pr.loadCheck == none && pr.unloadCheck == none
            && pr.test == none, .printerState),
        (printer.all fun pr => fields.all fun fs => pr.capability.any fun c => bodyLength fs ≤ c.maxBody,
          .bodyLength)]
  | .setService _ _ body =>
      let p := named 8 (num body 0 1)
      [(p.isSome, .printerNumber),
        (p.all fun p => num body 1 1 != 0 || s.printers[p].pool || s.fallback.toList.all (· != some p),
          .printerState),
        (p.all fun p => s.printers[p].loadCheck == none && s.printers[p].unloadCheck == none
            && s.printers[p].test == none, .printerState)]
  | .resetLine _ _ body => [(num body 0 1 < 8, .printerNumber)]
  | .resolveDispute _ _ body =>
      let entry := (named 12 (num body 0 1)).bind fun w =>
        if s.shifts[w].state = .idle then none else s.shifts[w].entries[num body 1 1]?
      let off := num body 2 1 == 1
      let pack := entry.bind fun e => s.pack? e.pack
      [(num body 0 1 < 12, .entryInvalid),
        (num body 2 1 ≤ 1, .entryInvalid),
        (entry.any (·.disputed), .notFound),
        (!off || s.spoils.length < 232, .hold),
        (!off || pack.any fun k => (k.location == .safe || k.location == .compromised) && k.loadCheck == none,
          .packState)]
  | .readSpoils _ _ body => [(1 ≤ num body 1 1 && num body 1 1 ≤ 8, .entryInvalid)]
  | .readEntries _ _ body =>
      [(1 ≤ num body 3 1 && num body 3 1 ≤ 8 && num body 0 1 < 12 && num body 1 1 ≤ 1
          && num body 2 1 ≤ (if num body 1 1 = 0 then 103 else 31), .entryInvalid)]
  | .readShift _ _ body => [(num body 0 1 < 12, .entryInvalid)]
  | .reopenCount _ _ body =>
      let h := (named 12 (num body 0 1)).map fun w => s.shifts[w]
      [(h.isSome, .entryInvalid), (h.all fun h => h.state == .declared && h.recount < 3, .shiftState)]
  | .signOff _ _ body =>
      let w := named 12 (num body 0 1)
      [(w.isSome, .entryInvalid), (w.all fun w => s.shifts[w].state == .declared, .shiftState),
        (w.all fun w => s.stockStatus w == .clear, .disputeOpen)]
  | .openDay _ _ _ => [(!s.dayOpen, .dayState)]
  | .closeDay _ _ _ =>
      [(s.dayOpen && s.shifts.toList.all (fun h => h.state == .idle || h.state == .signedOff)
          && s.printers.toList.all fun pr => pr.printing == none && pr.staged == none && pr.range == none
            && pr.loadCheck == none, .dayState)]
  | .readFault _ _ body =>
      [(num body 0 2 == 0 || s.allReports.any (·.number == num body 0 2), .notFound)]
  | .ackFault _ _ body => [(s.allReports.any (·.number == num body 0 2), .notFound)]
  | .selectEntry _ _ body => [((cursorNamed (num body 0 1) (num body 1 1)).isSome, .entryInvalid)]
  | .writeEntry _ _ body =>
      match s.cursor with
      | .concession _ =>
        [(!s.tableLock, .tableLocked), (num body 0 1 == 0 || stepAllowed (num body 6 1), .entryInvalid)]
      | .split _ =>
        let parts := partsFrom body (num body 0 1) 1
        [(!s.tableLock, .tableLocked), (num body 0 1 ≤ 4, .entryInvalid), (parts.isSome, .entryInvalid),
          (parts.all Split.sound, .entryInvalid)]
      | .routing _ => [(num body 2 1 ≤ 3, .entryInvalid)]
      | .fallback _ =>
        [(num body 0 1 == 255 || (named 8 (num body 0 1)).any fun p => !s.printers[p].pool, .entryInvalid)]
      | .tolerance _ => []
      | .limits => []
  | .setClock _ _ body => [(num body 0 3 < 86400, .entryInvalid)]
  | _ => []

/-- The code of the first check that fails. -/
def firstFailing (checks : List (Bool × Code)) : Option Code := (checks.find? (!·.1)).map (·.2)

/-! ## Answers -/

/-- The port has taken a sound frame and one frame has fallen due for it. -/
def State.answered (s : State) (port : Port) (f : Frame) : State :=
  s.modPort port fun r => { r with rx := .fresh, tx := r.tx ++ [f] }

/-! ## Layouts -/

/-- R183: a body is laid out in these fields, each a width in bytes and a number: they stand one after the
other with nothing over, each number high byte first and within the range of its width. -/
def Laid : List (Nat × Nat) → List Byte → Prop
  | [], body => body = []
  | (width, number) :: fields, body =>
    width ≤ body.length ∧ num body 0 width = number % 256 ^ width ∧ Laid fields (body.drop width)

/-! ## A state apart from the bookkeeping -/

/-- A printer apart from its pending test print, burst holder, pause timer, change flags and lamp. -/
def Printer.bare (pr : Printer) : Printer :=
  { pr with
    test := none, arbiter := { pr.arbiter with holder := none }, pauseTimer := none, flags := .clear,
    lamp := .dark }

/-- A shift apart from its state. -/
def Shift.bare (h : Shift) : Shift := { h with state := .idle }

/-- A port apart from its waiting frames. -/
def PortRecord.bare (r : PortRecord) : PortRecord := { r with tx := [] }

/-- A state apart from what the end of a step may write: waiting frames, jobs, the fault table, change
flags, silencing, the outputs, shift states, and the parts of a printer that `Printer.bare` leaves out. -/
def State.bare (s : State) : State :=
  { s with
    ports := s.ports.map PortRecord.bare, svPort := s.svPort.bare, printers := s.printers.map Printer.bare
    jobs := [], shifts := s.shifts.map Shift.bare, reports := [], reserved := none, counter := 0
    windowFlags := Vector.replicate 12 .clear, silenced := false, alarm := false }

/-! ## The end of a step -/

/-- When a condition holds that follows the state: R26 JABBER; R31 COVER_OPEN and HEAD_FAULT; R31, R84 JAM;
R10 LOW_STOCK and PACK_EXHAUSTED, of the loaded pack; R22 SERIAL_DISPUTE; R91 ACCOUNTABILITY_HOLD; R166
EXTERNAL_ALARM. LINK_LOST (R25) and LINE_BREAK (R162) follow events. -/
def State.holds (s : State) : Source → Kind → Bool
  | .printer p, .jabber => decide (s.printers[p].link = .jabber)
  | .printer p, .coverOpen => s.printers[p].conditions.coverOpen
  | .printer p, .headFault => s.printers[p].conditions.headFault
  | .printer p, .jam => s.printers[p].conditions.jamPresent
  | .printer p, .lowStock =>
    (s.loadedPack p).any fun k => k.next ≤ k.last && k.last + 1 - k.next ≤ s.limits.lowStock
  | .printer p, .packExhausted => (s.loadedPack p).any fun k => k.last < k.next
  | .printer p, .serialDispute =>
    s.printers[p].stockHold
      || (s.printers[p].loaded.any fun id =>
            s.shifts.toList.any fun h => h.entries.any fun e => e.disputed && e.pack == id)
      || s.packs.any fun k => k.location == .compromised && k.compromisedAt == some p
  | .office, .accountabilityHold => decide (256 - s.spoils.length ≤ 24)
  | .office, .externalAlarm => s.alarmIn
  | _, _ => false

/-- The conditions that `State.holds` speaks of, in the order their occurrences are taken (log 9). -/
def conditionsInOrder : List (Source × Kind) :=
  (allPrinters.map fun p => [(Source.printer p, Kind.jabber), (.printer p, .coverOpen),
      (.printer p, .headFault), (.printer p, .jam), (.printer p, .lowStock), (.printer p, .packExhausted),
      (.printer p, .serialDispute)]).flatten
    ++ [(.office, .accountabilityHold), (.office, .externalAlarm)]

/-- What follows of itself is raised after what the command's rules raise, `told` (log 9): SHIFT_LIMITED of
each window whose limit indicator has been set (R114), and each condition that has come to hold (R22, R91,
R166, and the others of `State.holds`), unless `told` has an occurrence of it; none carries a field. -/
def State.arising (before t : State) (told : List Occurrence) : List Occurrence :=
  (allWindows.filter fun w => !before.shifts[w].limited && t.shifts[w].limited).map
      (fun w => { source := .window w, kind := .shiftLimited })
    ++ (conditionsInOrder.filter fun sk => !before.holds sk.1 sk.2 && t.holds sk.1 sk.2
          && told.all fun o => !(o.source == sk.1 && o.kind == sk.2)).map
        fun sk => { source := sk.1, kind := sk.2 }

/-- R50, R66, R68: the outcome with which a job leaves the queue, none while it stays: it leaves when none of
its tickets is in flight, an ENDING job with its ending's outcome and an ACTIVE one that no burst holds when
all is printed; COMPLETE whenever all is printed. -/
def State.leaves (t : State) (j : Job) : Option JobOutcome :=
  if t.inFlight j.ref ≠ 0 then none
  else match j.state with
    | .queued => none
    | .active => if j.printed = j.quantity ∧ t.isHolder j.ref = false then some .complete else none
    | .ending e =>
      if j.printed = j.quantity then some .complete
      else some (match e with
        | .cancelled => .cancelled
        | .recordFull => .recordFull
        | .detached => .detached)

/-- R50, R62, R63: an ACTIVE job with nothing in flight that no burst holds returns to QUEUED, its waits
started; every other stays as it is. -/
def State.requeued (u t : State) (j : Job) : Job :=
  if j.state = .active ∧ t.inFlight j.ref = 0 ∧ t.isHolder j.ref = false then
    { j with
      state := .queued, current := none, jobWait := some u.limits.jobWait
      routeWait := if j.target = none ∧ j.routePassed = false then some u.limits.routeWait else none }
  else j

/-- R70: the pending test print of a printer, where it is abandoned: the printer is not READY, the hold is on,
or the body is longer than the capability now takes. -/
def State.abandoned (u : State) (p : PrinterId) : Option TestPrint :=
  u.printers[p].test.filter fun x =>
    !x.sent && (u.printers[p].service != .ready || decide (256 - u.spoils.length ≤ 24)
      || u.printers[p].capability.any fun c => c.maxBody < x.fields.length + (x.fields.map (·.length)).sum)

/-- R132: a DRAINING shift whose window has no live job left moves to COUNTING. -/
def State.drains (u t : State) (w : Window) : Bool := u.shifts[w].state == .draining && t.liveJobs w == 0

/-- The fault table and the window ports before a step's occurrences are raised: R154, a condition that held
and does so no more ends; R66, JOB END for each job that has left, in order of arrival; R133, SHIFT STATE
for a shift that has moved to COUNTING, with the fields of QUERY SHIFT as they then stand. -/
def State.unraised (before u t : State) : State :=
  { u with
    reports := u.reports.map fun r =>
      if r.state ≠ .cleared ∧ before.holds r.source r.kind = true ∧ t.holds r.source r.kind = false then
        { r with
          active := some false
          state := if r.state = .acknowledged then .cleared else r.state }
      else r
    ports := Vector.ofFn fun w : Window => u.ports[w].push
      ((u.jobs.filterMap fun j =>
          if j.ref.window = w then
            (t.leaves j).map fun o => ⟨0x83#8, j.ref.tag,
              be 1 o.code ++ be 1 j.printed ++ be 2 j.jamSpoiled ++ beInt 4 j.charged⟩
          else none)
        ++ if u.drains t w then [⟨0x86#8, 0#8, t.queryBody w⟩] else []) }

/-- A step that began at `before`, whose command left `u` and whose rules raise `told`, ends at `t`: `t` is
`u` but for what the manual lets follow of itself. Jobs leave or return to QUEUED (R50, R66, R68); a DRAINING
shift with no live job moves to COUNTING (R132); a burst holder is cleared (R56); a pending test print is
abandoned, TEST DONE ABANDONED going to the supervisor port in the order of the printers (R70; logs 9 and
17); pause timers (R36), change flags (R11, R24, R30, R31, R111, R163), ALARM (R167) and lamps (R168) follow
their rules; and on the table and ports as `State.unraised` leaves them, the occurrences `told` and then
`State.arising` are raised one after the other, with their NOTICEs (`State.raise`: R153, R156, R157, R165). -/
structure State.Settled (before u t : State) (told : List Occurrence) : Prop where
  bare : t.bare = u.bare
  jobs : t.jobs = (u.jobs.filter fun j => (t.leaves j).isNone).map (u.requeued t)
  shifts : ∀ w : Window, t.shifts[w] =
    if u.drains t w then { u.shifts[w] with state := .counting } else u.shifts[w]
  holders : ∀ p : PrinterId, t.printers[p].arbiter = { u.printers[p].arbiter with
    holder := u.printers[p].arbiter.holder.filter fun ref =>
      u.canServe p && (u.job? ref).any fun j => j.state == .active && u.remaining j != 0 }
  tests : ∀ p : PrinterId, t.printers[p].test =
    if (u.abandoned p).isSome then none else u.printers[p].test
  pauses : ∀ p : PrinterId, t.printers[p].pauseTimer =
    if u.printers[p].conditions.paused && u.printers[p].staged.isSome && !u.printers[p].withdrawal then
      some (u.printers[p].pauseTimer.getD u.limits.pause)
    else none
  supervisor : t.svPort = u.svPort.push (allPrinters.filterMap fun p =>
    (u.abandoned p).map fun x => ⟨0x88#8, x.tag,
      be 1 p.val ++ be 1 6 ++ be 2 0 ++ absent 3 ++ absent 3 ++ be 1 0⟩)
  table :
    let raised := (State.unraised before u t).raiseAll (told ++ before.arising t told)
    t.reports = raised.reports ∧ t.reserved = raised.reserved ∧ t.counter = raised.counter
      ∧ t.silenced = raised.silenced ∧ t.ports = raised.ports
  printerFlags : ∀ p : PrinterId,
    let old := before.printers[p]
    let new := t.printers[p]
    let had := u.printers[p].flags
    (new.flags.link = true ↔ had.link = true ∨ old.link ≠ new.link)
      ∧ (new.flags.service = true ↔ had.service = true ∨ old.service ≠ new.service ∨ old.pool ≠ new.pool
          ∨ old.outOfService ≠ new.outOfService)
      ∧ (new.flags.stock = true ↔ had.stock = true ∨ old.loaded ≠ new.loaded
          ∨ (before.loadedPack p).map Pack.stockView ≠ (t.loadedPack p).map Pack.stockView)
      ∧ (new.flags.conditions = true ↔ had.conditions = true ∨ old.conditions ≠ new.conditions)
  windowFlags : ∀ w : Window,
    let old := before.shifts[w]
    let new := t.shifts[w]
    (t.windowFlags[w].line = true ↔ u.windowFlags[w].line = true
        ∨ (before.port (.window w)).attached ≠ (t.port (.window w)).attached)
      ∧ (t.windowFlags[w].shift = true ↔ u.windowFlags[w].shift = true ∨ old.state ≠ new.state
          ∨ (old.limited = false ∧ new.limited = true) ∨ old.standingNumbers ≠ new.standingNumbers
          ∨ old.declaration ≠ new.declaration)
  alarm : t.alarm = t.alarmLaw
  lamps : ∀ p : PrinterId, t.printers[p].lamp = u.printers[p].lamp.show (t.lampLaw p)

/-- An occurrence of a source and kind has been taken: an OPEN report of them stands (R153), or the table
had no room and the reserved TABLE_FULL report stands OPEN in its place (R157). -/
def State.Told (s : State) (source : Source) (kind : Kind) : Prop :=
  (∃ r ∈ s.reports, r.source = source ∧ r.kind = kind ∧ r.state = .opened)
    ∨ ∃ r, s.reserved = some r ∧ r.state = .opened

/-! ## Laws that every step keeps -/

/-- R167, R185: ALARM is asserted exactly when its terms hold. -/
def State.AlarmSound (s : State) : Prop :=
  s.alarm = true ↔
    s.phase = .running ∧ s.limits.alarmEnable = true ∧ s.silenced = false
      ∧ ((∃ r ∈ s.reports ++ s.reserved.toList, r.state = .opened ∧ r.kind.severity = .critical)
        ∨ s.alarmIn = true)

/-- R168, R185: the aspect a printer's lamp must show, with what each aspect leaves lit. -/
def State.LampSound (s : State) (p : PrinterId) : Prop :=
  let pr := s.printers[p]
  let dark := s.phase ≠ .running ∨ pr.link ≠ .up ∨ pr.outOfService = true
  let trouble := ∃ r ∈ s.reports, r.source = .printer p ∧ r.state ≠ .cleared
    ∧ (r.kind.severity = .fault ∨ r.kind.severity = .critical)
  (pr.lamp.aspect = .off ↔ dark) ∧ (pr.lamp.aspect = .flash ↔ ¬dark ∧ trouble)
    ∧ (pr.lamp.aspect = .off → pr.lamp.lit = false)
    ∧ (pr.lamp.aspect ≠ .on → pr.lamp.pulse = false)
    ∧ (pr.lamp.aspect = .on → pr.lamp.lit = !pr.lamp.pulse)

/-- R168: every lamp is sound. -/
def State.LampsSound (s : State) : Prop := ∀ p : PrinterId, s.LampSound p

/-- R156: at most 48 general reports, and no two uncleared ones of the same source and kind. -/
def State.TableSound (s : State) : Prop :=
  s.reports.length ≤ 48
    ∧ s.reports.Pairwise fun a b =>
        ¬(a.state ≠ .cleared ∧ b.state ≠ .cleared ∧ a.source = b.source ∧ a.kind = b.kind)

/-- R151: every number in the table, and the counter, is from 1 to 65,535; a number names one report; the
counter stands at no number in the table. The table's size (R149) is part of the law. -/
def State.NumbersSound (s : State) : Prop :=
  let numbers := (s.reports ++ s.reserved.toList).map (·.number)
  s.reports.length ≤ 48 ∧ numbers.Nodup ∧ (∀ n ∈ numbers, 1 ≤ n ∧ n ≤ 65535)
    ∧ 1 ≤ s.counter ∧ s.counter ≤ 65535 ∧ s.counter ∉ numbers

/-- R181: no FALLBACK entry names a printer whose membership is POOL. -/
def State.FallbackSound (s : State) : Prop :=
  ∀ (t : StockType) (p : PrinterId), s.fallback[t] = some p → s.printers[p].pool = false

/-- R1, R2, R3, R13: pack ids are unique; a printer's loaded-pack reference and a pack's location name each
other, and so do a printer's load check and a pack's load-check field, the pack being SAFE and the printer
empty; the compromised-at field is present exactly while the pack is COMPROMISED. -/
structure State.PacksSound (s : State) : Prop where
  size : s.packs.length ≤ 64
  ids : (s.packs.map (·.id)).Nodup
  loaded : ∀ (p : PrinterId) (id : Nat), s.printers[p].loaded = some id →
    ∃ k ∈ s.packs, k.id = id ∧ k.location = .loaded p
  located : ∀ k ∈ s.packs, ∀ p : PrinterId, k.location = .loaded p → s.printers[p].loaded = some k.id
  checking : ∀ (p : PrinterId) (c : LoadCheck), s.printers[p].loadCheck = some c →
    s.printers[p].loaded = none ∧ ∃ k ∈ s.packs, k.id = c.pack ∧ k.loadCheck = some p ∧ k.location = .safe
  checked : ∀ k ∈ s.packs, ∀ p : PrinterId, k.loadCheck = some p →
    ∃ c : LoadCheck, s.printers[p].loadCheck = some c ∧ c.pack = k.id
  compromised : ∀ k ∈ s.packs, k.location = .compromised ↔ k.compromisedAt.isSome = true

/-- R33, R40: what a printer holds of its loaded pack: nothing without a pack or during an unload check;
else tickets whose serials run up to the pack's next serial, or an uncertain range that does. -/
def Printer.holdingSound (pr : Printer) (k : Pack) : Prop :=
  match pr.range with
  | some g =>
    pr.printing = none ∧ pr.staged = none ∧ pr.unloadCheck = none ∧ g.pack = k.id
      ∧ 1 ≤ g.charges.length ∧ g.charges.length ≤ 2 ∧ g.first + g.charges.length = k.next
  | none =>
    match pr.printing, pr.staged with
    | none, none => True
    | some t, none => pr.unloadCheck = none ∧ t.pack = k.id ∧ t.serial + 1 = k.next
    | none, some f => pr.unloadCheck = none ∧ f.pack = k.id ∧ f.serial + 1 = k.next
    | some t, some f =>
      pr.unloadCheck = none ∧ t.pack = k.id ∧ f.pack = k.id ∧ t.serial + 1 = f.serial
        ∧ f.serial + 1 = k.next

/-- R4: the pack balance, with what it rests on: the laws of R3, and where each held serial lies; no ticket is
in flight on a printer whose link is not UP, or that has no loaded pack (R33). -/
structure State.StockSound (s : State) : Prop where
  packs : s.PacksSound
  bounds : ∀ k ∈ s.packs, k.first ≤ k.last ∧ k.first ≤ k.next ∧ k.next ≤ k.last + 1
  balance : ∀ k ∈ s.packs, k.issued + k.spoiled + s.held k.id + k.unused = k.size
  linked : ∀ p : PrinterId, s.printers[p].link ≠ .up →
    s.printers[p].printing = none ∧ s.printers[p].staged = none
  empty : ∀ p : PrinterId, s.printers[p].loaded = none →
    s.printers[p].printing = none ∧ s.printers[p].staged = none ∧ s.printers[p].range = none
  holding : ∀ (p : PrinterId) (k : Pack), k ∈ s.packs → s.printers[p].loaded = some k.id →
    s.printers[p].holdingSound k

/-- R92: the runs that a printer can still write: one for each ticket or uncertain serial, and one for the
unload of its pack. -/
def Printer.runsDue (pr : Printer) : Nat :=
  pr.tickets.length + pr.range.elim 0 (·.charges.length)
    + (if pr.loaded.isSome || pr.loadCheck.isSome then 1 else 0)

/-- R92: the spoil list has room for every run that can still fall due. -/
def State.SpoilsSound (s : State) : Prop :=
  s.StockSound ∧ s.spoils.length + (allPrinters.map fun p => s.printers[p].runsDue).sum ≤ 256

/-- R45: the limits of the issue queue, and a job named by window and tag. -/
def State.QueueSound (s : State) : Prop :=
  s.jobs.length ≤ 32 ∧ (∀ w : Window, s.liveJobs w ≤ 4) ∧ (s.jobs.map (·.ref)).Nodup

/-- R50, R68, R132, R36, R70: while the part runs, nothing that settles itself is left unsettled: an ACTIVE
job has a ticket in flight or a burst holding, an ENDING job has a ticket in flight, a DRAINING shift has a
live job, the pause timer runs exactly under its conditions, and a pending test print waits only on a READY
printer with the hold off. -/
def State.RestSound (s : State) : Prop :=
  s.phase = .running →
    (∀ j ∈ s.jobs, j.state = .active → 0 < s.inFlight j.ref ∨ s.isHolder j.ref = true)
    ∧ (∀ j ∈ s.jobs, ∀ e, j.state = .ending e → 0 < s.inFlight j.ref)
    ∧ (∀ w : Window, s.shifts[w].state = .draining → 0 < s.liveJobs w)
    ∧ (∀ p : PrinterId, s.printers[p].pauseTimer.isSome = true ↔
        s.printers[p].conditions.paused = true ∧ s.printers[p].staged.isSome = true
          ∧ s.printers[p].withdrawal = false)
    ∧ (∀ (p : PrinterId) (x : TestPrint), s.printers[p].test = some x → x.sent = false →
        s.printers[p].service = .ready ∧ s.hold = false)

/-- R120: the void list. -/
def Shift.VoidsSound (h : Shift) : Prop :=
  h.voids.length ≤ 32 ∧ (h.voids.map fun v => (v.pack, v.serial)).Nodup ∧ h.voidCount = h.voids.length
    ∧ ∀ v ∈ h.voids, ∃ e ∈ h.entries, e.pack = v.pack ∧ e.first ≤ v.serial ∧ v.serial < e.first + e.count

/-- R120: every void list is sound. -/
def State.VoidsSound (s : State) : Prop := ∀ w : Window, s.shifts[w].VoidsSound

/-- R127: while the day is CLOSED every shift is IDLE. -/
def State.DaySound (s : State) : Prop := s.dayOpen = false → ∀ w : Window, s.shifts[w].state = .idle

/-- R109: a total lies in its range. -/
def inRange (i : Int) : Prop := -2147483647 ≤ i ∧ i ≤ 2147483647

/-- R114: a shift whose limit indicator is clear has its head totals sum to its tender totals; every total
lies in its range (R109). -/
def Shift.Balanced (h : Shift) : Prop :=
  (h.limited = false → h.heads.toList.sum = h.tenders.cash + h.tenders.card + h.tenders.warrant)
    ∧ inRange h.tenders.cash ∧ inRange h.tenders.card ∧ inRange h.tenders.warrant
    ∧ ∀ i ∈ h.heads.toList, inRange i

/-- The shift takes postings (R110). -/
def ShiftState.posts : ShiftState → Bool
  | .opened => true
  | .draining => true
  | .idle => false
  | .counting => false
  | .declared => false
  | .signedOff => false

/-- R98: the form of a split entry. -/
def Split.Legal (split : Split) : Prop :=
  split.length ≤ 4 ∧ split.Pairwise (fun a b => a.share ≤ b.share)
    ∧ ∀ part ∈ split.getLast?, part.share = 65536

/-- R114, with what it rests on: splits are legal (R98), live jobs and entries that can still be voided
name valid splits (R101), jobs belong to shifts that post (R145), and an IDLE shift has no entry (R109). -/
structure State.AccountsSound (s : State) : Prop where
  balanced : ∀ w : Window, s.shifts[w].Balanced
  splits : ∀ i : EntryIndex, Split.Legal s.splits[i]
  jobs : ∀ j ∈ s.jobs, s.shifts[j.ref.window].state.posts = true ∧ s.splits[j.split] ≠ []
  entries : ∀ w : Window, s.shifts[w].state.posts = true → ∀ e ∈ s.shifts[w].entries, s.splits[e.split] ≠ []
  idle : ∀ w : Window, s.shifts[w].state = .idle → s.shifts[w].entries = []

/-- R96: the form of a concession entry. -/
def Concession.Legal (c : Concession) : Prop :=
  if c.valid then
    c.discount ≤ 65535 ∧ c.minimum ≤ 1999999 ∧ (c.step = 1 ∨ c.step = 5 ∨ c.step = 10 ∨ c.step = 50)
  else c = .invalid

/-- R180: the settings of the LIMITS table in their ranges. -/
def Limits.Legal (l : Limits) : Prop :=
  (1 ≤ l.burst ∧ l.burst ≤ 16) ∧ (5 ≤ l.pause ∧ l.pause ≤ 120) ∧ (5 ≤ l.routeWait ∧ l.routeWait ≤ 300)
    ∧ (10 ≤ l.jobWait ∧ l.jobWait ≤ 600) ∧ l.lowStock ≤ 500

/-- R96, R98, R136, R180, R188: every settings table, and the clock, in its range. -/
structure State.SettingsSound (s : State) : Prop where
  concessions : ∀ i : EntryIndex, (s.concessions[i]).Legal
  splits : ∀ i : EntryIndex, Split.Legal s.splits[i]
  tolerance : s.tolerance.cash ≤ 100000 ∧ s.tolerance.card ≤ 100000 ∧ s.tolerance.warrant ≤ 100000
  limits : s.limits.Legal
  clock : s.clock.time < 86400 ∧ s.clock.day < 65536

end Sys2Proof.Machine
end

