-- ==== Sys2Proof/Certificates/Slice0/Obligations.lean ====
section
/-!
DEFINITION. The statements about this model: what each names is said in its title; the rules of spec/ are
cited in its docstring and in OBLIGATIONS.json.
-/

open Sys2Proof Sys2Proof.Machine

/-! ## The machine -/

/-- A step runs the command at the front of the queue on the state with the rest of the queue; with nothing
waiting it changes nothing (the model's choice, log 1). -/
def Obligations.StepRunsFrontCommand : Prop :=
  (∀ (s : State) (c : Instr) (rest : List Instr), s.pending = c :: rest →
      step s = exec c { s with pending := rest })
    ∧ ∀ s : State, s.pending = [] → step s = .next s

/-- No command changes the queue of waiting commands (95_what_each_step_holds.md: each step is whole). -/
def Obligations.CommandsLeaveQueue : Prop :=
  ∀ (c : Instr) (s t : State), exec c s = .next t → t.pending = s.pending

/-- Every command that a line, a timer or a pin can carry has a next state, whatever the state: no
command stops the part (9.5: a bad one is refused and changes nothing). Operands that describe no
event of their row are the only ones that stop (log 27). -/
def Obligations.WellFormedCommandsComplete : Prop :=
  (∀ (c : Instr) (s : State), c.wellFormed = true → ∃ t, exec c s = .next t)
    ∧ (∀ (port : Port) (kind : Byte) (tag : Tag) (s : State), commandKind kind = true →
        exec (.unknownKind port kind tag) s = .fault .illFormed)
    ∧ (∀ (port : Port) (cause : FramingFault) (s : State), genuine cause false = false →
        exec (.frameError port cause) s = .fault .illFormed)
    ∧ (∀ (p : PrinterId) (cause : FramingFault) (s : State), genuine cause true = false →
        exec (.printerFrameError p cause) s = .fault .illFormed)
    ∧ ∀ (p : PrinterId) (kind : Byte) (s : State), printerKind kind = true →
        exec (.printerUnknownKind p kind) s = .fault .illFormed

/-! ## What reset leaves -/

/-- R129: after a cold start every shift is IDLE and empty, the day CLOSED, the table lock off, and the
fault table holds only COLD_START. -/
def Obligations.ResetShiftsIdleDayClosed : Prop :=
  (∀ w : Window, State.reset.shifts[w].state = .idle ∧ State.reset.shifts[w].entries = []
      ∧ State.reset.shifts[w].voids = [] ∧ State.reset.shifts[w].declaration = none
      ∧ State.reset.shifts[w].reservations = 0 ∧ State.reset.shifts[w] = Shift.empty)
    ∧ State.reset.dayOpen = false ∧ State.reset.tableLock = false
    ∧ (∀ (w : Window), ∀ r ∈ State.reset.reports, ¬(r.source = .window w ∧ r.kind = .shiftLimited))
    ∧ State.reset.reports = [Report.coldStart]
    ∧ Report.coldStart.kind = .coldStart ∧ Report.coldStart.source = .office

/-- The state at reset meets every law that the statements below say a step keeps. -/
def Obligations.ResetMeetsTheLaws : Prop :=
  State.reset.AlarmSound ∧ State.reset.LampsSound ∧ State.reset.TableSound ∧ State.reset.NumbersSound
    ∧ State.reset.FallbackSound ∧ State.reset.SpoilsSound ∧ State.reset.QueueSound ∧ State.reset.RestSound
    ∧ State.reset.VoidsSound ∧ State.reset.DaySound ∧ State.reset.AccountsSound ∧ State.reset.SettingsSound

/-! ## Laws that every step keeps -/

/-- R167: every step leaves ALARM asserted exactly when its terms hold. -/
def Obligations.StepKeepsAlarm : Prop :=
  ∀ s t : State, s.AlarmSound → step s = .next t → t.AlarmSound

/-- R168: every step leaves every bay lamp showing the aspect its printer calls for. -/
def Obligations.StepKeepsLamps : Prop :=
  ∀ s t : State, s.LampsSound → step s = .next t → t.LampsSound

/-- R156: the fault table never holds two uncleared reports of the same source and kind, nor more than 48
reports besides the reserved one. -/
def Obligations.StepKeepsFaultTable : Prop :=
  ∀ s t : State, s.TableSound → step s = .next t → t.TableSound

/-- R151: a report's number names one report at a time, and the counter never stands at a number in use. -/
def Obligations.StepKeepsReportNumbers : Prop :=
  ∀ s t : State, s.NumbersSound → step s = .next t → t.NumbersSound

/-- R3: every pack is in the safe or loaded in exactly one printer, and a printer's loaded-pack reference
names a pack whose location is that printer. -/
def Obligations.StepKeepsPacksAndPrinters : Prop :=
  ∀ s t : State, s.PacksSound → step s = .next t → t.PacksSound

/-- R4: issued, spoiled, held and unused blanks of every pack add up to its size. -/
def Obligations.StepKeepsPackBalance : Prop :=
  ∀ s t : State, s.StockSound → step s = .next t → t.StockSound

/-- R92: the spoil list never holds more than 256 runs, and always has room for what can still fall due. -/
def Obligations.StepKeepsSpoilRoom : Prop :=
  ∀ s t : State, s.SpoilsSound → step s = .next t → t.SpoilsSound ∧ t.spoils.length ≤ 256

/-- R45: at most 32 live jobs, at most 4 of one window, and no two of one window with the same tag. -/
def Obligations.StepKeepsQueueLimits : Prop :=
  ∀ s t : State, s.QueueSound → step s = .next t → t.QueueSound

/-- R50, R68, R132, R36, R70: no step leaves a job, a draining shift, a pause timer or a pending test print
unsettled. -/
def Obligations.StepLeavesAllSettled : Prop :=
  ∀ s t : State, s.RestSound → step s = .next t → t.RestSound

/-- R120: a void list holds at most 32 voids, no serial of a pack twice, each in an issue entry of its
shift, and the void count is its length. R127: while the day is CLOSED every shift is IDLE. -/
def Obligations.StepKeepsVoidListsAndClosedDay : Prop :=
  (∀ s t : State, s.VoidsSound → step s = .next t → t.VoidsSound)
    ∧ ∀ s t : State, s.DaySound → step s = .next t → t.DaySound

/-- R114: in every shift whose limit indicator is clear, the head totals sum to the tender totals. -/
def Obligations.StepKeepsShiftAccounts : Prop :=
  ∀ s t : State, s.AccountsSound → step s = .next t → t.AccountsSound

/-- R96, R98, R136, R180, R181, R188: every settings table and the clock stay in their ranges, and no
FALLBACK entry comes to name a printer whose membership is POOL. -/
def Obligations.StepKeepsSettings : Prop :=
  (∀ s t : State, s.SettingsSound → step s = .next t → t.SettingsSound)
    ∧ ∀ s t : State, s.FallbackSound → step s = .next t → t.FallbackSound

/-! ## The fare unit -/

/-- R95: the convergent division: the table of its results, its order, its exact multiples, and the largest
product it is given. -/
def Obligations.ConvergentDivision : Prop :=
  (∀ q r : Nat, r < 65536 →
      (r < 32768 → convergent (65536 * q + r) = q)
        ∧ (32768 < r → convergent (65536 * q + r) = q + 1)
        ∧ (r = 32768 → q % 2 = 0 → convergent (65536 * q + r) = q)
        ∧ (r = 32768 → q % 2 = 1 → convergent (65536 * q + r) = q + 1))
    ∧ (∀ x y : Nat, x ≤ y → convergent x ≤ convergent y)
    ∧ (∀ n : Nat, convergent (65536 * n) = n) ∧ convergent 0 = 0
    ∧ ∀ fare share : Nat, fare ≤ 1999999 → share ≤ 65536 → fare * share ≤ 131071934464

/-- R103: the unit charge, its five steps, its bounds and its order. -/
def Obligations.UnitCharge : Prop :=
  ∀ (f : Nat) (c : Concession), c.discount ≤ 65535 → 1 ≤ c.step →
    convergent (f * c.discount) ≤ f
      ∧ unitCharge f c
          = max ((f - convergent (f * c.discount)) / c.step * c.step) (min c.minimum f)
      ∧ min c.minimum f ≤ unitCharge f c ∧ unitCharge f c ≤ f ∧ unitCharge 0 c = 0
      ∧ ∀ g : Nat, f ≤ g → unitCharge f c ≤ unitCharge g c

/-- R105: the portions go to the heads of the parts in order, each from 0 to the amount, and sum to it;
each is the difference of two cumulative portions. R106: a negative amount is apportioned by its magnitude and every
portion negated, so that a void cancels a posting head by head. -/
def Obligations.Apportionment : Prop :=
  ∀ (a : Nat) (split : Split), split ≠ [] → Split.Legal split →
    (apportion a split).map (·.1) = split.map (·.head)
      ∧ (∀ hp ∈ apportion a split, 0 ≤ hp.2 ∧ hp.2 ≤ a)
      ∧ ((apportion a split).map (·.2)).sum = a
      ∧ (∀ n : Nat, n ≤ split.length →
          (((apportion a split).take n).map (·.2)).sum
            = ((split.take n).getLast?.elim 0 fun part => convergent (a * part.share) : Nat))
      ∧ apportion (-(a : Int)) split = (apportion a split).map (fun hp => (hp.1, -hp.2))
      ∧ ((apportion (-(a : Int)) split).map (·.2)).sum = -(a : Int)

/-- R113, R114: a posting: the tender total and then each part's head total, each formed exactly and held
within its range; the indicator set where an addition is held, and never cleared; the rest of the record
unchanged. -/
def Obligations.Posting : Prop :=
  ∀ (h : Shift) (t : Tender) (a : Int) (split : Split),
    let after := h.post t a split
    let held (x : Int) : Int := max (-2147483647) (min 2147483647 x)
    after.tenders = h.tenders.set t (held (h.tenders.get t + a))
      ∧ (after.heads, after.limited) = (apportion a split).foldl
          (fun (v : Vector Int 8 × Bool) hp =>
            let total := v.1[hp.1] + hp.2
            (v.1.set hp.1 (held total), v.2 || decide (held total ≠ total)))
          (h.heads, h.limited || decide (held (h.tenders.get t + a) ≠ h.tenders.get t + a))
      ∧ (h.limited = true → after.limited = true)
      ∧ (after.limited = false → posted h after t = a)
      ∧ { after with tenders := h.tenders, heads := h.heads, limited := h.limited } = h

/-! ## Taking a frame or an event -/

/-- R175 and 9.5: on an ATTACHED port of a running part, a frame on the wrong kind of port is refused
PERMISSION, one whose body is too short or too long for its layout ENTRY_INVALID, and a kind that no command
has UNKNOWN_KIND; the refusal is answered with the frame's tag and changes nothing else. A DETACHED port or a
part that does not run (R171, R185), and a printer line whose link is not UP (R24), take no frame at all. -/
def Obligations.FrameChecks : Prop :=
  (∀ (c : Instr) (s : State) (f : FrameRow), s.frame c = some f →
      (¬s.Hears f.port → exec c s = .next s)
        ∧ (s.Hears f.port → (f.port = .supervisor ↔ f.supervisor = false) →
            exec c s = .next (s.answered f.port (refusedFrame .permission f.kind f.tag)))
        ∧ (s.Hears f.port → (f.port = .supervisor ↔ f.supervisor = true) →
            f.body.length < f.lo ∨ f.hi < f.body.length →
            exec c s = .next (s.answered f.port (refusedFrame .entryInvalid f.kind f.tag))))
    ∧ (∀ (port : Port) (kind : Byte) (tag : Tag) (s : State), commandKind kind = false →
        (¬s.Hears port → exec (.unknownKind port kind tag) s = .next s)
          ∧ (s.Hears port → exec (.unknownKind port kind tag) s
              = .next (s.answered port (refusedFrame .unknownKind kind tag))))
    ∧ ∀ (c : Instr) (s : State) (p : PrinterId) (body : List Byte) (n : Nat),
        printerFrameOf c = some (p, body, n) → ¬s.HearsPrinter p → exec c s = .next s

/-- R170, R171, R172, R176: a port becomes ATTACHED and PORT STATUS falls due on it; a window's LINE flag is
set and its LINE_BREAK report ends. A break makes it DETACHED and discards its waiting frames; a window's jobs
end DETACHED (R67), and LINE_BREAK is raised unless its shift is IDLE (R162). A frame sent leaves the port's
list. (That the head of the list is the frame being sent, which FRAME_SENT takes off and a break discards with
the waiting ones, is the model's choice, log 6.) Where the port is already so, or the part does not run,
nothing changes (the model's choice, log 2). (In `State.Settled`, the order of what falls together in a step
and the fields of TEST DONE ABANDONED are the model's choice, logs 9 and 17; the fields of an occurrence are
deduced, log 20.) -/
def Obligations.PortAttachBreakSend : Prop :=
  (∀ s : State, s.phase = .running → s.svPort.attached = false →
      exec (.attach .supervisor) s = .next { s with
        svPort := {
          attached := true
          rx := .fresh
          tx := s.svPort.tx ++ [{ kind := 0x87#8, tag := 0#8, body := beBool s.dayOpen ++ s.openBytes }] } })
    ∧ (∀ (s : State) (w : Window), s.phase = .running → s.ports[w].attached = false →
        exec (.attach (.window w)) s = .next { s with
          ports := s.ports.set w {
            attached := true
            rx := .fresh
            tx := s.ports[w].tx ++ [{ kind := 0x87#8, tag := 0#8, body := s.queryBody w }] }
          windowFlags := s.windowFlags.set w { s.windowFlags[w] with line := true }
          reports := s.reports.map fun r =>
            if r.source = .window w ∧ r.kind = .lineBreak ∧ r.state ≠ .cleared then
              { r with
                active := some false
                state := if r.state = .acknowledged then .cleared else r.state }
            else r })
    ∧ (∀ s : State, s.Hears .supervisor →
        exec (.lineBreak .supervisor) s = .next { s with svPort := .start })
    ∧ (∀ (s : State) (w : Window), s.Hears (.window w) →
        ∃ t, exec (.lineBreak (.window w)) s = .next t
          ∧ State.Settled s (({ s with ports := s.ports.set w .start } : State).endJobs
              (fun j => j.ref.window == w) .detached) t
                (if s.shifts[w].state = .idle then [] else [{ source := .window w, kind := .lineBreak }])
          ∧ (s.shifts[w].state ≠ .idle → t.Told (.window w) .lineBreak))
    ∧ (∀ s : State, s.Hears .supervisor → exec (.frameSent .supervisor) s
        = .next { s with svPort := { s.svPort with tx := s.svPort.tx.tail } })
    ∧ (∀ (s : State) (w : Window), s.Hears (.window w) → exec (.frameSent (.window w)) s
        = .next { s with ports := s.ports.set w { s.ports[w] with tx := s.ports[w].tx.tail } })
    ∧ ∀ (s : State) (port : Port),
        (¬s.Hears port → exec (.lineBreak port) s = .next s ∧ exec (.frameSent port) s = .next s
            ∧ exec (.frameGap port) s = .next s)
          ∧ (s.phase ≠ .running ∨ (s.port port).attached = true → exec (.attach port) s = .next s)

/-- R174: a bad length or a bad check is always answered with code FRAME, kind 0 and tag 0, and raises
FRAME_ERROR; a bad start only when the port's last bytes ended a sound frame or it has just attached; a gap
raises FRAME_ERROR without an answer. Afterwards the port hunts for a start (when a bad start is answered is
deduced, log 25). (In `State.Settled`, the order of what falls together in a step and the fields of TEST DONE
ABANDONED are the model's choice, logs 9 and 17; the fields of an occurrence are deduced, log 20.) -/
def Obligations.FramingFaults : Prop :=
  ∀ (s : State) (port : Port), s.Hears port →
    let hunting := fun frames : List Frame =>
      s.modPort port fun r => { r with rx := .hunting, tx := r.tx ++ frames }
    let raised : List Occurrence := [{ source := portSource port, kind := .frameError }]
    (∀ cause : FramingFault, genuine cause false = true →
        ((∃ b, cause = .badStart b) → (s.port port).rx ≠ .fresh → exec (.frameError port cause) s = .next s)
          ∧ (((∀ b, cause ≠ .badStart b) ∨ (s.port port).rx = .fresh) →
              ∃ t, exec (.frameError port cause) s = .next t
                ∧ State.Settled s (hunting [refusedFrame .frame 0#8 0#8]) t raised ∧ t.Told (portSource port) .frameError))
      ∧ ∃ t, exec (.frameGap port) s = .next t ∧ State.Settled s (hunting []) t raised ∧ t.Told (portSource port) .frameError

/-- 9.5 and the checks of the commands' rules (R12 to R21, R27, R32, R48, R64, R69, R80, R90, R97, R99, R112,
R121, R123, R125, R126, R130, R134, R141, R143 to R145, R160, R161, R164, R178 to R181, R189): a command
whose frame passes R175 is refused with the code of the first check of its rule that fails, and changes
nothing else; a command none of whose checks fails is not refused. (That a TEST PRINT whose field list
does not fill its body is refused BODY_LENGTH is deduced, log 19.) -/
def Obligations.CommandRefusals : Prop :=
  ∀ (c : Instr) (s : State) (f : FrameRow), s.frame c = some f → s.Hears f.port →
    (f.port = .supervisor ↔ f.supervisor = true) → f.lo ≤ f.body.length → f.body.length ≤ f.hi →
    (∀ code : Code, firstFailing (s.checks c) = some code →
        exec c s = .next (s.answered f.port (refusedFrame code f.kind f.tag)))
      ∧ (firstFailing (s.checks c) = none →
          ∃ (t : State) (answer : Frame) (more : List Frame), exec c s = .next t
            ∧ (t.port f.port).tx = (s.port f.port).tx ++ answer :: more
            ∧ answer.tag = f.tag ∧ answer.kind ≠ 0x81#8)

/-! ## The window commands -/

/-- R112: OPEN SHIFT: DAY_STATE while the day is CLOSED, SHIFT_STATE in a shift that is not IDLE; otherwise
the shift takes the float, at most 10,000,000, and the clock as its opened time, becomes OPEN and flags it,
and the table lock holds. -/
def Obligations.OpenShift : Prop :=
  ∀ (s : State) (w : Window) (tag : Tag) (float : Nat), s.Hears (.window w) → float < 2 ^ 32 →
    let c : Instr := .openShift (.window w) tag (be 4 float)
    let stored := min float 10000000
    let u : State := { s with
      shifts := s.shifts.set w { s.shifts[w] with
        state := .opened, float := stored, openedAt := some s.clock }
      windowFlags := s.windowFlags.set w { s.windowFlags[w] with shift := true } }
    (s.dayOpen = false → exec c s = .next (s.answered (.window w) (refusedFrame .dayState 0x10#8 tag)))
      ∧ (s.dayOpen = true → s.shifts[w].state ≠ .idle →
          exec c s = .next (s.answered (.window w) (refusedFrame .shiftState 0x10#8 tag)))
      ∧ (s.dayOpen = true → s.shifts[w].state = .idle →
          exec c s = .next (u.answered (.window w) (acceptedFrame 0x10#8 tag (be 4 stored)))
            ∧ u.tableLock = true)

/-- R47, R48, R49: an ISSUE none of whose checks fails joins the queue as a QUEUED job with the unit charge
of its fare and concession, a pool job of the stock type named or a specific job of the type named or, with
none named, of the printer's loaded pack; its wait starts, and a pool job's route wait; ACCEPTED carries the
unit charge and the amount to collect. -/
def Obligations.IssueAccepted : Prop :=
  ∀ (s : State) (w : Window) (tag : Tag) (fare quantity selector : Nat) (concession split : EntryIndex)
    (tender : Tender) (fields : List (List Byte)) (target : Option PrinterId) (stock : StockType),
    s.Hears (.window w) → s.dayOpen = true → s.shifts[w].state = .opened →
    (∀ j ∈ s.jobs, j.ref ≠ { window := w, tag := tag }) → s.jobs.length < 32 → s.liveJobs w < 4 →
    fare ≤ 1999999 → s.concessions[concession].valid = true → s.splits[split] ≠ [] → quantity ≤ 63 →
    ((target = none ∧ selector = stock.val)
      ∨ ∃ p : PrinterId, target = some p ∧ (selector = 128 + 16 * (stock.val + 1) + p.val
          ∨ selector = 128 + p.val ∧ ∃ k, s.loadedPack p = some k ∧ k.stock = stock)) →
    1 ≤ fields.length → fields.length ≤ 12 → (∀ f ∈ fields, f.length ≤ 40) →
    fields.length + (fields.map (·.length)).sum ≤ 200 →
    let unit := unitCharge fare s.concessions[concession]
    let asked := if quantity = 0 then 64 else quantity
    let job : Job :=
      { ref := { window := w, tag := tag }, target := target, stock := stock, concession := concession,
        split := split, tender := tender, baseFare := fare, unit := unit, quantity := asked, printed := 0,
        jamSpoiled := 0, state := .queued, fields := fields, routePassed := false, current := none,
        lastEntry := none, charged := 0, jobWait := some s.limits.jobWait,
        routeWait := if target = none then some s.limits.routeWait else none }
    exec (.issue (.window w) tag (be 3 fare ++ be 1 concession.val ++ be 1 split.val ++ be 1 tender.code
        ++ be 1 quantity ++ be 1 selector ++ be 1 fields.length ++ fieldBytes fields)) s
      = .next (({ s with jobs := s.jobs ++ [job] } : State).answered (.window w)
          (acceptedFrame 0x11#8 tag (be 3 unit ++ be 4 (unit * asked))))

/-- R37, R64, R65, R67, R130: CANCEL ends the window's job of the tag named, CLOSE SHIFT makes an OPEN shift
DRAINING and ends every job of the window, both CANCELLED; what follows of itself, such as a JOB END and the
move to COUNTING, is `State.Settled`. Ending jobs: a chosen job that is QUEUED or ACTIVE goes to ENDING with
the outcome and leaves its printer and its waits; others are as they were. On each printer whose staged ticket
is a chosen ACTIVE job's, WITHDRAW is sent with the ticket's serial unless a withdrawal is already
outstanding. Nothing else changes. (In `State.Settled`, the order of what falls together in a step and the
fields of TEST DONE ABANDONED are the model's choice, logs 9 and 17; the fields of an occurrence are deduced,
log 20.) -/
def Obligations.CancelAndCloseShift : Prop :=
  (∀ (s : State) (w : Window) (tag named : Tag), s.Hears (.window w) →
      (∃ j ∈ s.jobs, j.ref = { window := w, tag := named }) →
      ∃ t, exec (.cancel (.window w) tag [named]) s = .next t
        ∧ State.Settled s ((s.answered (.window w) (acceptedFrame 0x12#8 tag [named])).endJobs
            (fun j => j.ref == { window := w, tag := named }) .cancelled) t [])
    ∧ (∀ (s : State) (w : Window) (tag : Tag), s.Hears (.window w) → s.shifts[w].state = .opened →
        ∃ t, exec (.closeShift (.window w) tag []) s = .next t
          ∧ State.Settled s ((({ s with shifts := s.shifts.set w { s.shifts[w] with state := .draining } } :
              State).answered (.window w) (acceptedFrame 0x15#8 tag [])).endJobs
                (fun j => j.ref.window == w) .cancelled) t [])
    ∧ ∀ (s : State) (chosen : Job → Bool) (e : Ending),
      let u := s.endJobs chosen e
      { u with jobs := s.jobs, printers := s.printers } = s
        ∧ u.jobs = s.jobs.map (fun j =>
            if chosen j = true ∧ (j.state = .queued ∨ j.state = .active) then
              { j with state := .ending e, current := none, jobWait := none, routeWait := none }
            else j)
        ∧ ∀ p : PrinterId,
            (∀ (f : Ticket) (ref : JobRef) (j : Job), s.printers[p].staged = some f → f.owner = some ref →
                s.job? ref = some j → j.state = .active → chosen j = true → s.printers[p].withdrawal = false →
                u.printers[p] = { s.printers[p] with
                  withdrawal := true
                  sent := s.printers[p].sent ++ [{ kind := 0x41#8, tag := 2#8, body := be 3 f.serial }] })
              ∧ ((∀ f ∈ s.printers[p].staged, ∀ ref ∈ f.owner, ∀ j ∈ s.job? ref,
                    j.state ≠ .active ∨ chosen j = false) ∨ s.printers[p].withdrawal = true →
                  u.printers[p] = s.printers[p])

/-- R121, R122: a VOID of a serial in an entry of the shift whose mark is clear, not yet voided, joins the
void list, raises the void count and posts minus the entry's unit charge. R123: a REFUND raises the refund
count and posts minus the amount. ACCEPTED carries the amount posted; no pack, entry or job changes; and
SHIFT_LIMITED is raised where the posting sets the limit indicator (R114; postings are `Posting`). (In
`State.Settled`, the order of what falls together in a step and the fields of TEST DONE ABANDONED are the
model's choice, logs 9 and 17; the fields of an occurrence are deduced, log 20.) -/
def Obligations.VoidAndRefund : Prop :=
  (∀ (s : State) (w : Window) (tag : Tag) (stock : StockType) (serial n : Nat) (e : Entry),
      let h := s.shifts[w]
      let holds := fun x : Entry => x.first ≤ serial ∧ serial < x.first + x.count
        ∧ ∃ k, s.pack? x.pack = some k ∧ k.stock = stock
      s.Hears (.window w) → h.state = .opened ∨ h.state = .draining → serial < 2 ^ 24 →
      h.entries[n]? = some e → holds e → (∀ (m : Nat) (x : Entry), m < n → h.entries[m]? = some x → ¬holds x) →
      e.disputed = false → (∀ v ∈ h.voids, ¬(v.pack = e.pack ∧ v.serial = serial)) → h.voids.length < 32 →
      let after := ({ h with
        voids := h.voids ++ [{ pack := e.pack, serial := serial, time := s.clock }]
        voidCount := min (h.voidCount + 1) 65535 } : Shift).post e.tender (-e.unit) s.splits[e.split]
      ∃ t, exec (.void (.window w) tag (be 1 stock.val ++ be 3 serial)) s = .next t
        ∧ State.Settled s (({ s with shifts := s.shifts.set w after } : State).answered (.window w)
            (acceptedFrame 0x13#8 tag (be 1 n ++ beInt 4 (posted h after e.tender)))) t []
        ∧ (h.limited = false → after.limited = true → t.Told (.window w) .shiftLimited))
    ∧ ∀ (s : State) (w : Window) (tag : Tag) (amount : Nat) (tender : Tender) (split : EntryIndex),
        let h := s.shifts[w]
        s.Hears (.window w) → h.state = .opened → 1 ≤ amount → amount ≤ 1999999 → s.splits[split] ≠ [] →
        let after := ({ h with refunds := min (h.refunds + 1) 65535 } : Shift).post tender (-amount)
          s.splits[split]
        ∃ t, exec (.refund (.window w) tag (be 3 amount ++ be 1 tender.code ++ be 1 split.val)) s = .next t
          ∧ State.Settled s (({ s with shifts := s.shifts.set w after } : State).answered (.window w)
              (acceptedFrame 0x14#8 tag (beInt 4 (posted h after tender)))) t []
          ∧ (h.limited = false → after.limited = true → t.Told (.window w) .shiftLimited)

/-- R134 to R140: a DECLARE in a COUNTING shift makes the declaration: the amounts written, each at most
2,147,483,647; the expected amounts, the float counted in CASH; the variances, held within the range of a
total; each tender OVER, SHORT or BALANCED by its tolerance; LIMITED over OUT over BALANCED; the stock status;
the recount and the time. The shift becomes DECLARED, CASH-UP RESULT answers, and an OUT result raises
SHIFT_VARIANCE. (In `State.Settled`, the order of what falls together in a step and the fields of TEST DONE
ABANDONED are the model's choice, logs 9 and 17; the fields of an occurrence are deduced, log 20.) -/
def Obligations.Declare : Prop :=
  ∀ (s : State) (w : Window) (tag : Tag) (cash card warrant : Nat),
    s.Hears (.window w) → s.shifts[w].state = .counting →
    cash < 2 ^ 32 → card < 2 ^ 32 → warrant < 2 ^ 32 →
    let h := s.shifts[w]
    let amount (n : Nat) : Nat := min n 2147483647
    let variance (n : Nat) (expected : Int) : Int := max (-2147483647) (min 2147483647 ((amount n : Int) - expected))
    let classed (v : Int) (tolerance : Nat) : TenderClass :=
      if v > tolerance then .over else if v < -(tolerance : Int) then .short else .balanced
    ∃ (t : State) (d : Declaration), exec (.declare (.window w) tag (be 4 cash ++ be 4 card ++ be 4 warrant)) s
        = .next t
      ∧ d.declared = { cash := amount cash, card := amount card, warrant := amount warrant }
      ∧ d.expected = { cash := h.tenders.cash + h.float, card := h.tenders.card, warrant := h.tenders.warrant }
      ∧ d.tolerances = s.tolerance
      ∧ d.variances.cash = variance cash d.expected.cash ∧ d.variances.card = variance card d.expected.card
      ∧ d.variances.warrant = variance warrant d.expected.warrant
      ∧ d.classes.cash = classed d.variances.cash s.tolerance.cash
      ∧ d.classes.card = classed d.variances.card s.tolerance.card
      ∧ d.classes.warrant = classed d.variances.warrant s.tolerance.warrant
      ∧ (d.result = .limited ↔ h.limited = true)
      ∧ (d.result = .balanced ↔ h.limited = false
          ∧ d.classes = { cash := .balanced, card := .balanced, warrant := .balanced })
      ∧ d.status = s.stockStatus w ∧ d.recount = h.recount ∧ d.time = s.clock
      ∧ State.Settled s (({ s with
            shifts := s.shifts.set w { h with state := .declared, declaration := some d } } : State).answered
              (.window w) ⟨0x85#8, tag,
                be 1 d.classes.cash.code ++ beInt 4 d.variances.cash
                  ++ be 1 d.classes.card.code ++ beInt 4 d.variances.card
                  ++ be 1 d.classes.warrant.code ++ beInt 4 d.variances.warrant
                  ++ be 1 d.result.code ++ be 1 d.status.code ++ be 1 d.recount⟩) t
                (if d.result = .out then
                  [{ source := .window w, kind := .shiftVariance, recount := some d.recount }] else [])
      ∧ (d.result = .out → t.Told (.window w) .shiftVariance)

/-! ## Reads -/

/-- R21, R90, R124 to R126, R159, R160, R179, R190: the reads answer with their reply in place of ACCEPTED,
under the command's tag, and change nothing else.
(How an absent capability and unused split places are sent is deduced, log 18.) -/
def Obligations.ReadsAnswer : Prop :=
  (∀ (s : State) (w : Window) (tag : Tag), s.Hears (.window w) →
      exec (.queryShift (.window w) tag []) s
        = .next (s.answered (.window w) { kind := 0x93#8, tag := tag, body := s.queryBody w }))
    ∧ ∀ (s : State) (tag : Tag), s.Hears .supervisor →
        let replies (kind : Byte) (body : List Byte) : Host.Outcome State Fault Refusal :=
          .next (s.answered .supervisor { kind := kind, tag := tag, body := body })
        (∀ (i : Nat) (k : Pack), i < 64 → s.packs[i]? = some k →
            exec (.readPack .supervisor tag (be 1 1 ++ be 2 i)) s = replies 0x8B#8 (s.packBody i k))
          ∧ (∀ (i : Nat) (k : Pack), i < 256 → s.packs[i]? = some k → k.id < 65536 →
              (∀ (m : Nat) (x : Pack), m < i → s.packs[m]? = some x → x.id ≠ k.id) →
              exec (.readPack .supervisor tag (be 1 0 ++ be 2 k.id)) s = replies 0x8B#8 (s.packBody i k))
          ∧ (∀ start count : Nat, start < 256 → 1 ≤ count → count ≤ 8 →
              exec (.readSpoils .supervisor tag (be 1 start ++ be 1 count)) s
                = replies 0x8C#8 (s.spoilsBody start count))
          ∧ (∀ (w : Window) (start count : Nat), 1 ≤ count → count ≤ 8 →
              (start ≤ 103 → exec (.readEntries .supervisor tag (be 1 w.val ++ be 1 0 ++ be 1 start ++ be 1 count)) s
                  = replies 0x8D#8 (s.shifts[w].entriesBody false start count))
                ∧ (start ≤ 31 → exec (.readEntries .supervisor tag (be 1 w.val ++ be 1 1 ++ be 1 start ++ be 1 count)) s
                  = replies 0x8D#8 (s.shifts[w].entriesBody true start count)))
          ∧ (∀ w : Window, exec (.readShift .supervisor tag (be 1 w.val)) s = replies 0x8E#8 (s.shiftBody w))
          ∧ exec (.nextFault .supervisor tag []) s = replies 0x8F#8 (s.faultBody s.nextReport 0)
          ∧ (∀ (i : Nat) (r : Report), s.allReports[i]? = some r → r.number < 65536 → r.number ≠ 0 →
              (∀ (m : Nat) (x : Report), m < i → s.allReports[m]? = some x → x.number ≠ r.number) →
              exec (.readFault .supervisor tag (be 2 r.number)) s
                = replies 0x8F#8 (s.faultBody (some r) ((s.allReports[i + 1]?).elim 0 (·.number))))
          ∧ exec (.readFault .supervisor tag (be 2 0)) s
              = replies 0x8F#8 (s.faultBody s.allReports.head? ((s.allReports[1]?).elim 0 (·.number)))
          ∧ exec (.readEntry .supervisor tag []) s
              = replies 0x91#8 (be 1 s.cursor.table ++ be 1 s.cursor.index ++ s.entryBody s.cursor)
          ∧ exec (.readOffice .supervisor tag []) s = replies 0x92#8 s.officeBody

/-- R159: the report NEXT FAULT reads is OPEN, none is read only where none is OPEN, no OPEN report is more
severe, and none of the same severity stands before it. R183: a frame stands on its line as 9.2 gives, and
each reply carries the fields of its layout in 9.8, in their order and widths; the values of a list are coded
by their places in it. (An absent capability and the places of a split beyond its count are sent as FFh
bytes: deduced, log 18.) -/
def Obligations.RepliesAreAsLaidDown : Prop :=
  let flag (b : Bool) : Nat × Nat := (1, b.toNat)
  let opt (width : Nat) (n : Option Nat) : Nat × Nat := (width, n.getD (256 ^ width - 1))
  let printer (p : Option PrinterId) : Nat × Nat := opt 1 (p.map (·.val))
  let time (t : Stamp) : List (Nat × Nat) := [(3, t.time), (2, t.day)]
  let timeOpt (t : Option Stamp) : List (Nat × Nat) := t.elim [opt 3 none, opt 2 none] time
  let signed (width : Nat) (i : Int) : Nat × Nat := (width, (i % (256 ^ width : Nat)).toNat)
  let run (r : SpoilRun) : List (Nat × Nat) :=
    [(2, r.pack), (3, r.first), (2, r.count), (1, r.cause.code), printer r.printer,
      opt 1 (r.charged.map (·.window.val)), opt 1 (r.charged.map (·.tag.toNat))] ++ time r.time
  let entry (x : Entry × Nat) : List (Nat × Nat) :=
    let e := x.1
    [(1, x.2), (1, e.allowance.code), (1, e.tag.toNat), (2, e.pack), (3, e.first), (1, e.count), (3, e.unit),
      (1, e.tender.code), (1, e.concession.val), (1, e.split.val), flag e.disputed, opt 3 e.readSerial,
      flag e.writtenOff]
  let void (x : VoidRecord × Nat) : List (Nat × Nat) := [(1, x.2), (2, x.1.pack), (3, x.1.serial)] ++ time x.1.time
  (∀ f : Frame, f.body.length ≤ 248 →
      Laid ([(1, 0xA5), (1, f.body.length + 2), (1, f.kind.toNat), (1, f.tag.toNat)]
        ++ f.body.map (fun b => (1, b.toNat)) ++ [(2, (checkOf (covered f.kind f.tag f.body)).toNat)]) f.line)
    ∧ ∀ s : State,
      let reports := s.reports ++ s.reserved.toList
      let opened (v : Severity) : Nat := reports.countP fun r => r.state == .opened && r.kind.severity == v
      let highest : Option Nat :=
        if 0 < opened .critical then some 3 else if 0 < opened .fault then some 2
        else if 0 < opened .warning then some 1 else if 0 < opened .info then some 0 else none
      let openReports : List (Nat × Nat) := [(1, reports.countP (·.state == .opened)), opt 1 highest]
      let report (r : Report) : List (Nat × Nat) :=
        [(2, r.number), (1, r.source.code), (1, r.kind.code), (1, r.kind.severity.rank), (1, r.state.code)]
          ++ time r.firstAt ++ time r.lastAt ++ [(1, r.repeats), opt 1 (r.active.map (·.toNat)), opt 3 r.serial,
            (2, r.pack.getD 0), opt 1 (r.window.map (·.val)), opt 1 (r.jobTag.map (·.toNat)), opt 1 r.recount,
            opt 1 (r.folded.map (·.1.code)), opt 1 (r.folded.map (·.2.code))]
      let declaration (d : Declaration) : List (Nat × Nat) :=
        [(4, d.declared.cash), (4, d.declared.card), (4, d.declared.warrant), signed 5 d.expected.cash,
          signed 5 d.expected.card, signed 5 d.expected.warrant, (4, d.tolerances.cash), (4, d.tolerances.card),
          (4, d.tolerances.warrant), signed 4 d.variances.cash, signed 4 d.variances.card,
          signed 4 d.variances.warrant, (1, d.classes.cash.code), (1, d.classes.card.code),
          (1, d.classes.warrant.code), (1, d.result.code), (1, d.status.code), (1, d.recount)] ++ time d.time
      let office (pr : Printer) : List (Nat × Nat) :=
        [(1, pr.link.code), (1, pr.service.code), flag (!pr.pool), flag pr.outOfService, (2, pr.loaded.getD 0)]
          ++ (match pr.capability with
            | none => [(1, 0), opt 1 none, opt 1 none, opt 1 none, opt 2 none]
            | some c => [(1, if c.basic then 2 else 1), (1, c.types.toNat), (1, c.maxBody), flag c.staging,
                (2, c.model)])
          ++ [(1, pr.printing.toList.length + pr.staged.toList.length),
            (1, match pr.range with | none => 0 | some g => if g.disputed then 2 else 1)]
      (s.nextReport = none ↔ ∀ r ∈ reports, r.state ≠ .opened)
        ∧ (∀ r, s.nextReport = some r →
            ∃ before after, s.reports ++ s.reserved.toList = before ++ r :: after ∧ r.state = .opened
              ∧ (∀ x ∈ before, x.state = .opened → x.kind.severity.rank < r.kind.severity.rank)
              ∧ ∀ x ∈ after, x.state = .opened → x.kind.severity.rank ≤ r.kind.severity.rank)
        ∧ (∀ w : Window,
            let h := s.shifts[w]
            let main := h.entries.countP (·.allowance == .main)
            let disputed := h.entries.countP (·.allowance == .disputed)
            let standing := h.entries.countP (·.disputed)
            Laid ((1, h.state.code) :: timeOpt h.openedAt ++ [(2, h.tickets), (2, h.voidCount), (2, h.refunds),
                (2, h.spoils), (1, main), (1, disputed), (1, standing), (1, 8 - disputed), (1, s.liveJobs w),
                flag h.limited, (1, h.recount)]) (s.queryBody w)
              ∧ Laid ([(1, w.val), (1, h.state.code), (4, h.float)] ++ timeOpt h.openedAt ++ timeOpt h.signedOffAt
                ++ [signed 4 h.tenders.cash, signed 4 h.tenders.card, signed 4 h.tenders.warrant]
                ++ h.heads.toList.map (signed 4) ++ [(2, h.tickets), (2, h.voidCount), (2, h.refunds),
                  (2, h.spoils), flag h.limited, (1, h.reservations), (1, h.recount), (1, main), (1, disputed),
                  (1, standing), (1, h.voids.length), (1, s.liveJobs w)]
                ++ h.declaration.elim [opt 62 none] declaration) (s.shiftBody w)
              ∧ ∀ start count : Nat,
                  Laid ((1, h.entries.length) :: (1, 0)
                      :: ((h.entries.zipIdx.drop start).take count).flatMap entry) (h.entriesBody false start count)
                    ∧ Laid ((1, h.voids.length) :: (1, 1)
                      :: ((h.voids.zipIdx.drop start).take count).flatMap void) (h.entriesBody true start count))
        ∧ (∀ (i : Nat) (k : Pack),
            Laid ([(1, i), (2, k.id), (1, k.stock.val), (3, k.first), (3, k.last), (3, k.next),
              (1, match k.location with | .safe => 0 | .loaded _ => 1 | .compromised => 2),
              printer (match k.location with | .loaded p => some p | .safe => none | .compromised => none),
              printer k.loadCheck, printer k.compromisedAt, (2, k.issued), (2, k.spoiled), (1, s.held k.id),
              (2, k.last + 1 - k.next), (3, k.dayMark)] ++ time k.received) (s.packBody i k))
        ∧ (∀ start count : Nat,
            Laid ((2, s.spoils.length) :: ((s.spoils.drop start).take count).flatMap run) (s.spoilsBody start count))
        ∧ (∀ (r : Option Report) (following : Nat),
            Laid (flag r.isSome :: r.elim [(28, 0)] report ++ [(2, following), (1, opened .info),
              (1, opened .warning), (1, opened .fault), (1, opened .critical)]) (s.faultBody r following))
        ∧ Laid (s.printers.toList.map (fun pr => (1, pr.flags.link.toNat + 2 * pr.flags.service.toNat
              + 4 * pr.flags.stock.toNat + 8 * pr.flags.conditions.toNat))
            ++ s.windowFlags.toList.map (fun f => (1, f.line.toNat + 2 * f.shift.toNat)) ++ openReports) s.changesBody
        ∧ Laid ((1, s.dayOpen.toNat) :: openReports) (s.portStatus .supervisor).body
        ∧ Laid (time s.clock ++ [flag s.clockUnset, (1, if s.lastStart = .cold then 0 else 1), (1, s.speed.val),
            flag s.dayOpen, flag (decide (256 - s.spoils.length ≤ 24)), (2, s.spoils.length), (1, s.jobs.length),
            flag s.alarm, flag s.silenced, flag s.alarmIn] ++ s.printers.toList.flatMap office) s.officeBody
        ∧ (∀ i : EntryIndex,
            let c := s.concessions[i]
            let split : Split := s.splits[i]
            Laid [flag c.valid, (2, c.discount), (3, c.minimum), (1, c.step)] (s.entryBody (.concession i))
              ∧ (split.length ≤ 4 → Laid ((1, split.length)
                  :: split.flatMap (fun part => [(1, part.head.val), (3, part.share)])
                  ++ (List.replicate (4 - split.length) [opt 1 none, opt 3 none]).flatten) (s.entryBody (.split i))))
        ∧ (∀ p : PrinterId, Laid [(2, s.routing[p].windows.toNat), (1, s.routing[p].minimum.rank)]
            (s.entryBody (.routing p)))
        ∧ (∀ t : StockType, Laid [printer s.fallback[t]] (s.entryBody (.fallback t)))
        ∧ (∀ t : Tender, Laid [(4, s.tolerance.get t)] (s.entryBody (.tolerance t)))
        ∧ Laid [(1, s.limits.burst), (1, s.limits.pause), (2, s.limits.routeWait), (2, s.limits.jobWait),
            (2, s.limits.lowStock), (1, s.limits.latches.toNat), flag s.limits.alarmEnable] (s.entryBody .limits)
        ∧ [ShiftState.idle, .opened, .draining, .counting, .declared, .signedOff].map (·.code) = List.range 6
        ∧ [Link.down, .settling, .up, .jabber].map (·.code) = List.range 4
        ∧ [Service.absent, .negotiating, .faulted, .recovering, .stockHold, .outOfService, .loading, .paused,
            .empty, .ready].map (·.code) = List.range 10
        ∧ [Cause.jam, .linkLost, .missing, .test, .writtenOff].map (·.code) = List.range 5
        ∧ [JobOutcome.complete, .cancelled, .noPrinter, .printerUnavailable, .recordFull, .detached].map (·.code)
            = List.range 6
        ∧ [Severity.info, .warning, .fault, .critical].map (·.rank) = List.range 4
        ∧ [ReportState.opened, .acknowledged, .cleared].map (·.code) = List.range 3
        ∧ [Kind.linkLost, .jabber, .capabilityBasic, .coverOpen, .headFault, .jam, .printTimeout, .pauseTimeout,
            .lowStock, .packExhausted, .serialDispute, .loadMismatch, .missingBlanks, .recoverySpoil, .protocol,
            .lineBreak, .frameError, .shiftVariance, .shiftLimited, .accountabilityHold, .externalAlarm,
            .coldStart, .tableFull].map (·.code) = (List.range 23).map (· + 1)
        ∧ (∀ p : PrinterId, (Source.printer p).code = p.val) ∧ (∀ w : Window, (Source.window w).code = 16 + w.val)
        ∧ Source.office.code = 32

/-! ## The supervisor's commands on stock and printers -/

/-- R8, R12, R20: RECEIVE PACK adds a SAFE record with next and day mark at the first serial, nothing issued
or spoiled; RETIRE PACK takes a record that has nothing left to account for out of the table, the records
after it moving up. -/
def Obligations.ReceiveAndRetirePack : Prop :=
  (∀ (s : State) (tag : Tag) (id first last : Nat) (stock : StockType), s.Hears .supervisor →
      1 ≤ id → id ≤ 65535 → last ≤ 9999999 → first ≤ last → last - first + 1 ≤ 2000 →
      (∀ k ∈ s.packs, k.id ≠ id) → (∀ k ∈ s.packs, k.stock = stock → k.last < first ∨ last < k.first) →
      s.packs.length < 64 →
      let pack : Pack :=
        { id := id, stock := stock, first := first, last := last, next := first, location := .safe,
          loadCheck := none, compromisedAt := none, issued := 0, spoiled := 0, dayMark := first,
          received := s.clock }
      exec (.receivePack .supervisor tag (be 2 id ++ be 1 stock.val ++ be 3 first ++ be 3 last)) s
        = .next (({ s with packs := s.packs ++ [pack] } : State).answered .supervisor
            (acceptedFrame 0x20#8 tag (be 2 id ++ be 1 s.packs.length))))
    ∧ ∀ (s : State) (tag : Tag) (before after : List Pack) (k : Pack), s.Hears .supervisor →
        s.packs = before ++ k :: after → (∀ x ∈ before, x.id ≠ k.id) → k.id ≤ 65535 →
        k.location = .safe → k.loadCheck = none → k.last < k.next →
        s.dayOpen = false ∨ k.dayMark = k.next → (∀ r ∈ s.spoils, r.pack ≠ k.id) →
        exec (.retirePack .supervisor tag (be 2 k.id)) s
          = .next (({ s with packs := before ++ after } : State).answered .supervisor
              (acceptedFrame 0x25#8 tag (be 2 k.id)))

/-- R13, R15: LOAD PACK of a SAFE pack with an unused blank into an EMPTY printer that carries its type, the
hold off, starts the load check: the pack's load-check field and the printer's check name each other, and TOP
REPORT is sent. UNLOAD PACK of a loaded printer that holds no serial, is READY, FAULTED or STOCK HOLD on an UP
link, with no check or test outstanding and a free spoil entry, starts the unload check likewise. (In
`State.Settled`, the order of what falls together in a step and the fields of TEST DONE ABANDONED are the
model's choice, logs 9 and 17; the fields of an occurrence are deduced, log 20.) -/
def Obligations.LoadAndUnloadChecksStart : Prop :=
  (∀ (s : State) (tag : Tag) (p : PrinterId) (k : Pack) (c : Capability), s.Hears .supervisor →
      s.pack? k.id = some k → k.id ≤ 65535 → s.spoils.length < 232 →
      k.location = .safe → k.loadCheck = none → k.next ≤ k.last → s.printers[p].service = .empty →
      s.printers[p].loadCheck = none → s.printers[p].unloadCheck = none → s.printers[p].test = none →
      s.printers[p].capability = some c → c.types.getLsbD k.stock.val = true →
      ∃ t, exec (.loadPack .supervisor tag (be 2 k.id ++ be 1 p.val)) s = .next t
        ∧ State.Settled s (({ s with
            packs := s.packs.map fun x => if x.id = k.id then { x with loadCheck := some p } else x
            printers := s.printers.set p { s.printers[p] with
              loadCheck := some { pack := k.id, tag := tag, attempt := .first }
              sent := s.printers[p].sent ++ [{ kind := 0x42#8, tag := 0#8, body := [] }] } } :
              State).answered .supervisor (acceptedFrame 0x21#8 tag (be 1 p.val))) t [])
    ∧ ∀ (s : State) (tag : Tag) (p : PrinterId), s.Hears .supervisor →
        s.printers[p].loaded.isSome = true → s.printers[p].link = .up →
        (s.printers[p].service = .ready ∨ s.printers[p].service = .faulted ∨ s.printers[p].service = .stockHold) →
        s.printers[p].printing = none → s.printers[p].staged = none → s.printers[p].range = none →
        s.printers[p].loadCheck = none → s.printers[p].unloadCheck = none → s.printers[p].test = none →
        s.spoils.length < 256 →
        ∃ t, exec (.unloadPack .supervisor tag (be 1 p.val)) s = .next t
          ∧ State.Settled s (({ s with
              printers := s.printers.set p { s.printers[p] with
                unloadCheck := some { tag := tag, attempt := .first }
                sent := s.printers[p].sent ++ [{ kind := 0x42#8, tag := 0#8, body := [] }] } } :
                State).answered .supervisor (acceptedFrame 0x22#8 tag (be 1 p.val))) t []

/-- R2, R6, R88, R116: a spoil run: it joins the end of the list with its pack, serials, cause, printer,
charge and the time; its pack's spoiled count rises by its count and the pack's next serial is moved past it;
and the spoil count of the shift it is charged to rises, held at 65,535. Nothing else changes. -/
def Obligations.SpoilRunWritten : Prop :=
  ∀ (s : State) (pack first count : Nat) (cause : Cause) (printer : Option PrinterId) (charged : Option JobRef),
    s.writeRun pack first count cause printer charged = { s with
      spoils := s.spoils ++ [{ pack := pack, first := first, count := count, cause := cause,
                               printer := printer, charged := charged, time := s.clock }]
      packs := s.packs.map fun k =>
        if k.id = pack then { k with spoiled := k.spoiled + count, next := max k.next (first + count) } else k
      shifts := match charged with
        | some ref => s.shifts.set ref.window
            { s.shifts[ref.window] with spoils := min (s.shifts[ref.window].spoils + count) 65535 }
        | none => s.shifts }

/-- R3, R18, R19, R89: FORCE UNLOAD spoils the printer's uncertain range, one run where its serials are
charged alike and otherwise one for each, abandons its query, and leaves the pack COMPROMISED at the printer,
raising SERIAL_DISPUTE (an occurrence even where it held before: deduced, log 12). WRITE OFF PACK spoils every
unused blank of a SAFE or COMPROMISED pack in one run with no charge, and leaves it SAFE. (In `State.Settled`,
the order of what falls together in a step and the fields of TEST DONE ABANDONED are the model's choice, logs
9 and 17; the fields of an occurrence are deduced, log 20.) -/
def Obligations.ForceUnloadAndWriteOff : Prop :=
  (∀ (s : State) (tag : Tag) (p : PrinterId) (id : Nat), s.Hears .supervisor →
      s.printers[p].loaded = some id → s.printers[p].loadCheck = none → s.printers[p].unloadCheck = none →
      s.printers[p].test = none →
      (s.printers[p].link = .up → s.printers[p].printing = none ∧ s.printers[p].staged = none) →
      let runs : List (Nat × Nat × Option JobRef) := match s.printers[p].range with
        | some g => match g.charges with
          | [a, b] => if a = b then [(g.first, 2, a)] else [(g.first, 1, a), (g.first + 1, 1, b)]
          | [a] => [(g.first, 1, a)]
          | _ => []
        | none => []
      (∀ g ∈ s.printers[p].range, g.charges.length = 1 ∨ g.charges.length = 2) →
      s.spoils.length + runs.length ≤ 256 →
      let spoiled : State := runs.foldl
        (fun (u : State) r => u.writeRun ((s.printers[p].range.map (·.pack)).getD 0) r.1 r.2.1 .linkLost (some p) r.2.2) s
      let q := s.printers[p]
      let emptied : Printer := if q.range = none then
          { q with loaded := none, stockHold := false, mismatch := false }
        else { q with loaded := none, stockHold := false, mismatch := false, range := none, query := none,
                      printTimeout := false }
      ∃ t, exec (.forceUnload .supervisor tag (be 1 p.val)) s = .next t
        ∧ State.Settled s (({ spoiled with
            packs := spoiled.packs.map fun k =>
              if k.id = id then { k with location := .compromised, compromisedAt := some p } else k
            printers := spoiled.printers.set p emptied } : State).answered .supervisor
              (acceptedFrame 0x23#8 tag (be 1 p.val))) t
              [{ source := .printer p, kind := .serialDispute }]
        ∧ t.Told (.printer p) .serialDispute)
    ∧ ∀ (s : State) (tag : Tag) (k : Pack), s.Hears .supervisor → s.pack? k.id = some k → k.id ≤ 65535 →
        s.spoils.length < 232 → k.location = .safe ∨ k.location = .compromised → k.loadCheck = none →
        let spoiled : State := if k.next ≤ k.last then
            s.writeRun k.id k.next (k.last + 1 - k.next) .writtenOff none none else s
        ∃ t, exec (.writeOffPack .supervisor tag (be 2 k.id)) s = .next t
          ∧ State.Settled s (({ spoiled with
              packs := spoiled.packs.map fun x =>
                if x.id = k.id then
                  { x with next := x.last + 1, location := .safe, compromisedAt := none,
                           dayMark := if s.dayOpen then x.dayMark else x.last + 1 }
                else x } : State).answered .supervisor
              (acceptedFrame 0x24#8 tag (be 2 k.id ++ be 2 (k.last + 1 - k.next)))) t []

/-- R69: TEST PRINT on a READY printer with no check or test outstanding, the hold off and a body within the
capability's limit, waits for its grant. R32: SET SERVICE writes the membership and the out-of-service flag.
R27: RESET LINE leaves a DOWN link, takes a SETTLING or JABBER link to DOWN, and makes an UP link lose
(`TicketAndLinkLoss`), with LINK_LOST. (In `State.Settled`, the order of what falls together in a step and the
fields of TEST DONE ABANDONED are the model's choice, logs 9 and 17; the fields of an occurrence are deduced,
log 20.) -/
def Obligations.TestServiceAndResetLine : Prop :=
  (∀ (s : State) (tag : Tag) (p : PrinterId) (fields : List (List Byte)) (c : Capability), s.Hears .supervisor →
      1 ≤ fields.length → fields.length ≤ 12 → (∀ f ∈ fields, f.length ≤ 40) →
      fields.length + (fields.map (·.length)).sum ≤ 200 → s.spoils.length < 232 →
      s.printers[p].service = .ready → s.printers[p].loadCheck = none → s.printers[p].unloadCheck = none →
      s.printers[p].test = none → s.printers[p].capability = some c →
      fields.length + (fields.map (·.length)).sum ≤ c.maxBody →
      exec (.testPrint .supervisor tag (be 1 p.val ++ be 1 fields.length ++ fieldBytes fields)) s
        = .next (({ s with printers := s.printers.set p { s.printers[p] with
            test := some { tag := tag, fields := fields, sent := false } } } : State).answered .supervisor
              (acceptedFrame 0x27#8 tag (be 1 p.val))))
    ∧ (∀ (s : State) (tag : Tag) (p : PrinterId) (reserved out : Byte), s.Hears .supervisor →
        (reserved ≠ 0#8 ∨ s.printers[p].pool = true ∨ ∀ i : StockType, s.fallback[i] ≠ some p) →
        s.printers[p].loadCheck = none → s.printers[p].unloadCheck = none → s.printers[p].test = none →
        ∃ t, exec (.setService .supervisor tag (be 1 p.val ++ [reserved, out])) s = .next t
          ∧ State.Settled s (({ s with printers := s.printers.set p { s.printers[p] with
              pool := reserved == 0#8, outOfService := out != 0#8 } } : State).answered .supervisor
                (acceptedFrame 0x28#8 tag (be 1 p.val))) t [])
    ∧ ∀ (s : State) (tag : Tag) (p : PrinterId), s.Hears .supervisor →
        let answered := s.answered .supervisor (acceptedFrame 0x29#8 tag (be 1 p.val))
        ∃ t, exec (.resetLine .supervisor tag (be 1 p.val)) s = .next t
          ∧ (s.printers[p].link = .down → State.Settled s answered t [])
          ∧ (s.printers[p].link = .settling ∨ s.printers[p].link = .jabber →
              State.Settled s { answered with
                printers := s.printers.set p { s.printers[p] with link := .down, quiet := false } } t [])
          ∧ (s.printers[p].link = .up →
              State.Settled s (answered.linkLoss p .down) t
                ((s.printers[p].loadCheck.map fun c =>
                    { source := .printer p, kind := .loadMismatch, pack := some c.pack }).toList
                  ++ [{ source := .printer p, kind := .linkLost }])
              ∧ t.Told (.printer p) .linkLost)

/-! ## Printer lines -/

/-- R25, R35, R40, R61, R71, R85, R118: the tickets in flight, lost at a link loss or a print timeout, make the
uncertain range, the one in PRINTING first, an earlier range being kept where none is in flight. Each releases
its reservation, its job is cleared as burst holder, and it is reported LOST: a job's to its window, a test
print, which then ends, with TEST DONE. Nothing else changes. R14, R17, R25: a link loss loses them; the line
forgets its capability, conditions, timers, query and withdrawal; a load check ends with LOAD DONE LINK_LOST,
its pack still SAFE, an unload check with UNLOAD DONE LINK_LOST, its pack still loaded; the loaded pack, the
stock hold, the membership and the out-of-service flag stay, and nothing else changes. (The cleared conditions
and the range kept are deduced, logs 15 and 35.) -/
def Obligations.TicketAndLinkLoss : Prop :=
  ∀ (s : State) (p : PrinterId) (link : Link),
    let q := s.printers[p]
    let lost := q.printing.toList ++ q.staged.toList
    let test : Option Ticket := lost.find? (·.owner == none)
    let after : Printer := { q with
      printing := none, staged := none, printTimer := false
      range := match lost with
        | [] => q.range
        | f :: _ => some { pack := f.pack, first := f.serial, charges := lost.map (·.owner), disputed := false }
      test := if test = none then q.test else none
      arbiter := { q.arbiter with holder := q.arbiter.holder.filter fun ref => lost.all (·.owner != some ref) } }
    let testDone : List Frame := match q.test, test with
      | some x, some f => [⟨0x88#8, x.tag,
          be 1 p.val ++ be 1 5 ++ be 2 f.pack ++ be 3 f.serial ++ absent 3 ++ be 1 0⟩]
      | _, _ => []
    let loadDone : List Frame := match q.loadCheck with
      | some c => [⟨0x89#8, c.tag, be 2 c.pack ++ be 1 p.val ++ be 1 3 ++ absent 3⟩]
      | none => []
    let unloadDone : List Frame := match q.unloadCheck with
      | some c => [⟨0x8A#8, c.tag, be 1 p.val ++ be 2 (q.loaded.getD 0) ++ be 1 4 ++ be 3 0⟩]
      | none => []
    let told : State := { s with
      shifts := Vector.ofFn fun w : Window => { s.shifts[w] with
        reservations := s.shifts[w].reservations
          - lost.countP fun f => f.reserved && f.owner.any (·.window == w) }
      ports := Vector.ofFn fun w : Window => s.ports[w].push (lost.filterMap fun f => f.owner.bind fun ref =>
        if ref.window = w then some ⟨0x82#8, ref.tag, be 1 5 ++ be 1 p.val ++ be 2 f.pack ++ be 3 f.serial⟩
        else none) }
    s.loseTickets p = { told with
        printers := s.printers.set p after
        svPort := s.svPort.push testDone }
      ∧ s.linkLoss p link = { told with
        packs := s.packs.map fun k =>
          if q.loadCheck.map (·.pack) = some k.id then { k with loadCheck := none } else k
        printers := s.printers.set p { after with
          link := link, quiet := false, capabilityWait := false, capability := none
          conditions := { paused := false, coverOpen := false, headFault := false, jamPresent := false }
          mismatch := false, printTimeout := false, pauseTimer := none, withdrawal := false, query := none
          loadCheck := none, unloadCheck := none }
        svPort := s.svPort.push (testDone ++ loadDone ++ unloadDone) }

/-- R30: the service state is the first line of its table whose condition holds. -/
def Obligations.ServiceState : Prop :=
  ∀ pr : Printer,
    let fault := pr.conditions.coverOpen = true ∨ pr.conditions.headFault = true
      ∨ pr.conditions.jamPresent = true ∨ pr.mismatch = true
    (pr.link ≠ .up → pr.service = .absent)
      ∧ (pr.link = .up → pr.capabilityWait = true → pr.service = .negotiating)
      ∧ (pr.link = .up → pr.capabilityWait = false →
          (pr.printTimeout = true → pr.service = .faulted)
            ∧ (pr.printTimeout = false →
                (pr.query ≠ none → pr.service = .recovering)
                  ∧ (pr.query = none →
                      (pr.stockHold = true → pr.service = .stockHold)
                        ∧ (pr.stockHold = false →
                            (pr.outOfService = true → pr.service = .outOfService)
                              ∧ (pr.outOfService = false →
                                  (pr.loadCheck ≠ none → pr.service = .loading)
                                    ∧ (pr.loadCheck = none →
                                        (fault → pr.service = .faulted)
                                          ∧ (¬fault →
                                              (pr.conditions.paused = true → pr.service = .paused)
                                                ∧ (pr.conditions.paused = false →
                                                    (pr.loaded = none → pr.service = .empty)
                                                      ∧ (pr.loaded ≠ none → pr.service = .ready)))))))))

/-! ## The supervisor's commands on shifts and the day -/

/-- R43, R80, R81: RESOLVE DISPUTE clears the entry's DISPUTED mark and keeps its read serial. ACCEPT changes
no pack; WRITE-OFF writes off the entry's pack, which must be SAFE or COMPROMISED with the hold off, and notes
it. Every printer that holds the pack, has no range and whose pack no standing mark names any more loses its
stock-hold marker. (In `State.Settled`, the order of what falls together in a step and the fields of TEST DONE
ABANDONED are the model's choice, logs 9 and 17; the fields of an occurrence are deduced, log 20.) -/
def Obligations.ResolveDispute : Prop :=
  ∀ (s : State) (tag : Tag) (w : Window) (n : Nat) (e : Entry) (writeOff : Bool), s.Hears .supervisor →
    n < 256 → s.shifts[w].state ≠ .idle → s.shifts[w].entries[n]? = some e → e.disputed = true →
    (writeOff = true → s.spoils.length < 232 ∧ ∃ k, s.pack? e.pack = some k ∧ k.loadCheck = none
        ∧ (k.location = .safe ∨ k.location = .compromised)) →
    let resolved : State := { s with shifts := s.shifts.set w { s.shifts[w] with
      entries := s.shifts[w].entries.set n
        { e with disputed := false, writtenOff := e.writtenOff || writeOff } } }
    let pack : Option Pack := if writeOff then s.pack? e.pack else none
    let settled : State := match pack with
      | some k => resolved.writeOff k
      | none => resolved
    let cleared (p : PrinterId) : Printer :=
      let pr := settled.printers[p]
      if pr.loaded = some e.pack ∧ pr.range = none ∧ settled.packDisputed e.pack = false then
        { pr with stockHold := false }
      else pr
    ∃ t, exec (.resolveDispute .supervisor tag (be 1 w.val ++ be 1 n ++ beBool writeOff)) s = .next t
      ∧ State.Settled s (({ settled with printers := Vector.ofFn cleared } : State).answered .supervisor
          (acceptedFrame 0x2A#8 tag (be 1 w.val ++ be 1 n ++ be 2 (pack.elim 0 (·.unused))))) t []

/-- R133, R141, R143: REOPEN COUNT of a DECLARED shift with fewer than 3 recounts returns it to COUNTING with
the next recount number; SIGN OFF of a DECLARED shift whose stock status is CLEAR makes it SIGNED_OFF at the
clock. Either flags the shift, and SHIFT STATE goes to its window. -/
def Obligations.ReopenCountAndSignOff : Prop :=
  ∀ (s : State) (tag : Tag) (w : Window), s.Hears .supervisor → s.shifts[w].state = .declared →
    let flagged (h : Shift) : State := { s with
      shifts := s.shifts.set w h
      windowFlags := s.windowFlags.set w { s.windowFlags[w] with shift := true } }
    let told (u : State) (f : Frame) : State := (u.answered .supervisor f).send (.window w)
      [{ kind := 0x86#8, tag := 0#8, body := u.queryBody w }]
    (s.shifts[w].recount < 3 →
        exec (.reopenCount .supervisor tag (be 1 w.val)) s = .next (told
          (flagged { s.shifts[w] with state := .counting, recount := s.shifts[w].recount + 1 })
          (acceptedFrame 0x2E#8 tag (be 1 w.val ++ be 1 (s.shifts[w].recount + 1)))))
      ∧ (s.stockStatus w = .clear →
          exec (.signOff .supervisor tag (be 1 w.val)) s = .next (told
            (flagged { s.shifts[w] with state := .signedOff, signedOffAt := some s.clock })
            (acceptedFrame 0x2F#8 tag (be 1 w.val))))

/-- R8, R93, R133, R144 to R146, R158, R162: OPEN DAY opens a CLOSED day and sets every day mark to its pack's
next serial. CLOSE DAY, with every shift IDLE or SIGNED_OFF and no ticket, range or load check anywhere,
closes it: every SIGNED_OFF record is emptied, SHIFT STATE going to its window with the fields of QUERY SHIFT
as they then stand, the spoil list is emptied, the LINE_BREAK of an emptied shift with a DETACHED port and the
hold end, every CLEARED report is removed, and the day marks are set. Nothing else changes, but for what
follows of itself (`State.Settled`). (In `State.Settled`, the order of what falls together in a step and the
fields of TEST DONE ABANDONED are the model's choice, logs 9 and 17; the fields of an occurrence are deduced,
log 20.) -/
def Obligations.OpenAndCloseDay : Prop :=
  (∀ (s : State) (tag : Tag), s.Hears .supervisor → s.dayOpen = false →
      exec (.openDay .supervisor tag []) s = .next (({ s with
        dayOpen := true, packs := s.packs.map fun k => { k with dayMark := k.next } } : State).answered
          .supervisor (acceptedFrame 0x30#8 tag (be 1 s.packs.length))))
    ∧ ∀ (s : State) (tag : Tag), s.Hears .supervisor → s.dayOpen = true →
        (∀ w : Window, s.shifts[w].state = .idle ∨ s.shifts[w].state = .signedOff) →
        (∀ p : PrinterId, s.printers[p].printing = none ∧ s.printers[p].staged = none
          ∧ s.printers[p].range = none ∧ s.printers[p].loadCheck = none) →
        let ends (r : Report) : Bool := match r.source with
          | .window w => r.kind == .lineBreak && s.shifts[w].state == .signedOff && !s.ports[w].attached
          | .office => r.kind == .accountabilityHold && decide (256 - s.spoils.length ≤ 24)
          | .printer _ => false
        let closed : State := { s with
          dayOpen := false, spoils := [], packs := s.packs.map fun k => { k with dayMark := k.next }
          shifts := s.shifts.map fun h => if h.state = .signedOff then .empty else h
          reports := (s.reports.map fun r =>
              if r.state ≠ .cleared ∧ ends r = true then
                { r with
                  active := some false
                  state := if r.state = .acknowledged then .cleared else r.state }
              else r).filter (·.state != .cleared)
          reserved := s.reserved.filter (·.state != .cleared) }
        ∃ t, exec (.closeDay .supervisor tag []) s = .next t
          ∧ State.Settled s (({ closed with
              ports := Vector.ofFn fun w : Window => if s.shifts[w].state = .signedOff then
                  s.ports[w].push [⟨0x86#8, 0#8, closed.queryBody w⟩]
                else s.ports[w] } : State).answered .supervisor (acceptedFrame 0x31#8 tag
                  (be 1 (s.shifts.toList.countP (·.state == .signedOff)) ++ be 2 s.spoils.length))) t []

/-! ## The fault table, the alarm, the settings and the clock -/

/-- R155, R161, R163, R167: ACK FAULT moves an OPEN report to ACKNOWLEDGED while its condition holds and to
CLEARED otherwise, and leaves others; READ CHANGES answers with the flags and clears them all; SILENCE ALARM
silences. ALARM and the lamps follow. R151, R153, R156, R157, R165: an occurrence raised coalesces into the
uncleared report of its source and kind, or makes a new one at the end of the list under the counter's number,
in place of the oldest CLEARED report, or else of the oldest ACKNOWLEDGED one of lower severity, where the 48
places are full; where there is neither it is folded into the reserved TABLE_FULL report. The windows it
concerns get a NOTICE, and a CRITICAL one ends the silencing; a fold does neither. The counter moves past every
number in use. (An optional field that an occurrence does not carry becomes absent: deduced, log 20.) -/
def Obligations.FaultTableCommands : Prop :=
  (∀ (s : State) (tag : Tag) (number : Nat) (r : Report), s.Hears .supervisor → number < 65536 →
      s.allReports.find? (·.number == number) = some r →
      let moved (x : Report) : Report :=
        if x.number = number ∧ x.state = .opened then
          { x with state := if x.active = some true then .acknowledged else .cleared }
        else x
      ∃ t, exec (.ackFault .supervisor tag (be 2 number)) s = .next t
        ∧ State.Shown (({ s with reports := s.reports.map moved, reserved := s.reserved.map moved } :
            State).answered .supervisor
              (acceptedFrame 0x34#8 tag (be 2 number ++ be 1 (moved r).state.code))) t)
    ∧ (∀ (s : State) (tag : Tag), s.Hears .supervisor →
        exec (.readChanges .supervisor tag []) s = .next (({ s with
          windowFlags := Vector.replicate 12 { line := false, shift := false }
          printers := s.printers.map fun pr => { pr with
            flags := { link := false, service := false, stock := false, conditions := false } } } :
            State).answered .supervisor { kind := 0x90#8, tag := tag, body := s.changesBody }))
    ∧ (∀ (s : State) (tag : Tag), s.Hears .supervisor →
        ∃ t, exec (.silenceAlarm .supervisor tag []) s = .next t
          ∧ State.Shown (({ s with silenced := true } : State).answered .supervisor
              (acceptedFrame 0x36#8 tag [])) t)
    ∧ (∀ (s : State) (o : Occurrence),
        let same (r : Report) : Prop := r.source = o.source ∧ r.kind = o.kind ∧ r.state ≠ .cleared
        let active : Option Bool := if o.kind.isCondition then some true else none
        let coalesced (r : Report) : Report := { r with
          state := .opened, repeats := min (r.repeats + 1) 255, lastAt := s.clock, active := active
          serial := o.serial, pack := o.pack, window := o.window, jobTag := o.jobTag, recount := o.recount }
        let made : Report :=
          { number := s.counter, source := o.source, kind := o.kind, state := .opened, firstAt := s.clock,
            lastAt := s.clock, repeats := 1, active := active, serial := o.serial, pack := o.pack,
            window := o.window, jobTag := o.jobTag, recount := o.recount, folded := none }
        let concerns (w : Window) : Bool := match o.source with
          | .printer p => decide (s.routing[p].minimum.rank ≤ o.kind.severity.rank)
              && s.routing[p].windows.getLsbD w.val
          | .window x => x == w && o.kind != .frameError
          | .office => o.kind.severity == .critical
        let noticed (number : Nat) (u : State) : State := { u with
          ports := Vector.ofFn fun w : Window => s.ports[w].push (if concerns w then
              [⟨0x84#8, 0#8, be 2 number ++ be 1 o.source.code ++ be 1 o.kind.code ++ be 1 o.kind.severity.rank⟩]
            else [])
          silenced := s.silenced && o.kind.severity != .critical }
        let joins (rest : List Report) : State :=
          let u : State := { s with reports := rest ++ [made] }
          noticed s.counter { u with counter := u.movedCounter }
        let fullBy : Option Window := match o.source with
          | .window w => some w
          | .printer _ => none
          | .office => none
        (∀ (before after : List Report) (r : Report), s.reports = before ++ r :: after → same r →
            (∀ x ∈ before ++ after, ¬same x) →
            s.raise o = noticed r.number { s with reports := before ++ coalesced r :: after })
          ∧ ((∀ x ∈ s.reports, ¬same x) →
              (s.reports.length < 48 → s.raise o = joins s.reports)
                ∧ (48 ≤ s.reports.length →
                    (∀ (before after : List Report) (r : Report), s.reports = before ++ r :: after →
                        r.state = .cleared → (∀ x ∈ before, x.state ≠ .cleared) →
                        s.raise o = joins (before ++ after))
                      ∧ ((∀ x ∈ s.reports, x.state ≠ .cleared) →
                          let yields (x : Report) : Prop := x.state = .acknowledged
                            ∧ x.kind.severity.rank < o.kind.severity.rank
                          (∀ (before after : List Report) (r : Report), s.reports = before ++ r :: after →
                              yields r → (∀ x ∈ before, ¬yields x) → s.raise o = joins (before ++ after))
                            ∧ ((∀ x ∈ s.reports, ¬yields x) →
                                (∀ r, s.reserved = some r → r.source = .office → r.kind = .tableFull →
                                    r.state = .opened → s.raise o = { s with reserved := some { r with
                                      repeats := min (r.repeats + 1) 255, lastAt := s.clock, active := none,
                                      serial := none, pack := none, window := fullBy, jobTag := none,
                                      recount := none, folded := some (o.source, o.kind) } })
                                  ∧ ((∀ r ∈ s.reserved, r.state ≠ .opened) →
                                      let full : Report :=
                                        { number := s.counter, source := .office, kind := .tableFull,
                                          state := .opened, firstAt := s.clock, lastAt := s.clock, repeats := 1,
                                          active := none, serial := none, pack := none, window := fullBy,
                                          jobTag := none, recount := none, folded := some (o.source, o.kind) }
                                      let u : State := { s with reserved := some full }
                                      s.raise o = { u with counter := u.movedCounter }))))))
    ∧ ∀ s : State, s.reports.length ≤ 48 → 1 ≤ s.counter → s.counter ≤ 65535 →
        let used := (s.reports ++ s.reserved.toList).map (·.number)
        let after (i : Nat) : Nat := (s.counter - 1 + i) % 65535 + 1
        ∃ i, 1 ≤ i ∧ s.movedCounter = after i ∧ after i ∉ used ∧ ∀ m, 1 ≤ m → m < i → after m ∈ used

/-- R97, R99, R136, R164, R178 to R181: SELECT ENTRY moves the cursor to an entry its table has. WRITE ENTRY
writes the entry the cursor names, clamping numbers that have a range, and answers with the entry as stored: a
concession or a split only with the table lock off, a FALLBACK only naming a RESERVED printer or none. R26: a
latch turned off lets a line in JABBER that was quiet go to SETTLING. R189: SET CLOCK sets the clock and
clears its flag. What follows of a write, such as LOW_STOCK beginning or ending with the threshold (R10), is
`State.Settled`. (A split is answered with FFh bytes in its unused places: deduced, log 18.) (In
`State.Settled`, the order of what falls together in a step and the fields of TEST DONE ABANDONED are the
model's choice, logs 9 and 17; the fields of an occurrence are deduced, log 20.) -/
def Obligations.SettingsCommands : Prop :=
  ∀ (s : State) (tag : Tag), s.Hears .supervisor →
    let writes (body : List Byte) (u : State) : Prop :=
      ∃ t, exec (.writeEntry .supervisor tag body) s = .next t
        ∧ State.Settled s (u.answered .supervisor
            (acceptedFrame 0x39#8 tag (be 1 u.cursor.table ++ be 1 u.cursor.index ++ u.entryBody u.cursor))) t []
    (∀ cursor : Cursor, exec (.selectEntry .supervisor tag (be 1 cursor.table ++ be 1 cursor.index)) s
        = .next (({ s with cursor := cursor } : State).answered .supervisor
            (acceptedFrame 0x37#8 tag (be 1 cursor.table ++ be 1 cursor.index))))
      ∧ (∀ (i : EntryIndex) (valid : Byte) (discount minimum step : Nat), s.cursor = .concession i →
          s.tableLock = false → discount < 65536 → minimum < 2 ^ 24 → step < 256 →
          (valid = 0#8 ∨ step = 1 ∨ step = 5 ∨ step = 10 ∨ step = 50) →
          writes (valid :: be 2 discount ++ be 3 minimum ++ be 1 step) { s with
            concessions := s.concessions.set i (if valid = 0#8 then
                { valid := false, discount := 0, minimum := 0, step := 1 }
              else { valid := true, discount := discount, minimum := min minimum 1999999, step := step }) })
      ∧ (∀ (i : EntryIndex) (split : Split) (rest : List Byte), s.cursor = .split i → s.tableLock = false →
          split.length ≤ 4 → split.Pairwise (fun a b => a.share ≤ b.share) →
          (∀ part ∈ split, part.share ≤ 65536) → (∀ part ∈ split.getLast?, part.share = 65536) →
          rest.length + 4 * split.length = 16 →
          writes (be 1 split.length ++ (split.map fun part => be 1 part.head.val ++ be 3 part.share).flatten ++ rest)
            { s with splits := s.splits.set i split })
      ∧ (∀ (p : PrinterId) (windows : Nat) (minimum : Severity), s.cursor = .routing p → windows < 65536 →
          writes (be 2 windows ++ be 1 minimum.rank) { s with
            routing := s.routing.set p { windows := BitVec.ofNat 12 windows, minimum := minimum } })
      ∧ (∀ (t : StockType) (p : PrinterId), s.cursor = .fallback t → s.printers[p].pool = false →
          writes (be 1 p.val) { s with fallback := s.fallback.set t (some p) })
      ∧ (∀ t : StockType, s.cursor = .fallback t → writes [0xFF#8] { s with fallback := s.fallback.set t none })
      ∧ (∀ (t : Tender) (amount : Nat), s.cursor = .tolerance t → amount < 2 ^ 32 →
          writes (be 4 amount) { s with tolerance := s.tolerance.set t (min amount 100000) })
      ∧ (∀ (burst pause routeWait jobWait lowStock : Nat) (latches : BitVec 8) (enable : Byte),
          s.cursor = .limits → burst < 256 → pause < 256 → routeWait < 65536 → jobWait < 65536 →
          lowStock < 65536 →
          let limits : Limits :=
            { burst := max 1 (min 16 burst), pause := max 5 (min 120 pause),
              routeWait := max 5 (min 300 routeWait), jobWait := max 10 (min 600 jobWait),
              lowStock := min 500 lowStock, latches := latches, alarmEnable := enable != 0#8 }
          writes (be 1 burst ++ be 1 pause ++ be 2 routeWait ++ be 2 jobWait ++ be 2 lowStock
              ++ be 1 latches.toNat ++ [enable]) { s with
            limits := limits
            printers := Vector.ofFn fun p : PrinterId =>
              let pr := s.printers[p]
              if pr.link = .jabber ∧ pr.quiet = true ∧ latches.getLsbD p.val = false then
                { pr with link := .settling, quiet := false }
              else pr })
      ∧ ∀ time day : Nat, time < 86400 → day < 65536 →
          exec (.setClock .supervisor tag (be 3 time ++ be 2 day)) s = .next (({ s with
            clock := { time := time, day := day }, clockUnset := false } : State).answered .supervisor
              (acceptedFrame 0x3A#8 tag (be 3 time ++ be 2 day)))

/-! ## Starts, stops and the clock -/

/-- R185, R186: a cold start, at power-up without a good back-up or at the release of RESET when one is due,
leaves the state after reset with the straps' line speed (log 5). R23, R44, R72, R128, R148, R169, R184, R187: a warm
start keeps the retained items; ports, jobs and the cursor start afresh; packs lose their load checks; every
printer line starts afresh but for its pack, membership, out-of-service flag, stock hold and uncertain range,
which takes up the tickets in flight; a DRAINING shift becomes COUNTING and flags it, reservations are none;
silencing and the contact clear, and with it EXTERNAL_ALARM (deduced, log 16). With RESET asserted the start waits for its release. -/
def Obligations.ColdAndWarmStarts : Prop :=
  (∀ (s : State) (straps : Straps),
      let cold : State := { State.reset with speed := straps, pending := s.pending }
      (s.phase = .off → s.resetPin = false → exec (.powerUp false straps) s = .next cold)
        ∧ (s.phase = .held .cold → exec (.resetReleased straps) s = .next cold)
        ∧ (s.phase = .off → s.resetPin = true → ∀ good : Bool, exec (.powerUp good straps) s
            = .next { s with phase := .held (if good then .warm else .cold) }))
    ∧ ∀ (s : State) (straps : Straps) (c : Instr),
        (s.phase = .off ∧ s.resetPin = false ∧ c = .powerUp true straps)
          ∨ (s.phase = .held .warm ∧ c = .resetReleased straps) →
        ∃ t, exec c s = .next t
          ∧ t.phase = .running ∧ t.resetPin = false ∧ t.lastStart = .warm ∧ t.speed = straps
          ∧ t.clock = s.clock ∧ t.clockUnset = s.clockUnset
          ∧ t.ports = Vector.replicate 12 { attached := false, rx := .hunting, tx := [] }
          ∧ t.svPort = { attached := false, rx := .hunting, tx := [] } ∧ t.cursor = .concession 0
          ∧ t.packs = s.packs.map (fun k => { k with loadCheck := none })
          ∧ (∀ p : PrinterId, t.printers[p] = { Printer.start with
              loaded := s.printers[p].loaded, pool := s.printers[p].pool
              outOfService := s.printers[p].outOfService, stockHold := s.printers[p].stockHold
              range := match s.printers[p].printing.toList ++ s.printers[p].staged.toList with
                | [] => s.printers[p].range
                | f :: rest => some ⟨f.pack, f.serial, f.owner :: rest.map (·.owner), false⟩ })
          ∧ t.jobs = [] ∧ t.spoils = s.spoils ∧ t.concessions = s.concessions ∧ t.splits = s.splits
          ∧ (∀ w : Window, t.shifts[w] = { s.shifts[w] with
              reservations := 0
              state := if s.shifts[w].state = .draining then .counting else s.shifts[w].state })
          ∧ t.dayOpen = s.dayOpen ∧ t.reserved = s.reserved ∧ t.counter = s.counter
          ∧ t.reports = s.reports.map (fun r =>
              if r.state ≠ .cleared ∧ (r.kind = .externalAlarm ∧ r.source = .office
                  ∨ (r.kind = .jabber ∨ r.kind = .coverOpen ∨ r.kind = .headFault ∨ r.kind = .jam)
                    ∧ ∃ p, r.source = .printer p) then
                { r with
                  active := some false
                  state := if r.state = .acknowledged then .cleared else r.state }
              else r)
          ∧ (∀ w : Window, t.windowFlags[w].line = false
              ∧ (t.windowFlags[w].shift = true ↔ s.shifts[w].state = .draining))
          ∧ t.routing = s.routing ∧ t.alarmIn = false ∧ t.silenced = false ∧ t.alarm = t.alarmLaw
          ∧ t.fallback = s.fallback ∧ t.tolerance = s.tolerance ∧ t.limits = s.limits
          ∧ t.pending = s.pending

/-- R185: when RESET is asserted on a running part, or power fails, the part stops: timers stop, ALARM is
released and the lamps are dark, and all else stays until the start; RESET asserted on a part that does not
run, or released on one that is not held, only moves the pin; a power-up of a powered part changes nothing
(the model's choices, logs 2 and 31).
R188: the 1 Hz pulse moves the clock whether or not the part runs, from 86,399 of day 65,535 to 0 of day 0. -/
def Obligations.StopsAndClock : Prop :=
  (∀ (s : State) (c : Instr) (phase : Phase) (pin : Bool),
      (c = .resetAsserted ∧ s.phase = .running ∧ phase = .held .warm ∧ pin = true)
        ∨ (c = .powerFail ∧ s.phase ≠ .off ∧ phase = .off ∧ pin = s.resetPin) →
      exec c s = .next { s with
        phase := phase, resetPin := pin, alarm := false
        printers := s.printers.map fun pr => { pr with
          capabilityWait := false, printTimer := false, pauseTimer := none
          lamp := { aspect := .off, lit := false, pulse := false } }
        jobs := s.jobs.map fun j => { j with jobWait := none, routeWait := none } })
    ∧ (∀ s : State, s.phase ≠ .running → exec .resetAsserted s = .next { s with resetPin := true })
    ∧ (∀ (s : State) (straps : Straps), s.phase = .running ∨ s.phase = .off →
        exec (.resetReleased straps) s = .next { s with resetPin := false })
    ∧ (∀ s : State, s.phase = .off → exec .powerFail s = .next s)
    ∧ (∀ (s : State) (good : Bool) (straps : Straps), s.phase ≠ .off → exec (.powerUp good straps) s = .next s)
    ∧ ∀ s : State, s.clock.time < 86400 → s.clock.day < 65536 →
        exec .clockPulse s = .next { s with clock :=
          { time := (s.clock.time + 1) % 86400
            day := if s.clock.time = 86399 then (s.clock.day + 1) % 65536 else s.clock.day } }

/-! ## The printers' frames -/

/-- R31, R34, R37: STATUS replaces the four condition flags; where PAUSED ends, a staged ticket waiting behind
an empty PRINTING slot with no withdrawal is promoted; then, where COVER_OPEN, HEAD_FAULT or JAM_PRESENT has
come, the withdrawal of the staged ticket is asked for, unless one is outstanding (the order of the two is the
model's choice, log 11; that STATUS is taken under every tag is the model's choice, log 13). A flag that has
come is reported, and one that has gone ends its condition (`State.Settled`, R154). (In `State.Settled`, the
order of what falls together in a step and the fields of TEST DONE ABANDONED are the model's choice, logs 9
and 17; the fields of an occurrence are deduced, log 20.) -/
def Obligations.PrinterStatus : Prop :=
  ∀ (s : State) (p : PrinterId) (tag : Tag) (flags : Byte), s.HearsPrinter p →
    let q := s.printers[p]
    let new : Conditions :=
      { paused := flags.getLsbD 0, coverOpen := flags.getLsbD 1, headFault := flags.getLsbD 2,
        jamPresent := flags.getLsbD 3 }
    let promotes := q.conditions.paused = true ∧ new.paused = false ∧ q.printing = none ∧ q.withdrawal = false
      ∧ q.staged ≠ none
    let worse := (q.conditions.coverOpen = false ∧ new.coverOpen = true)
      ∨ (q.conditions.headFault = false ∧ new.headFault = true)
      ∨ (q.conditions.jamPresent = false ∧ new.jamPresent = true)
    ∃ t, exec (.status p tag [flags]) s = .next t
      ∧ (promotes → State.Settled s { s with printers := s.printers.set p { q with
          conditions := new, printing := q.staged, staged := none, printTimer := true } } t [])
      ∧ (¬promotes → ¬(worse ∧ q.staged ≠ none ∧ q.withdrawal = false) →
          State.Settled s { s with printers := s.printers.set p { q with conditions := new } } t [])
      ∧ (∀ f : Ticket, ¬promotes → worse → q.staged = some f → q.withdrawal = false →
          State.Settled s { s with printers := s.printers.set p { q with
            conditions := new, withdrawal := true
            sent := q.sent ++ [⟨0x41#8, 2#8, be 3 f.serial⟩] } } t [])
      ∧ (q.conditions.coverOpen = false → new.coverOpen = true → t.Told (.printer p) .coverOpen)
      ∧ (q.conditions.headFault = false → new.headFault = true → t.Told (.printer p) .headFault)
      ∧ (q.conditions.jamPresent = false → new.jamPresent = true → t.Told (.printer p) .jam)

/-- R28, R29, R37, R41: a capability, declared in CAPABILITY or taken as BASIC at the end of the capability
wait, is compared with the loaded pack: a missing type sets the mismatch, asks for the staged ticket's
withdrawal and raises PROTOCOL, and otherwise the mismatch clears. Where the wait ends with it and the printer
has a range that is not disputed, recovery begins. The end of the wait raises CAPABILITY_BASIC. (That
CAPABILITY is taken under every tag is the model's choice, log 13.) (In `State.Settled`, the order of what
falls together in a step and the fields of TEST DONE ABANDONED are the model's choice, logs 9 and 17; the
fields of an occurrence are deduced, log 20.) -/
def Obligations.PrinterCapability : Prop :=
  ∀ (s : State) (p : PrinterId) (c : Instr) (got : Capability), s.HearsPrinter p →
    ((∃ (tag : Tag) (types limit staging : Byte) (model : Nat), model < 65536
          ∧ c = .capability p tag ([types, limit, staging] ++ be 2 model)
          ∧ got = ⟨types.setWidth 4, max 64 (min 200 limit.toNat), staging != 0#8, model, false⟩)
      ∨ c = .capabilityWait p ∧ s.printers[p].capabilityWait = true
        ∧ got = ⟨1#4, 120, false, 0, true⟩) →
    let q := s.printers[p]
    let missing : Bool := (s.loadedPack p).any fun k => !got.types.getLsbD k.stock.val
    let recovers := q.capabilityWait = true ∧ ∃ g, q.range = some g ∧ g.disputed = false
    ∃ (t : State) (r : Printer), exec c s = .next t
      ∧ State.Settled s { s with printers := s.printers.set p r } t
        ((if c = .capabilityWait p then [{ source := .printer p, kind := .capabilityBasic }] else [])
          ++ if missing then [{ source := .printer p, kind := .protocol, pack := q.loaded }] else [])
      ∧ r.capability = some got ∧ r.capabilityWait = false ∧ r.mismatch = missing
      ∧ (r.withdrawal = true ↔ q.withdrawal = true ∨ (missing = true ∧ q.staged ≠ none))
      ∧ (recovers → r.query = some .first) ∧ (¬recovers → r.query = q.query)
      ∧ r.sent = q.sent
          ++ (match q.staged with
            | some f => if r.mismatch = true ∧ q.withdrawal = false then
                [⟨0x41#8, 2#8, be 3 f.serial⟩] else []
            | none => [])
          ++ (if r.query = q.query ∧ ¬recovers then [] else [⟨0x42#8, 0#8, []⟩])
      ∧ { r with
          capability := q.capability, capabilityWait := q.capabilityWait, mismatch := q.mismatch
          withdrawal := q.withdrawal, query := q.query, sent := q.sent } = q
      ∧ (missing = true → t.Told (.printer p) .protocol)
      ∧ (c = .capabilityWait p → t.Told (.printer p) .capabilityBasic)

/-- R34, R59, R73 to R76, R87, R113, R116, R118, R119, R168: PRINTED for a job's ticket. Its blank is issued
and it leaves PRINTING, the staged ticket being promoted unless the printer is paused or a withdrawal is
outstanding; a lamp that is ON pulses. With the serial as sent, the entry that the ticket extends grows by
one, or a new main entry is made; with another serial or none, a DISPUTED entry with the serial read. The unit
charge is posted, the ticket counted, the job's printed count and amount charged rise, and TICKET REPORT
carries the amount. Its reservation is released, unless a disputed ticket passes it to its job's follower. A
difference sets the stock hold and raises SERIAL_DISPUTE (an occurrence even where it held: deduced, log 12).
Nothing else changes, but for what follows of itself (`State.Settled`). (In `State.Settled`, the order of what
falls together in a step and the fields of TEST DONE ABANDONED are the model's choice, logs 9 and 17; the
fields of an occurrence are deduced, log 20.) -/
def Obligations.PrintedForJob : Prop :=
  ∀ (s : State) (p : PrinterId) (f : Ticket) (j : Job) (n : Nat), s.HearsPrinter p →
    s.printers[p].printing = some f → f.owner = some j.ref → s.job? j.ref = some j → n < 2 ^ 24 →
    let q := s.printers[p]
    let w := j.ref.window
    let h := s.shifts[w]
    let read : Option Nat := if n = 0xFFFFFF then none else some n
    let same : Bool := decide (read = some f.serial)
    let follower := q.staged.any fun g => g.owner == f.owner && !g.reserved
    let passes := !same && f.reserved && follower
    let behind := q.staged.map fun g => { g with reserved := g.reserved || passes }
    let promotes := !q.conditions.paused && !q.withdrawal && q.staged.isSome
    let extended : Option Nat := j.lastEntry.filter fun m => same && (h.entries[m]?).any fun e =>
      e.allowance == .main && e.pack == f.pack && e.first + e.count == f.serial
    let entries : List Entry := match extended with
      | some m => h.entries.modify m fun e => { e with count := e.count + 1 }
      | none => h.entries ++ [
          { allowance := if same then .main else .disputed, tag := j.ref.tag, pack := f.pack
            first := f.serial, count := 1, unit := j.unit, tender := j.tender
            concession := j.concession, split := j.split, disputed := !same
            readSerial := if same then none else read, writtenOff := false }]
    let posted : Shift := ({ h with
      reservations := h.reservations - (if f.reserved && !passes then 1 else 0)
      entries := entries } : Shift).post j.tender j.unit s.splits[j.split]
    let amount := posted.tenders.get j.tender - h.tenders.get j.tender
    let u : State := ({ s with
      packs := s.packs.map fun k => if k.id = f.pack then { k with issued := k.issued + 1 } else k
      printers := s.printers.set p { q with
        printing := if promotes then behind else none
        staged := if promotes then none else behind
        printTimer := promotes, stockHold := q.stockHold || !same
        lamp := if q.lamp.aspect = .on then { q.lamp with lit := false, pulse := true } else q.lamp }
      shifts := s.shifts.set w { posted with tickets := min (h.tickets + 1) 65535 }
      jobs := s.jobs.map fun i => if i.ref = j.ref then
          { i with
            printed := i.printed + 1, charged := i.charged + amount
            lastEntry := some (extended.getD h.entries.length) }
        else i } : State).send (.window w) [⟨0x82#8, j.ref.tag,
          be 1 (if same then 0 else 1) ++ be 1 p.val ++ be 2 f.pack ++ be 3 f.serial
            ++ (if same then [] else beOpt 3 read) ++ beInt 4 amount ++ be 1 (j.printed + 1)⟩]
    ∃ t, exec (.printed p 1#8 (be 3 n)) s = .next t
      ∧ State.Settled s u t (if same then [] else [{
          source := .printer p, kind := .serialDispute,
          pack := some f.pack, serial := some f.serial, window := some w, jobTag := some j.ref.tag }])
      ∧ (h.limited = false → posted.limited = true → t.Told (.window w) .shiftLimited)
      ∧ (same = false → t.Told (.printer p) .serialDispute)

/-- R71, R75, R79: PRINTED for a test print writes its blank as a spoil run of one, cause TEST, with no
charge; TEST DONE answers the test, DISPUTED with the serial read where it differs, and the difference sets
the stock hold, so that SERIAL_DISPUTE holds (an occurrence where it comes to hold: deduced, log 12). A staged
ticket is promoted as after any PRINTED. (In `State.Settled`, the order of what falls together in a step and
the fields of TEST DONE ABANDONED are the model's choice, logs 9 and 17; the fields of an occurrence are
deduced, log 20.) -/
def Obligations.PrintedForTest : Prop :=
  ∀ (s : State) (p : PrinterId) (f : Ticket) (x : TestPrint) (n : Nat), s.HearsPrinter p →
    s.printers[p].printing = some f → f.owner = none → s.printers[p].test = some x → n < 2 ^ 24 →
    let q := s.printers[p]
    let read : Option Nat := if n = 0xFFFFFF then none else some n
    let same := read = some f.serial
    let promotes := q.conditions.paused = false ∧ q.withdrawal = false ∧ q.staged ≠ none
    ∃ t, exec (.printed p 1#8 (be 3 n)) s = .next t
      ∧ State.Settled s (({ s.writeRun f.pack f.serial 1 .test (some p) none with
          printers := s.printers.set p { q with
            printing := if promotes then q.staged else none
            staged := if promotes then none else q.staged
            printTimer := decide promotes, test := none, lamp := q.lamp.pulsed
            stockHold := q.stockHold || !decide same } } : State).send .supervisor
              [⟨0x88#8, x.tag,
                be 1 p.val ++ be 1 (if same then 0 else 1) ++ be 2 f.pack ++ be 3 f.serial ++ (if same then absent 3 else beOpt 3 read) ++ [0#8]⟩]) t []
      ∧ (¬same → s.serialDispute p = false → t.Told (.printer p) .serialDispute)

/-- R61, R71, R82 to R84, R87: JAMMED with a count, 0 taken as 1 and above 4 as 4, never past the pack's last
serial, spoils that many blanks from the printing ticket's serial in one run, charged to its job, cause JAM,
or TEST for a test print. Both slots empty. A job's jam-spoiled count rises and its printer's arbiter clears
it as holder (a test print ends instead, with TEST DONE); a staged ticket is reported DISCARDED, its blank
being returned unless the run took it. Both reservations are released. JAM_PRESENT is set and JAM raised (at
every JAMMED: deduced, log 24), and PROTOCOL for a count of 0 or one that passes the last serial. Nothing else
changes, but for what follows of itself (`State.Settled`). (In `State.Settled`, the order of what falls
together in a step and the fields of TEST DONE ABANDONED are the model's choice, logs 9 and 17; the fields of
an occurrence are deduced, log 20.) -/
def Obligations.Jammed : Prop :=
  ∀ (s : State) (p : PrinterId) (f : Ticket) (k : Pack) (n : Byte), s.HearsPrinter p →
    s.printers[p].printing = some f → s.pack? f.pack = some k → f.serial ≤ k.last →
    (∀ g ∈ s.printers[p].staged, g.pack = f.pack ∧ g.serial = f.serial + 1) →
    let q := s.printers[p]
    let asked := max 1 (min 4 n.toNat)
    let count := min asked (k.last + 1 - f.serial)
    let lost := f :: q.staged.toList
    let tell (u : State) (g : Ticket) (test : Option TestPrint) (outcome spoiled : Nat) (more : List Byte) : State :=
      match g.owner with
      | some ref => u.send (.window ref.window) [⟨0x82#8, ref.tag,
          be 1 outcome ++ be 1 p.val ++ be 2 g.pack ++ be 3 g.serial ++ more⟩]
      | none => match test with
        | some x => u.send .supervisor [⟨0x88#8, x.tag,
            be 1 p.val ++ be 1 outcome ++ be 2 g.pack ++ be 3 g.serial ++ absent 3 ++ be 1 spoiled⟩]
        | none => u
    let jammed : State := { s with
      spoils := s.spoils ++ [⟨f.pack, f.serial, count, if f.owner = none then .test else .jam, some p, f.owner,
        s.clock⟩]
      packs := s.packs.map fun x => if x.id = f.pack then
          { x with
            spoiled := x.spoiled + count
            next := if q.staged.isSome ∧ count = 1 then f.serial + 1 else max x.next (f.serial + count) }
        else x
      printers := s.printers.set p { q with
        printing := none, staged := none, printTimer := false
        conditions := { q.conditions with jamPresent := true }
        arbiter := { q.arbiter with holder := q.arbiter.holder.filter fun ref => lost.all (·.owner != some ref) }
        test := if lost.all (·.owner != none) then q.test else none }
      shifts := Vector.ofFn fun w : Window => { s.shifts[w] with
        reservations := s.shifts[w].reservations
          - lost.countP fun x => x.reserved && x.owner.any (·.window == w)
        spoils := if f.owner.any (·.window == w) then min (s.shifts[w].spoils + count) 65535
          else s.shifts[w].spoils }
      jobs := s.jobs.map fun j => if f.owner = some j.ref then
          { j with jamSpoiled := min (j.jamSpoiled + count) 65535 } else j }
    let first := tell jammed f q.test 2 count (be 1 count)
    let u := match q.staged with
      | some g => tell first g (if f.owner = none then none else q.test) 3 0 (beBool (decide (2 ≤ count)))
      | none => first
    ∃ t, exec (.jammed p 1#8 [n]) s = .next t
      ∧ State.Settled s u t
        ((if n = 0#8 then [{ source := .printer p, kind := .protocol }]
          else if count < asked then
            [{ source := .printer p, kind := .protocol, pack := some f.pack, serial := some f.serial }]
          else [])
        ++ [{ source := .printer p, kind := .jam, pack := some f.pack, serial := some f.serial,
              window := f.owner.map (·.window), jobTag := f.owner.map (·.tag) }])
      ∧ t.Told (.printer p) .jam
      ∧ (n = 0#8 ∨ count < asked → t.Told (.printer p) .protocol)

/-- R38: WITHDRAWN for the staged serial empties STAGED, returns the blank, releases the reservation, clears
the job as holder and reports WITHDRAWN. TOO_LATE for it with PRINTING empty, or the withdrawal timer, ends
the withdrawal, and the staged ticket is promoted where PRINTING is empty. With nothing staged any answer just
ends the withdrawal (the model's choice, log 28). R36: the pause timer asks for the withdrawal and raises
PAUSE_TIMEOUT. A withdrawal timer or pause timer that does not run changes nothing (the model's choice, log
2). (In `State.Settled`, the order of what falls together in a step and the fields of TEST DONE ABANDONED are
the model's choice, logs 9 and 17; the fields of an occurrence are deduced, log 20.) -/
def Obligations.Withdrawals : Prop :=
  ∀ (s : State) (p : PrinterId), s.phase = .running →
    let q := s.printers[p]
    let becomes (u : State) (c : Instr) : Prop := ∃ t, exec c s = .next t ∧ State.Settled s u t []
    (∀ f : Ticket, q.staged = some f → f.serial < 2 ^ 24 →
        let ended : Printer := if q.printing = none then
            { q with withdrawal := false, printing := some f, staged := none, printTimer := true }
          else { q with withdrawal := false }
        let packs := s.packs.map fun k => if k.id = f.pack then { k with next := f.serial } else k
        (s.HearsPrinter p → q.withdrawal = true →
            (∀ ref : JobRef, f.owner = some ref → becomes (({ s with
                packs := packs
                shifts := s.shifts.set ref.window { s.shifts[ref.window] with
                  reservations := s.shifts[ref.window].reservations - (if f.reserved then 1 else 0) }
                printers := s.printers.set p { q with
                  staged := none, withdrawal := false
                  arbiter := if q.arbiter.holder = some ref then { q.arbiter with holder := none }
                    else q.arbiter } } : State).send (.window ref.window)
                      [⟨0x82#8, ref.tag, be 1 4 ++ be 1 p.val ++ be 2 f.pack ++ be 3 f.serial⟩])
                (.withdrawn p 2#8 (be 3 f.serial)))
              ∧ (∀ x : TestPrint, f.owner = none → q.test = some x → becomes (({ s with
                packs := packs
                printers := s.printers.set p { q with staged := none, withdrawal := false, test := none } } :
                  State).send .supervisor [⟨0x88#8, x.tag, be 1 p.val ++ be 1 4 ++ be 2 f.pack ++ be 3 f.serial
                    ++ absent 3 ++ be 1 0⟩]) (.withdrawn p 2#8 (be 3 f.serial)))
              ∧ (q.printing = none →
                becomes { s with printers := s.printers.set p ended } (.tooLate p 2#8 (be 3 f.serial))))
          ∧ (q.withdrawal = true →
              becomes { s with printers := s.printers.set p ended } (.withdrawalTimer p))
          ∧ (q.pauseTimer ≠ none → q.withdrawal = false → ∃ t, exec (.pauseTimer p) s = .next t
              ∧ State.Settled s { s with printers := s.printers.set p { q with
                  pauseTimer := none, withdrawal := true
                  sent := q.sent ++ [⟨0x41#8, 2#8, be 3 f.serial⟩] } } t
                  [{ source := .printer p, kind := .pauseTimeout, serial := some f.serial,
                     window := f.owner.map (·.window) }]
              ∧ t.Told (.printer p) .pauseTimeout))
      ∧ (q.staged = none → q.withdrawal = true →
          let finished : State := { s with printers := s.printers.set p { q with withdrawal := false } }
          becomes finished (.withdrawalTimer p)
            ∧ (s.HearsPrinter p → ∀ n : Nat, becomes finished (.withdrawn p 2#8 (be 3 n))
                ∧ becomes finished (.tooLate p 2#8 (be 3 n))))
      ∧ (q.withdrawal = false → exec (.withdrawalTimer p) s = .next s)
      ∧ (q.staged = none ∨ q.pauseTimer = none → exec (.pauseTimer p) s = .next s)

/-- R3, R7, R14, R16, R42: TOP. During a load check, the pack's next serial loads it (R29: a type missing from
the capability is a mismatch, with PROTOCOL), and any other answer ends the check with LOAD_MISMATCH. During
an unload check, the next serial leaves the pack SAFE, a later one up to last + 1 leaves it SAFE with the
blanks between spoiled as MISSING and MISSING_BLANKS raised, and any other leaves it COMPROMISED with
SERIAL_DISPUTE. During a recovery, an answer in the range spoils the serials below it as LINK_LOST, returns
the rest and ends the range, the query and a print-timeout fault, raising RECOVERY_SPOIL where any was
spoiled; any other makes the range disputed, sets the stock hold and raises SERIAL_DISPUTE. No blank sensed is
taken as last + 1. (The pack's next serial is at most last + 1, R2. Deduced: which operation a TOP answers
first, log 34; no blank in the replies, log 21; the next serial, log 35; SERIAL_DISPUTE as an occurrence even
where it held, log 12. The model's choice: TOP under every tag, log 13.) (In `State.Settled`, the order of
what falls together in a step and the fields of TEST DONE ABANDONED are the model's choice, logs 9 and 17; the
fields of an occurrence are deduced, log 20.) -/
def Obligations.TopAnswers : Prop :=
  ∀ (s : State) (p : PrinterId) (tag : Tag) (n : Nat) (k : Pack), s.HearsPrinter p → n < 2 ^ 24 →
    s.pack? k.id = some k → k.next ≤ k.last + 1 →
    let q := s.printers[p]
    let top := if n = 0xFFFFFF then k.last + 1 else n
    let ends (u : State) (raised : List Occurrence) : Prop := ∃ t, exec (.top p tag (be 3 n)) s = .next t
      ∧ State.Settled s u t raised ∧ ∀ x ∈ raised, t.Told x.source x.kind
    let report (kind : Kind) (pack serial : Option Nat) : Occurrence :=
      { source := .printer p, kind := kind, pack := pack, serial := serial }
    let packs (u : State) (g : Pack → Pack) : List Pack := u.packs.map fun x => if x.id = k.id then g x else x
    let unloaded (u : State) (location : Location) (at_ : Option PrinterId) (outcome count : Nat)
        (x : UnloadCheck) : State := ({ u with
      packs := packs u fun y => { y with location := location, compromisedAt := at_ }
      printers := s.printers.set p { q with
        unloadCheck := none, loaded := none, stockHold := false, mismatch := false } } : State).send .supervisor
          [⟨0x8A#8, x.tag, be 1 p.val ++ be 2 k.id ++ be 1 outcome ++ be 3 count⟩]
    (∀ x : LoadCheck, q.loadCheck = some x → x.pack = k.id →
        (top = k.next → (∀ c ∈ q.capability, c.types.getLsbD k.stock.val = true) →
          ends (({ s with
            packs := packs s fun y => { y with location := .loaded p, loadCheck := none }
            printers := s.printers.set p { q with
              loaded := some k.id, loadCheck := none, mismatch := false } } : State).send .supervisor
                [⟨0x89#8, x.tag, be 2 k.id ++ be 1 p.val ++ be 1 0 ++ absent 3⟩]) [])
          ∧ (top = k.next → q.staged = none → ∀ c ∈ q.capability, c.types.getLsbD k.stock.val = false →
            ends (({ s with
              packs := packs s fun y => { y with location := .loaded p, loadCheck := none }
              printers := s.printers.set p { q with
                loaded := some k.id, loadCheck := none, mismatch := true } } : State).send .supervisor
                  [⟨0x89#8, x.tag, be 2 k.id ++ be 1 p.val ++ be 1 0 ++ absent 3⟩])
              [report .protocol (some k.id) none])
          ∧ (top ≠ k.next →
            ends (({ s with
              packs := packs s fun y => { y with loadCheck := none }
              printers := s.printers.set p { q with loadCheck := none } } : State).send .supervisor
                [⟨0x89#8, x.tag, be 2 k.id ++ be 1 p.val ++ be 1 1 ++ be 3 top⟩])
              [report .loadMismatch (some k.id) (some top)]))
      ∧ (∀ x : UnloadCheck, q.loadCheck = none → q.unloadCheck = some x → q.loaded = some k.id →
          (top = k.next → ends (unloaded s .safe none 0 0 x) [])
            ∧ (k.next < top → top ≤ k.last + 1 →
                ends (unloaded (s.writeRun k.id k.next (top - k.next) .missing (some p) none) .safe none 1
                  (top - k.next) x) [report .missingBlanks (some k.id) (some k.next)])
            ∧ (top < k.next ∨ k.last + 1 < top →
                ends (unloaded s .compromised (some p) 2 top x) [report .serialDispute none none]))
      ∧ ∀ g : Range, q.loadCheck = none → q.unloadCheck = none → q.query ≠ none → q.range = some g →
          g.pack = k.id → g.charges.length = 1 ∨ g.charges.length = 2 →
          let spoils := fun u : State => if top = g.first + 2 ∧ g.charges[0]? ≠ g.charges[1]? then
              (u.writeRun k.id g.first 1 .linkLost (some p) (g.charges[0]?).join).writeRun k.id (g.first + 1) 1
                .linkLost (some p) (g.charges[1]?).join
            else if g.first < top then
              u.writeRun k.id g.first (top - g.first) .linkLost (some p) (g.charges[0]?).join
            else u
          (g.first ≤ top → top ≤ g.first + g.charges.length →
              ends { spoils s with
                packs := packs (spoils s) fun y => { y with next := top }
                printers := s.printers.set p { q with range := none, query := none, printTimeout := false } }
                (if g.first < top then [report .recoverySpoil (some k.id) (some g.first)] else []))
            ∧ (top < g.first ∨ g.first + g.charges.length < top →
                ends { s with printers := s.printers.set p { q with
                  range := some { g with disputed := true }, stockHold := true, query := none } }
                  [report .serialDispute none none])

/-- R39, R182: an unexpected frame on a printer line is ignored and raises PROTOCOL: a framing fault, a gap
within a frame, a kind no printer sends, a body not of its layout's length, PRINTED or JAMMED with nothing in
PRINTING or another tag, WITHDRAWN or TOO_LATE with no withdrawal, another tag or serial, TOO_LATE with
PRINTING occupied, and TOP with no operation to answer. (Which tags are checked is the model's choice, log 13.
That an unexpected PRINTED gives no activity pulse is deduced, log 14, and that every framing fault raises
PROTOCOL, log 25.) (In `State.Settled`, the order of what falls together in a step and the fields of TEST DONE
ABANDONED are the model's choice, logs 9 and 17; the fields of an occurrence are deduced, log 20.) -/
def Obligations.UnexpectedPrinterFrames : Prop :=
  ∀ (s : State) (p : PrinterId) (c : Instr), s.HearsPrinter p →
    ((∃ cause, genuine cause true = true ∧ c = .printerFrameError p cause) ∨ c = .printerFrameGap p
      ∨ (∃ kind, printerKind kind = false ∧ c = .printerUnknownKind p kind)
      ∨ (∃ body n, printerFrameOf c = some (p, body, n) ∧ body.length ≠ n)
      ∨ (∃ tag body, (c = .printed p tag body ∨ c = .jammed p tag body)
          ∧ (s.printers[p].printing = none ∨ tag ≠ 1#8))
      ∨ (∃ tag body, (c = .withdrawn p tag body ∨ c = .tooLate p tag body)
          ∧ (s.printers[p].withdrawal = false ∨ tag ≠ 2#8))
      ∨ (∃ tag n f, n < 2 ^ 24 ∧ (c = .withdrawn p tag (be 3 n) ∨ c = .tooLate p tag (be 3 n))
          ∧ s.printers[p].staged = some f ∧ f.serial ≠ n)
      ∨ (∃ tag n f, c = .tooLate p tag (be 3 n) ∧ s.printers[p].staged = some f
          ∧ s.printers[p].printing ≠ none)
      ∨ ∃ tag body, c = .top p tag body ∧ s.printers[p].loadCheck = none ∧ s.printers[p].unloadCheck = none
          ∧ s.printers[p].query = none) →
    ∃ t, exec c s = .next t ∧ State.Settled s s t [{ source := .printer p, kind := .protocol }]
      ∧ t.Told (.printer p) .protocol

/-! ## The events of a line -/

/-- R24 to R26, R28: a valid idle mark takes a DOWN line to SETTLING, a gap takes SETTLING back to DOWN, and
the settle timer takes it UP with the capability wait running and LINK_LOST ended. The silence timer and
JABBER make an UP line lose (`TicketAndLinkLoss`), to DOWN and to JABBER, with LINK_LOST. Quiet takes a JABBER
line to SETTLING with its latch off, and is remembered with it on, until a character comes (log 22). In a link
state that an event has no part in, it changes nothing (the model's choice, log 2). A line carries the frames
sent in their order, and before, between and after them the idle character 96h alone; how many is timing (log
37). (In `State.Settled`, the order of what falls together in a step and the fields of TEST DONE ABANDONED are
the model's choice, logs 9 and 17; the fields of an occurrence are deduced, log 20.) -/
def Obligations.LinkEvents : Prop :=
  ∀ (s : State) (p : PrinterId), s.phase = .running →
    let q := s.printers[p]
    let becomes (u : State) (c : Instr) : Prop := ∃ t, exec c s = .next t ∧ State.Settled s u t []
    let lost : List Occurrence := (q.loadCheck.map fun c =>
        { source := .printer p, kind := .loadMismatch, pack := some c.pack }).toList
      ++ [{ source := .printer p, kind := .linkLost }]
    let quietened : Printer := if s.limits.latches.getLsbD p.val = true then { q with quiet := true }
      else { q with link := .settling, quiet := false }
    (q.link = .down →
        becomes { s with printers := s.printers.set p { q with link := .settling } } (.idleMark p)
          ∧ ∀ cause, exec (.linkGap p cause) s = .next s)
      ∧ (q.link = .settling →
          (∀ cause, becomes { s with printers := s.printers.set p { q with link := .down } } (.linkGap p cause))
            ∧ becomes { s with
                printers := s.printers.set p { q with link := .up, capabilityWait := true }
                reports := s.reports.map fun r =>
                  if r.source = .printer p ∧ r.kind = .linkLost ∧ r.state ≠ .cleared then
                    { r with
                      active := some false
                      state := if r.state = .acknowledged then .cleared else r.state }
                  else r } (.settleTimer p))
      ∧ (q.link = .up →
          (∃ t, exec (.silenceTimer p) s = .next t ∧ State.Settled s (s.linkLoss p .down) t lost
              ∧ t.Told (.printer p) .linkLost)
            ∧ (∃ t, exec (.jabber p) s = .next t ∧ State.Settled s (s.linkLoss p .jabber) t lost
              ∧ t.Told (.printer p) .linkLost ∧ t.Told (.printer p) .jabber))
      ∧ (q.link = .jabber →
          becomes { s with printers := s.printers.set p quietened } (.jabberQuiet p)
            ∧ exec (.linkGap p .character) s
                = .next { s with printers := s.printers.set p { q with quiet := false } }
            ∧ exec (.linkGap p .silence) s = .next s)
      ∧ (q.link ≠ .down → exec (.idleMark p) s = .next s)
      ∧ (q.link ≠ .settling → exec (.settleTimer p) s = .next s)
      ∧ (q.link ≠ .up → exec (.silenceTimer p) s = .next s ∧ exec (.jabber p) s = .next s)
      ∧ (q.link ≠ .jabber → exec (.jabberQuiet p) s = .next s)
      ∧ (q.link = .up → ∀ cause, exec (.linkGap p cause) s = .next s)
      ∧ s.lineIdle = some 0x96#8
      ∧ ∀ gap : Nat → Nat, s.lineSent p gap
          = ((List.range (q.sent.length + 1)).map fun i =>
              List.replicate (gap i) 0x96#8 ++ (q.sent[i]?).elim [] Frame.line).flatten

/-- R14, R17, R41: at the first expiry of a query, a load check or an unload check, TOP REPORT is sent once
more. At the second, the query ends with the print-timeout fault and PRINT_TIMEOUT, the load check ends with
LOAD DONE NO ANSWER and LOAD_MISMATCH, and the unload check with UNLOAD DONE NO ANSWER and PROTOCOL, the pack
staying as it was. R35: the print timer loses the tickets in flight (`TicketAndLinkLoss`), sets the
print-timeout fault, begins recovery and raises PRINT_TIMEOUT; a withdrawal outstanding is abandoned as R35
says or stays to meet its reply as R38 says, which a free constant decides (the model's choice, log 10). A
timer that does not run has no effect (the model's choice, log 2). (In `State.Settled`, the order of what
falls together in a step and the fields of TEST DONE ABANDONED are the model's choice, logs 9 and 17; the
fields of an occurrence are deduced, log 20.) -/
def Obligations.PrinterTimers : Prop :=
  ∀ (s : State) (p : PrinterId), s.phase = .running →
    let q := s.printers[p]
    let again (r : Printer) : State := { s with printers := s.printers.set p { r with
      sent := q.sent ++ [⟨0x42#8, 0#8, []⟩] } }
    let becomes (u : State) (c : Instr) (kind : Kind) (pack serial : Option Nat) : Prop :=
      ∃ t, exec c s = .next t
        ∧ State.Settled s u t [{ source := .printer p, kind := kind, pack := pack, serial := serial }]
        ∧ t.Told (.printer p) kind
    (q.query = some .first → exec (.queryTimer p) s = .next (again { q with query := some .second }))
      ∧ (q.query = some .second → becomes { s with
          printers := s.printers.set p { q with query := none, printTimeout := true } } (.queryTimer p)
            .printTimeout (q.range.map (·.pack)) (q.range.map (·.first)))
      ∧ (∀ c : LoadCheck, q.loadCheck = some c →
          (c.attempt = .first → exec (.loadAnswerTimer p) s
              = .next (again { q with loadCheck := some { c with attempt := .second } }))
            ∧ (c.attempt = .second → becomes (({ s with
                packs := s.packs.map fun k => if k.id = c.pack then { k with loadCheck := none } else k
                printers := s.printers.set p { q with loadCheck := none } } : State).send .supervisor
                  [⟨0x89#8, c.tag, be 2 c.pack ++ be 1 p.val ++ be 1 2 ++ absent 3⟩])
                (.loadAnswerTimer p) .loadMismatch (some c.pack) none))
      ∧ (∀ c : UnloadCheck, q.unloadCheck = some c →
          (c.attempt = .first → exec (.unloadAnswerTimer p) s
              = .next (again { q with unloadCheck := some { c with attempt := .second } }))
            ∧ (c.attempt = .second → becomes (({ s with
                printers := s.printers.set p { q with unloadCheck := none } } : State).send .supervisor
                  [⟨0x8A#8, c.tag, be 1 p.val ++ bePack q.loaded ++ be 1 3 ++ be 3 0⟩])
                (.unloadAnswerTimer p) .protocol none none))
      ∧ (∀ f : Ticket, q.printing = some f → q.printTimer = true → becomes { s.loseTickets p with
          printers := s.printers.set p { (s.loseTickets p).printers[p] with
            withdrawal := q.withdrawal && Config.withdrawalOutlivesTimeout, pauseTimer := none
            printTimeout := true, query := some .first
            sent := q.sent ++ [⟨0x42#8, 0#8, []⟩] } } (.printTimer p) .printTimeout (some f.pack) (some f.serial))
      ∧ (q.query = none → exec (.queryTimer p) s = .next s)
      ∧ (q.loadCheck = none → exec (.loadAnswerTimer p) s = .next s)
      ∧ (q.unloadCheck = none → exec (.unloadAnswerTimer p) s = .next s)
      ∧ (q.printing = none ∨ q.printTimer = false → exec (.printTimer p) s = .next s)

/-! ## The arbiters and the waits -/

/-- R5, R33, R51 to R55, R58, R70: a GRANT on a printer that can take a ticket first ends RECORD_FULL the jobs
that R58 says (all of them at once: deduced, log 23); then a waiting test print, or the chosen job
(`State.choose`), is sent: the pack's next serial is assigned to it, PRINT goes to the first empty slot,
PRINTING starting its timer, and the lamp pulses; a job becomes ACTIVE on the printer with its waits ended,
takes a reservation where its ticket needs one, and the arbiter counts it: a holder's burst grows, another job
becomes the holder with a burst of one and the rotation pointer moves to its window. Where nothing is chosen,
nothing is sent. LOW_STOCK and PACK_EXHAUSTED then follow the pack's unused count (`State.Settled`, R10). (In
`State.Settled`, the order of what falls together in a step and the fields of TEST DONE ABANDONED are the
model's choice, logs 9 and 17; the fields of an occurrence are deduced, log 20.) -/
def Obligations.Grant : Prop :=
  ∀ (s : State) (p : PrinterId) (k : Pack), s.phase = .running → s.canTake p = true →
    s.loadedPack p = some k →
    let v := s.endRecordFull p
    let q := s.printers[p]
    let staged := decide (q.printing ≠ none)
    let placed (f : Ticket) (fields : List (List Byte)) (test : Option TestPrint) (arbiter : Arbiter) : Printer :=
      { q with
        printing := if staged then q.printing else some f
        staged := if staged then some f else q.staged
        printTimer := q.printTimer || !staged
        sent := q.sent ++ [⟨0x40#8, if staged then 2#8 else 1#8,
                be 2 k.id ++ be 1 k.stock.val ++ be 3 k.next ++ be 1 fields.length ++ fieldBytes fields⟩]
        lamp := q.lamp.pulsed, test := test, arbiter := arbiter }
    let assigned := s.packs.map fun x => if x.id = k.id then { x with next := x.next + 1 } else x
    let sends (j : Job) (arbiter : Arbiter) : State :=
      let reserves := (v.ticketClass p j).reserves
      let f : Ticket := { owner := some j.ref, pack := k.id, serial := k.next, reserved := reserves }
      { v with
        packs := assigned
        printers := s.printers.set p (placed f j.fields q.test arbiter)
        shifts := s.shifts.set j.ref.window { s.shifts[j.ref.window] with
          reservations := s.shifts[j.ref.window].reservations + (if reserves then 1 else 0) }
        jobs := v.jobs.map fun i => if i.ref = j.ref then
            { i with state := .active, current := some p, jobWait := none, routeWait := none } else i }
    v.jobs = s.jobs.map (fun j => if s.recordFull p j = true ∧ (j.state = .queued ∨ j.state = .active) then
        { j with state := .ending .recordFull, current := none, jobWait := none, routeWait := none } else j)
      ∧ { v with jobs := s.jobs } = s
      ∧ ∃ t, exec (.grant p) s = .next t
        ∧ (v.choose p = .nothing → State.Settled s v t [])
        ∧ (∀ x, v.choose p = .test x → State.Settled s { v with
            packs := assigned
            printers := s.printers.set p (placed { owner := none, pack := k.id, serial := k.next, reserved := false }
              x.fields (some { x with sent := true }) q.arbiter) } t [])
        ∧ (∀ j, v.choose p = .holder j →
            State.Settled s (sends j { q.arbiter with burst := q.arbiter.burst + 1 }) t [])
        ∧ ∀ j, v.choose p = .burst j →
            State.Settled s (sends j { rotation := j.ref.window, holder := some j.ref, burst := 1 }) t []

/-- R52 to R54, R70: what an arbiter chooses. A pending test print comes first. A burst holder below the burst
limit that fits in all but its entry condition is chosen where that condition holds too, and otherwise bars
every other. Then only an eligible job is chosen, a specific one before every pool one, from the first window
in rotation after the pointer that has one, the oldest of that window; nothing is chosen only where no job is
eligible. -/
def Obligations.ArbiterChoice : Prop :=
  ∀ (s : State) (p : PrinterId),
    let a := s.printers[p].arbiter
    let distance (w : Window) : Nat := (w.val + 12 - (a.rotation.val + 1)) % 12
    (∀ x, s.choose p = .test x ↔ s.printers[p].test = some x ∧ x.sent = false)
      ∧ ((∀ x, s.printers[p].test = some x → x.sent = true) →
          (∀ (ref : JobRef) (j : Job), a.holder = some ref → s.job? ref = some j → s.suits p j = true →
              a.burst < s.limits.burst →
              s.choose p = if s.entryHolds p j then .holder j else .nothing)
            ∧ ((∀ (ref : JobRef) (j : Job), a.holder = some ref → s.job? ref = some j →
                  s.suits p j = false ∨ s.limits.burst ≤ a.burst) →
                (s.choose p = .nothing ↔ ∀ j ∈ s.jobs, s.eligible p j = false)
                  ∧ ∀ j, s.choose p = .burst j →
                      j ∈ s.jobs ∧ s.eligible p j = true
                        ∧ (j.target = none → ∀ i ∈ s.jobs, s.eligible p i = true → i.target = none)
                        ∧ (∀ i ∈ s.jobs, s.eligible p i = true → (i.target = none ↔ j.target = none) →
                            distance j.ref.window ≤ distance i.ref.window)
                        ∧ ∃ before after, s.jobs = before ++ j :: after
                          ∧ ∀ i ∈ before, i.ref.window = j.ref.window → (i.target = none ↔ j.target = none) →
                              s.eligible p i = false))

/-- R62, R66: the job wait of a QUEUED job removes it with JOB END NO PRINTER for a pool job and PRINTER
UNAVAILABLE for a specific one, COMPLETE where all is printed. R63: the route wait of a pool job sets
route-wait passed. A wait that does not run has no effect (the model's choice, log 2). (In `State.Settled`,
the order of what falls together in a step and the fields of TEST DONE ABANDONED are the model's choice, logs
9 and 17; the fields of an occurrence are deduced, log 20.) -/
def Obligations.JobWaits : Prop :=
  ∀ (s : State) (j : Job), s.phase = .running → s.job? j.ref = some j → j.state = .queued →
    let outcome := if j.printed = j.quantity then 0 else if j.target = none then 2 else 3
    (j.jobWait ≠ none → ∃ t, exec (.jobWait j.ref.window j.ref.tag) s = .next t
        ∧ State.Settled s (({ s with jobs := s.jobs.filter fun i => decide (i.ref ≠ j.ref) } : State).send
            (.window j.ref.window) [⟨0x83#8, j.ref.tag,
                be 1 outcome ++ be 1 j.printed ++ be 2 j.jamSpoiled ++ beInt 4 j.charged⟩]) t [])
      ∧ (j.routeWait ≠ none → exec (.routeWait j.ref.window j.ref.tag) s = .next { s with
          jobs := s.jobs.map fun i =>
            if i.ref = j.ref then { i with routePassed := true, routeWait := none } else i })
      ∧ (j.jobWait = none → exec (.jobWait j.ref.window j.ref.tag) s = .next s)
      ∧ (j.routeWait = none → exec (.routeWait j.ref.window j.ref.tag) s = .next s)

/-- R166: ALARM_IN taken as changed is the contact's state; an active one raises EXTERNAL_ALARM, and an
inactive one ends it (`State.Settled`, R154). R168: the end of an activity pulse lights an ON lamp again, and
FLASH turns a flashing lamp over; neither touches a lamp of another aspect; an ALARM_IN that does not change
the contact changes nothing (the model's choice, log 2). (In `State.Settled`, the order of what falls together
in a step and the fields of TEST DONE ABANDONED are the model's choice, logs 9 and 17; the fields of an
occurrence are deduced, log 20.) -/
def Obligations.ContactAndLamps : Prop :=
  (∀ (s : State) (active : Bool), s.phase = .running →
      (s.alarmIn ≠ active → ∃ t, exec (.alarmIn active) s = .next t
          ∧ State.Settled s { s with alarmIn := active } t []
          ∧ (active = true → t.Told .office .externalAlarm))
        ∧ (s.alarmIn = active → exec (.alarmIn active) s = .next s))
    ∧ ∀ (s : State) (p : PrinterId), s.phase = .running →
        let q := s.printers[p]
        (q.lamp.aspect = .on → q.lamp.pulse = true → exec (.activityPulse p) s = .next { s with
            printers := s.printers.set p { q with lamp := { q.lamp with lit := true, pulse := false } } })
          ∧ (q.lamp.aspect ≠ .on ∨ q.lamp.pulse = false → exec (.activityPulse p) s = .next s)
          ∧ (q.lamp.aspect = .flash → exec (.flash p) s = .next { s with
            printers := s.printers.set p { q with lamp := { q.lamp with lit := !q.lamp.lit } } })
          ∧ (q.lamp.aspect ≠ .flash → exec (.flash p) s = .next s)
end

