-- ==== Sys2Proof/Laws/State.lean ====
section
/-!
SUPPORT. One lemma per field per named update of the state, so that no proof unfolds a record update; and
the field an update does write, read back.
-/

namespace Sys2Proof.Machine

variable (s : State)

/-! ## modPort -/

@[simp] theorem State.modPort_phase (port : Port) (f : PortRecord → PortRecord) :
    (s.modPort port f).phase = s.phase := by cases port <;> rfl
@[simp] theorem State.modPort_resetPin (port : Port) (f : PortRecord → PortRecord) :
    (s.modPort port f).resetPin = s.resetPin := by cases port <;> rfl
@[simp] theorem State.modPort_lastStart (port : Port) (f : PortRecord → PortRecord) :
    (s.modPort port f).lastStart = s.lastStart := by cases port <;> rfl
@[simp] theorem State.modPort_speed (port : Port) (f : PortRecord → PortRecord) :
    (s.modPort port f).speed = s.speed := by cases port <;> rfl
@[simp] theorem State.modPort_clock (port : Port) (f : PortRecord → PortRecord) :
    (s.modPort port f).clock = s.clock := by cases port <;> rfl
@[simp] theorem State.modPort_clockUnset (port : Port) (f : PortRecord → PortRecord) :
    (s.modPort port f).clockUnset = s.clockUnset := by cases port <;> rfl
@[simp] theorem State.modPort_cursor (port : Port) (f : PortRecord → PortRecord) :
    (s.modPort port f).cursor = s.cursor := by cases port <;> rfl
@[simp] theorem State.modPort_packs (port : Port) (f : PortRecord → PortRecord) :
    (s.modPort port f).packs = s.packs := by cases port <;> rfl
@[simp] theorem State.modPort_printers (port : Port) (f : PortRecord → PortRecord) :
    (s.modPort port f).printers = s.printers := by cases port <;> rfl
@[simp] theorem State.modPort_jobs (port : Port) (f : PortRecord → PortRecord) :
    (s.modPort port f).jobs = s.jobs := by cases port <;> rfl
@[simp] theorem State.modPort_spoils (port : Port) (f : PortRecord → PortRecord) :
    (s.modPort port f).spoils = s.spoils := by cases port <;> rfl
@[simp] theorem State.modPort_concessions (port : Port) (f : PortRecord → PortRecord) :
    (s.modPort port f).concessions = s.concessions := by cases port <;> rfl
@[simp] theorem State.modPort_splits (port : Port) (f : PortRecord → PortRecord) :
    (s.modPort port f).splits = s.splits := by cases port <;> rfl
@[simp] theorem State.modPort_shifts (port : Port) (f : PortRecord → PortRecord) :
    (s.modPort port f).shifts = s.shifts := by cases port <;> rfl
@[simp] theorem State.modPort_dayOpen (port : Port) (f : PortRecord → PortRecord) :
    (s.modPort port f).dayOpen = s.dayOpen := by cases port <;> rfl
@[simp] theorem State.modPort_reports (port : Port) (f : PortRecord → PortRecord) :
    (s.modPort port f).reports = s.reports := by cases port <;> rfl
@[simp] theorem State.modPort_reserved (port : Port) (f : PortRecord → PortRecord) :
    (s.modPort port f).reserved = s.reserved := by cases port <;> rfl
@[simp] theorem State.modPort_counter (port : Port) (f : PortRecord → PortRecord) :
    (s.modPort port f).counter = s.counter := by cases port <;> rfl
@[simp] theorem State.modPort_windowFlags (port : Port) (f : PortRecord → PortRecord) :
    (s.modPort port f).windowFlags = s.windowFlags := by cases port <;> rfl
@[simp] theorem State.modPort_routing (port : Port) (f : PortRecord → PortRecord) :
    (s.modPort port f).routing = s.routing := by cases port <;> rfl
@[simp] theorem State.modPort_alarmIn (port : Port) (f : PortRecord → PortRecord) :
    (s.modPort port f).alarmIn = s.alarmIn := by cases port <;> rfl
@[simp] theorem State.modPort_silenced (port : Port) (f : PortRecord → PortRecord) :
    (s.modPort port f).silenced = s.silenced := by cases port <;> rfl
@[simp] theorem State.modPort_alarm (port : Port) (f : PortRecord → PortRecord) :
    (s.modPort port f).alarm = s.alarm := by cases port <;> rfl
@[simp] theorem State.modPort_fallback (port : Port) (f : PortRecord → PortRecord) :
    (s.modPort port f).fallback = s.fallback := by cases port <;> rfl
@[simp] theorem State.modPort_tolerance (port : Port) (f : PortRecord → PortRecord) :
    (s.modPort port f).tolerance = s.tolerance := by cases port <;> rfl
@[simp] theorem State.modPort_limits (port : Port) (f : PortRecord → PortRecord) :
    (s.modPort port f).limits = s.limits := by cases port <;> rfl
@[simp] theorem State.modPort_pending (port : Port) (f : PortRecord → PortRecord) :
    (s.modPort port f).pending = s.pending := by cases port <;> rfl

/-! ## send -/

@[simp] theorem State.send_phase (port : Port) (fs : List Frame) :
    (s.send port fs).phase = s.phase := by cases port <;> rfl
@[simp] theorem State.send_resetPin (port : Port) (fs : List Frame) :
    (s.send port fs).resetPin = s.resetPin := by cases port <;> rfl
@[simp] theorem State.send_lastStart (port : Port) (fs : List Frame) :
    (s.send port fs).lastStart = s.lastStart := by cases port <;> rfl
@[simp] theorem State.send_speed (port : Port) (fs : List Frame) :
    (s.send port fs).speed = s.speed := by cases port <;> rfl
@[simp] theorem State.send_clock (port : Port) (fs : List Frame) :
    (s.send port fs).clock = s.clock := by cases port <;> rfl
@[simp] theorem State.send_clockUnset (port : Port) (fs : List Frame) :
    (s.send port fs).clockUnset = s.clockUnset := by cases port <;> rfl
@[simp] theorem State.send_cursor (port : Port) (fs : List Frame) :
    (s.send port fs).cursor = s.cursor := by cases port <;> rfl
@[simp] theorem State.send_packs (port : Port) (fs : List Frame) :
    (s.send port fs).packs = s.packs := by cases port <;> rfl
@[simp] theorem State.send_printers (port : Port) (fs : List Frame) :
    (s.send port fs).printers = s.printers := by cases port <;> rfl
@[simp] theorem State.send_jobs (port : Port) (fs : List Frame) :
    (s.send port fs).jobs = s.jobs := by cases port <;> rfl
@[simp] theorem State.send_spoils (port : Port) (fs : List Frame) :
    (s.send port fs).spoils = s.spoils := by cases port <;> rfl
@[simp] theorem State.send_concessions (port : Port) (fs : List Frame) :
    (s.send port fs).concessions = s.concessions := by cases port <;> rfl
@[simp] theorem State.send_splits (port : Port) (fs : List Frame) :
    (s.send port fs).splits = s.splits := by cases port <;> rfl
@[simp] theorem State.send_shifts (port : Port) (fs : List Frame) :
    (s.send port fs).shifts = s.shifts := by cases port <;> rfl
@[simp] theorem State.send_dayOpen (port : Port) (fs : List Frame) :
    (s.send port fs).dayOpen = s.dayOpen := by cases port <;> rfl
@[simp] theorem State.send_reports (port : Port) (fs : List Frame) :
    (s.send port fs).reports = s.reports := by cases port <;> rfl
@[simp] theorem State.send_reserved (port : Port) (fs : List Frame) :
    (s.send port fs).reserved = s.reserved := by cases port <;> rfl
@[simp] theorem State.send_counter (port : Port) (fs : List Frame) :
    (s.send port fs).counter = s.counter := by cases port <;> rfl
@[simp] theorem State.send_windowFlags (port : Port) (fs : List Frame) :
    (s.send port fs).windowFlags = s.windowFlags := by cases port <;> rfl
@[simp] theorem State.send_routing (port : Port) (fs : List Frame) :
    (s.send port fs).routing = s.routing := by cases port <;> rfl
@[simp] theorem State.send_alarmIn (port : Port) (fs : List Frame) :
    (s.send port fs).alarmIn = s.alarmIn := by cases port <;> rfl
@[simp] theorem State.send_silenced (port : Port) (fs : List Frame) :
    (s.send port fs).silenced = s.silenced := by cases port <;> rfl
@[simp] theorem State.send_alarm (port : Port) (fs : List Frame) :
    (s.send port fs).alarm = s.alarm := by cases port <;> rfl
@[simp] theorem State.send_fallback (port : Port) (fs : List Frame) :
    (s.send port fs).fallback = s.fallback := by cases port <;> rfl
@[simp] theorem State.send_tolerance (port : Port) (fs : List Frame) :
    (s.send port fs).tolerance = s.tolerance := by cases port <;> rfl
@[simp] theorem State.send_limits (port : Port) (fs : List Frame) :
    (s.send port fs).limits = s.limits := by cases port <;> rfl
@[simp] theorem State.send_pending (port : Port) (fs : List Frame) :
    (s.send port fs).pending = s.pending := by cases port <;> rfl

/-! ## sendWindows -/

@[simp] theorem State.sendWindows_phase (fs : Window → List Frame) :
    (s.sendWindows fs).phase = s.phase := rfl
@[simp] theorem State.sendWindows_resetPin (fs : Window → List Frame) :
    (s.sendWindows fs).resetPin = s.resetPin := rfl
@[simp] theorem State.sendWindows_lastStart (fs : Window → List Frame) :
    (s.sendWindows fs).lastStart = s.lastStart := rfl
@[simp] theorem State.sendWindows_speed (fs : Window → List Frame) :
    (s.sendWindows fs).speed = s.speed := rfl
@[simp] theorem State.sendWindows_clock (fs : Window → List Frame) :
    (s.sendWindows fs).clock = s.clock := rfl
@[simp] theorem State.sendWindows_clockUnset (fs : Window → List Frame) :
    (s.sendWindows fs).clockUnset = s.clockUnset := rfl
@[simp] theorem State.sendWindows_svPort (fs : Window → List Frame) :
    (s.sendWindows fs).svPort = s.svPort := rfl
@[simp] theorem State.sendWindows_cursor (fs : Window → List Frame) :
    (s.sendWindows fs).cursor = s.cursor := rfl
@[simp] theorem State.sendWindows_packs (fs : Window → List Frame) :
    (s.sendWindows fs).packs = s.packs := rfl
@[simp] theorem State.sendWindows_printers (fs : Window → List Frame) :
    (s.sendWindows fs).printers = s.printers := rfl
@[simp] theorem State.sendWindows_jobs (fs : Window → List Frame) :
    (s.sendWindows fs).jobs = s.jobs := rfl
@[simp] theorem State.sendWindows_spoils (fs : Window → List Frame) :
    (s.sendWindows fs).spoils = s.spoils := rfl
@[simp] theorem State.sendWindows_concessions (fs : Window → List Frame) :
    (s.sendWindows fs).concessions = s.concessions := rfl
@[simp] theorem State.sendWindows_splits (fs : Window → List Frame) :
    (s.sendWindows fs).splits = s.splits := rfl
@[simp] theorem State.sendWindows_shifts (fs : Window → List Frame) :
    (s.sendWindows fs).shifts = s.shifts := rfl
@[simp] theorem State.sendWindows_dayOpen (fs : Window → List Frame) :
    (s.sendWindows fs).dayOpen = s.dayOpen := rfl
@[simp] theorem State.sendWindows_reports (fs : Window → List Frame) :
    (s.sendWindows fs).reports = s.reports := rfl
@[simp] theorem State.sendWindows_reserved (fs : Window → List Frame) :
    (s.sendWindows fs).reserved = s.reserved := rfl
@[simp] theorem State.sendWindows_counter (fs : Window → List Frame) :
    (s.sendWindows fs).counter = s.counter := rfl
@[simp] theorem State.sendWindows_windowFlags (fs : Window → List Frame) :
    (s.sendWindows fs).windowFlags = s.windowFlags := rfl
@[simp] theorem State.sendWindows_routing (fs : Window → List Frame) :
    (s.sendWindows fs).routing = s.routing := rfl
@[simp] theorem State.sendWindows_alarmIn (fs : Window → List Frame) :
    (s.sendWindows fs).alarmIn = s.alarmIn := rfl
@[simp] theorem State.sendWindows_silenced (fs : Window → List Frame) :
    (s.sendWindows fs).silenced = s.silenced := rfl
@[simp] theorem State.sendWindows_alarm (fs : Window → List Frame) :
    (s.sendWindows fs).alarm = s.alarm := rfl
@[simp] theorem State.sendWindows_fallback (fs : Window → List Frame) :
    (s.sendWindows fs).fallback = s.fallback := rfl
@[simp] theorem State.sendWindows_tolerance (fs : Window → List Frame) :
    (s.sendWindows fs).tolerance = s.tolerance := rfl
@[simp] theorem State.sendWindows_limits (fs : Window → List Frame) :
    (s.sendWindows fs).limits = s.limits := rfl
@[simp] theorem State.sendWindows_pending (fs : Window → List Frame) :
    (s.sendWindows fs).pending = s.pending := rfl

/-! ## modPrinter -/

@[simp] theorem State.modPrinter_phase (p : PrinterId) (f : Printer → Printer) :
    (s.modPrinter p f).phase = s.phase := rfl
@[simp] theorem State.modPrinter_resetPin (p : PrinterId) (f : Printer → Printer) :
    (s.modPrinter p f).resetPin = s.resetPin := rfl
@[simp] theorem State.modPrinter_lastStart (p : PrinterId) (f : Printer → Printer) :
    (s.modPrinter p f).lastStart = s.lastStart := rfl
@[simp] theorem State.modPrinter_speed (p : PrinterId) (f : Printer → Printer) :
    (s.modPrinter p f).speed = s.speed := rfl
@[simp] theorem State.modPrinter_clock (p : PrinterId) (f : Printer → Printer) :
    (s.modPrinter p f).clock = s.clock := rfl
@[simp] theorem State.modPrinter_clockUnset (p : PrinterId) (f : Printer → Printer) :
    (s.modPrinter p f).clockUnset = s.clockUnset := rfl
@[simp] theorem State.modPrinter_ports (p : PrinterId) (f : Printer → Printer) :
    (s.modPrinter p f).ports = s.ports := rfl
@[simp] theorem State.modPrinter_svPort (p : PrinterId) (f : Printer → Printer) :
    (s.modPrinter p f).svPort = s.svPort := rfl
@[simp] theorem State.modPrinter_cursor (p : PrinterId) (f : Printer → Printer) :
    (s.modPrinter p f).cursor = s.cursor := rfl
@[simp] theorem State.modPrinter_packs (p : PrinterId) (f : Printer → Printer) :
    (s.modPrinter p f).packs = s.packs := rfl
@[simp] theorem State.modPrinter_jobs (p : PrinterId) (f : Printer → Printer) :
    (s.modPrinter p f).jobs = s.jobs := rfl
@[simp] theorem State.modPrinter_spoils (p : PrinterId) (f : Printer → Printer) :
    (s.modPrinter p f).spoils = s.spoils := rfl
@[simp] theorem State.modPrinter_concessions (p : PrinterId) (f : Printer → Printer) :
    (s.modPrinter p f).concessions = s.concessions := rfl
@[simp] theorem State.modPrinter_splits (p : PrinterId) (f : Printer → Printer) :
    (s.modPrinter p f).splits = s.splits := rfl
@[simp] theorem State.modPrinter_shifts (p : PrinterId) (f : Printer → Printer) :
    (s.modPrinter p f).shifts = s.shifts := rfl
@[simp] theorem State.modPrinter_dayOpen (p : PrinterId) (f : Printer → Printer) :
    (s.modPrinter p f).dayOpen = s.dayOpen := rfl
@[simp] theorem State.modPrinter_reports (p : PrinterId) (f : Printer → Printer) :
    (s.modPrinter p f).reports = s.reports := rfl
@[simp] theorem State.modPrinter_reserved (p : PrinterId) (f : Printer → Printer) :
    (s.modPrinter p f).reserved = s.reserved := rfl
@[simp] theorem State.modPrinter_counter (p : PrinterId) (f : Printer → Printer) :
    (s.modPrinter p f).counter = s.counter := rfl
@[simp] theorem State.modPrinter_windowFlags (p : PrinterId) (f : Printer → Printer) :
    (s.modPrinter p f).windowFlags = s.windowFlags := rfl
@[simp] theorem State.modPrinter_routing (p : PrinterId) (f : Printer → Printer) :
    (s.modPrinter p f).routing = s.routing := rfl
@[simp] theorem State.modPrinter_alarmIn (p : PrinterId) (f : Printer → Printer) :
    (s.modPrinter p f).alarmIn = s.alarmIn := rfl
@[simp] theorem State.modPrinter_silenced (p : PrinterId) (f : Printer → Printer) :
    (s.modPrinter p f).silenced = s.silenced := rfl
@[simp] theorem State.modPrinter_alarm (p : PrinterId) (f : Printer → Printer) :
    (s.modPrinter p f).alarm = s.alarm := rfl
@[simp] theorem State.modPrinter_fallback (p : PrinterId) (f : Printer → Printer) :
    (s.modPrinter p f).fallback = s.fallback := rfl
@[simp] theorem State.modPrinter_tolerance (p : PrinterId) (f : Printer → Printer) :
    (s.modPrinter p f).tolerance = s.tolerance := rfl
@[simp] theorem State.modPrinter_limits (p : PrinterId) (f : Printer → Printer) :
    (s.modPrinter p f).limits = s.limits := rfl
@[simp] theorem State.modPrinter_pending (p : PrinterId) (f : Printer → Printer) :
    (s.modPrinter p f).pending = s.pending := rfl

/-! ## mapPrinters -/

@[simp] theorem State.mapPrinters_phase (f : PrinterId → Printer → Printer) :
    (s.mapPrinters f).phase = s.phase := rfl
@[simp] theorem State.mapPrinters_resetPin (f : PrinterId → Printer → Printer) :
    (s.mapPrinters f).resetPin = s.resetPin := rfl
@[simp] theorem State.mapPrinters_lastStart (f : PrinterId → Printer → Printer) :
    (s.mapPrinters f).lastStart = s.lastStart := rfl
@[simp] theorem State.mapPrinters_speed (f : PrinterId → Printer → Printer) :
    (s.mapPrinters f).speed = s.speed := rfl
@[simp] theorem State.mapPrinters_clock (f : PrinterId → Printer → Printer) :
    (s.mapPrinters f).clock = s.clock := rfl
@[simp] theorem State.mapPrinters_clockUnset (f : PrinterId → Printer → Printer) :
    (s.mapPrinters f).clockUnset = s.clockUnset := rfl
@[simp] theorem State.mapPrinters_ports (f : PrinterId → Printer → Printer) :
    (s.mapPrinters f).ports = s.ports := rfl
@[simp] theorem State.mapPrinters_svPort (f : PrinterId → Printer → Printer) :
    (s.mapPrinters f).svPort = s.svPort := rfl
@[simp] theorem State.mapPrinters_cursor (f : PrinterId → Printer → Printer) :
    (s.mapPrinters f).cursor = s.cursor := rfl
@[simp] theorem State.mapPrinters_packs (f : PrinterId → Printer → Printer) :
    (s.mapPrinters f).packs = s.packs := rfl
@[simp] theorem State.mapPrinters_jobs (f : PrinterId → Printer → Printer) :
    (s.mapPrinters f).jobs = s.jobs := rfl
@[simp] theorem State.mapPrinters_spoils (f : PrinterId → Printer → Printer) :
    (s.mapPrinters f).spoils = s.spoils := rfl
@[simp] theorem State.mapPrinters_concessions (f : PrinterId → Printer → Printer) :
    (s.mapPrinters f).concessions = s.concessions := rfl
@[simp] theorem State.mapPrinters_splits (f : PrinterId → Printer → Printer) :
    (s.mapPrinters f).splits = s.splits := rfl
@[simp] theorem State.mapPrinters_shifts (f : PrinterId → Printer → Printer) :
    (s.mapPrinters f).shifts = s.shifts := rfl
@[simp] theorem State.mapPrinters_dayOpen (f : PrinterId → Printer → Printer) :
    (s.mapPrinters f).dayOpen = s.dayOpen := rfl
@[simp] theorem State.mapPrinters_reports (f : PrinterId → Printer → Printer) :
    (s.mapPrinters f).reports = s.reports := rfl
@[simp] theorem State.mapPrinters_reserved (f : PrinterId → Printer → Printer) :
    (s.mapPrinters f).reserved = s.reserved := rfl
@[simp] theorem State.mapPrinters_counter (f : PrinterId → Printer → Printer) :
    (s.mapPrinters f).counter = s.counter := rfl
@[simp] theorem State.mapPrinters_windowFlags (f : PrinterId → Printer → Printer) :
    (s.mapPrinters f).windowFlags = s.windowFlags := rfl
@[simp] theorem State.mapPrinters_routing (f : PrinterId → Printer → Printer) :
    (s.mapPrinters f).routing = s.routing := rfl
@[simp] theorem State.mapPrinters_alarmIn (f : PrinterId → Printer → Printer) :
    (s.mapPrinters f).alarmIn = s.alarmIn := rfl
@[simp] theorem State.mapPrinters_silenced (f : PrinterId → Printer → Printer) :
    (s.mapPrinters f).silenced = s.silenced := rfl
@[simp] theorem State.mapPrinters_alarm (f : PrinterId → Printer → Printer) :
    (s.mapPrinters f).alarm = s.alarm := rfl
@[simp] theorem State.mapPrinters_fallback (f : PrinterId → Printer → Printer) :
    (s.mapPrinters f).fallback = s.fallback := rfl
@[simp] theorem State.mapPrinters_tolerance (f : PrinterId → Printer → Printer) :
    (s.mapPrinters f).tolerance = s.tolerance := rfl
@[simp] theorem State.mapPrinters_limits (f : PrinterId → Printer → Printer) :
    (s.mapPrinters f).limits = s.limits := rfl
@[simp] theorem State.mapPrinters_pending (f : PrinterId → Printer → Printer) :
    (s.mapPrinters f).pending = s.pending := rfl

/-! ## modShift -/

@[simp] theorem State.modShift_phase (w : Window) (f : Shift → Shift) :
    (s.modShift w f).phase = s.phase := rfl
@[simp] theorem State.modShift_resetPin (w : Window) (f : Shift → Shift) :
    (s.modShift w f).resetPin = s.resetPin := rfl
@[simp] theorem State.modShift_lastStart (w : Window) (f : Shift → Shift) :
    (s.modShift w f).lastStart = s.lastStart := rfl
@[simp] theorem State.modShift_speed (w : Window) (f : Shift → Shift) :
    (s.modShift w f).speed = s.speed := rfl
@[simp] theorem State.modShift_clock (w : Window) (f : Shift → Shift) :
    (s.modShift w f).clock = s.clock := rfl
@[simp] theorem State.modShift_clockUnset (w : Window) (f : Shift → Shift) :
    (s.modShift w f).clockUnset = s.clockUnset := rfl
@[simp] theorem State.modShift_ports (w : Window) (f : Shift → Shift) :
    (s.modShift w f).ports = s.ports := rfl
@[simp] theorem State.modShift_svPort (w : Window) (f : Shift → Shift) :
    (s.modShift w f).svPort = s.svPort := rfl
@[simp] theorem State.modShift_cursor (w : Window) (f : Shift → Shift) :
    (s.modShift w f).cursor = s.cursor := rfl
@[simp] theorem State.modShift_packs (w : Window) (f : Shift → Shift) :
    (s.modShift w f).packs = s.packs := rfl
@[simp] theorem State.modShift_printers (w : Window) (f : Shift → Shift) :
    (s.modShift w f).printers = s.printers := rfl
@[simp] theorem State.modShift_jobs (w : Window) (f : Shift → Shift) :
    (s.modShift w f).jobs = s.jobs := rfl
@[simp] theorem State.modShift_spoils (w : Window) (f : Shift → Shift) :
    (s.modShift w f).spoils = s.spoils := rfl
@[simp] theorem State.modShift_concessions (w : Window) (f : Shift → Shift) :
    (s.modShift w f).concessions = s.concessions := rfl
@[simp] theorem State.modShift_splits (w : Window) (f : Shift → Shift) :
    (s.modShift w f).splits = s.splits := rfl
@[simp] theorem State.modShift_dayOpen (w : Window) (f : Shift → Shift) :
    (s.modShift w f).dayOpen = s.dayOpen := rfl
@[simp] theorem State.modShift_reports (w : Window) (f : Shift → Shift) :
    (s.modShift w f).reports = s.reports := rfl
@[simp] theorem State.modShift_reserved (w : Window) (f : Shift → Shift) :
    (s.modShift w f).reserved = s.reserved := rfl
@[simp] theorem State.modShift_counter (w : Window) (f : Shift → Shift) :
    (s.modShift w f).counter = s.counter := rfl
@[simp] theorem State.modShift_windowFlags (w : Window) (f : Shift → Shift) :
    (s.modShift w f).windowFlags = s.windowFlags := rfl
@[simp] theorem State.modShift_routing (w : Window) (f : Shift → Shift) :
    (s.modShift w f).routing = s.routing := rfl
@[simp] theorem State.modShift_alarmIn (w : Window) (f : Shift → Shift) :
    (s.modShift w f).alarmIn = s.alarmIn := rfl
@[simp] theorem State.modShift_silenced (w : Window) (f : Shift → Shift) :
    (s.modShift w f).silenced = s.silenced := rfl
@[simp] theorem State.modShift_alarm (w : Window) (f : Shift → Shift) :
    (s.modShift w f).alarm = s.alarm := rfl
@[simp] theorem State.modShift_fallback (w : Window) (f : Shift → Shift) :
    (s.modShift w f).fallback = s.fallback := rfl
@[simp] theorem State.modShift_tolerance (w : Window) (f : Shift → Shift) :
    (s.modShift w f).tolerance = s.tolerance := rfl
@[simp] theorem State.modShift_limits (w : Window) (f : Shift → Shift) :
    (s.modShift w f).limits = s.limits := rfl
@[simp] theorem State.modShift_pending (w : Window) (f : Shift → Shift) :
    (s.modShift w f).pending = s.pending := rfl

/-! ## mapShifts -/

@[simp] theorem State.mapShifts_phase (f : Window → Shift → Shift) :
    (s.mapShifts f).phase = s.phase := rfl
@[simp] theorem State.mapShifts_resetPin (f : Window → Shift → Shift) :
    (s.mapShifts f).resetPin = s.resetPin := rfl
@[simp] theorem State.mapShifts_lastStart (f : Window → Shift → Shift) :
    (s.mapShifts f).lastStart = s.lastStart := rfl
@[simp] theorem State.mapShifts_speed (f : Window → Shift → Shift) :
    (s.mapShifts f).speed = s.speed := rfl
@[simp] theorem State.mapShifts_clock (f : Window → Shift → Shift) :
    (s.mapShifts f).clock = s.clock := rfl
@[simp] theorem State.mapShifts_clockUnset (f : Window → Shift → Shift) :
    (s.mapShifts f).clockUnset = s.clockUnset := rfl
@[simp] theorem State.mapShifts_ports (f : Window → Shift → Shift) :
    (s.mapShifts f).ports = s.ports := rfl
@[simp] theorem State.mapShifts_svPort (f : Window → Shift → Shift) :
    (s.mapShifts f).svPort = s.svPort := rfl
@[simp] theorem State.mapShifts_cursor (f : Window → Shift → Shift) :
    (s.mapShifts f).cursor = s.cursor := rfl
@[simp] theorem State.mapShifts_packs (f : Window → Shift → Shift) :
    (s.mapShifts f).packs = s.packs := rfl
@[simp] theorem State.mapShifts_printers (f : Window → Shift → Shift) :
    (s.mapShifts f).printers = s.printers := rfl
@[simp] theorem State.mapShifts_jobs (f : Window → Shift → Shift) :
    (s.mapShifts f).jobs = s.jobs := rfl
@[simp] theorem State.mapShifts_spoils (f : Window → Shift → Shift) :
    (s.mapShifts f).spoils = s.spoils := rfl
@[simp] theorem State.mapShifts_concessions (f : Window → Shift → Shift) :
    (s.mapShifts f).concessions = s.concessions := rfl
@[simp] theorem State.mapShifts_splits (f : Window → Shift → Shift) :
    (s.mapShifts f).splits = s.splits := rfl
@[simp] theorem State.mapShifts_dayOpen (f : Window → Shift → Shift) :
    (s.mapShifts f).dayOpen = s.dayOpen := rfl
@[simp] theorem State.mapShifts_reports (f : Window → Shift → Shift) :
    (s.mapShifts f).reports = s.reports := rfl
@[simp] theorem State.mapShifts_reserved (f : Window → Shift → Shift) :
    (s.mapShifts f).reserved = s.reserved := rfl
@[simp] theorem State.mapShifts_counter (f : Window → Shift → Shift) :
    (s.mapShifts f).counter = s.counter := rfl
@[simp] theorem State.mapShifts_windowFlags (f : Window → Shift → Shift) :
    (s.mapShifts f).windowFlags = s.windowFlags := rfl
@[simp] theorem State.mapShifts_routing (f : Window → Shift → Shift) :
    (s.mapShifts f).routing = s.routing := rfl
@[simp] theorem State.mapShifts_alarmIn (f : Window → Shift → Shift) :
    (s.mapShifts f).alarmIn = s.alarmIn := rfl
@[simp] theorem State.mapShifts_silenced (f : Window → Shift → Shift) :
    (s.mapShifts f).silenced = s.silenced := rfl
@[simp] theorem State.mapShifts_alarm (f : Window → Shift → Shift) :
    (s.mapShifts f).alarm = s.alarm := rfl
@[simp] theorem State.mapShifts_fallback (f : Window → Shift → Shift) :
    (s.mapShifts f).fallback = s.fallback := rfl
@[simp] theorem State.mapShifts_tolerance (f : Window → Shift → Shift) :
    (s.mapShifts f).tolerance = s.tolerance := rfl
@[simp] theorem State.mapShifts_limits (f : Window → Shift → Shift) :
    (s.mapShifts f).limits = s.limits := rfl
@[simp] theorem State.mapShifts_pending (f : Window → Shift → Shift) :
    (s.mapShifts f).pending = s.pending := rfl

/-! ## modWindowFlags -/

@[simp] theorem State.modWindowFlags_phase (w : Window) (f : WindowFlags → WindowFlags) :
    (s.modWindowFlags w f).phase = s.phase := rfl
@[simp] theorem State.modWindowFlags_resetPin (w : Window) (f : WindowFlags → WindowFlags) :
    (s.modWindowFlags w f).resetPin = s.resetPin := rfl
@[simp] theorem State.modWindowFlags_lastStart (w : Window) (f : WindowFlags → WindowFlags) :
    (s.modWindowFlags w f).lastStart = s.lastStart := rfl
@[simp] theorem State.modWindowFlags_speed (w : Window) (f : WindowFlags → WindowFlags) :
    (s.modWindowFlags w f).speed = s.speed := rfl
@[simp] theorem State.modWindowFlags_clock (w : Window) (f : WindowFlags → WindowFlags) :
    (s.modWindowFlags w f).clock = s.clock := rfl
@[simp] theorem State.modWindowFlags_clockUnset (w : Window) (f : WindowFlags → WindowFlags) :
    (s.modWindowFlags w f).clockUnset = s.clockUnset := rfl
@[simp] theorem State.modWindowFlags_ports (w : Window) (f : WindowFlags → WindowFlags) :
    (s.modWindowFlags w f).ports = s.ports := rfl
@[simp] theorem State.modWindowFlags_svPort (w : Window) (f : WindowFlags → WindowFlags) :
    (s.modWindowFlags w f).svPort = s.svPort := rfl
@[simp] theorem State.modWindowFlags_cursor (w : Window) (f : WindowFlags → WindowFlags) :
    (s.modWindowFlags w f).cursor = s.cursor := rfl
@[simp] theorem State.modWindowFlags_packs (w : Window) (f : WindowFlags → WindowFlags) :
    (s.modWindowFlags w f).packs = s.packs := rfl
@[simp] theorem State.modWindowFlags_printers (w : Window) (f : WindowFlags → WindowFlags) :
    (s.modWindowFlags w f).printers = s.printers := rfl
@[simp] theorem State.modWindowFlags_jobs (w : Window) (f : WindowFlags → WindowFlags) :
    (s.modWindowFlags w f).jobs = s.jobs := rfl
@[simp] theorem State.modWindowFlags_spoils (w : Window) (f : WindowFlags → WindowFlags) :
    (s.modWindowFlags w f).spoils = s.spoils := rfl
@[simp] theorem State.modWindowFlags_concessions (w : Window) (f : WindowFlags → WindowFlags) :
    (s.modWindowFlags w f).concessions = s.concessions := rfl
@[simp] theorem State.modWindowFlags_splits (w : Window) (f : WindowFlags → WindowFlags) :
    (s.modWindowFlags w f).splits = s.splits := rfl
@[simp] theorem State.modWindowFlags_shifts (w : Window) (f : WindowFlags → WindowFlags) :
    (s.modWindowFlags w f).shifts = s.shifts := rfl
@[simp] theorem State.modWindowFlags_dayOpen (w : Window) (f : WindowFlags → WindowFlags) :
    (s.modWindowFlags w f).dayOpen = s.dayOpen := rfl
@[simp] theorem State.modWindowFlags_reports (w : Window) (f : WindowFlags → WindowFlags) :
    (s.modWindowFlags w f).reports = s.reports := rfl
@[simp] theorem State.modWindowFlags_reserved (w : Window) (f : WindowFlags → WindowFlags) :
    (s.modWindowFlags w f).reserved = s.reserved := rfl
@[simp] theorem State.modWindowFlags_counter (w : Window) (f : WindowFlags → WindowFlags) :
    (s.modWindowFlags w f).counter = s.counter := rfl
@[simp] theorem State.modWindowFlags_routing (w : Window) (f : WindowFlags → WindowFlags) :
    (s.modWindowFlags w f).routing = s.routing := rfl
@[simp] theorem State.modWindowFlags_alarmIn (w : Window) (f : WindowFlags → WindowFlags) :
    (s.modWindowFlags w f).alarmIn = s.alarmIn := rfl
@[simp] theorem State.modWindowFlags_silenced (w : Window) (f : WindowFlags → WindowFlags) :
    (s.modWindowFlags w f).silenced = s.silenced := rfl
@[simp] theorem State.modWindowFlags_alarm (w : Window) (f : WindowFlags → WindowFlags) :
    (s.modWindowFlags w f).alarm = s.alarm := rfl
@[simp] theorem State.modWindowFlags_fallback (w : Window) (f : WindowFlags → WindowFlags) :
    (s.modWindowFlags w f).fallback = s.fallback := rfl
@[simp] theorem State.modWindowFlags_tolerance (w : Window) (f : WindowFlags → WindowFlags) :
    (s.modWindowFlags w f).tolerance = s.tolerance := rfl
@[simp] theorem State.modWindowFlags_limits (w : Window) (f : WindowFlags → WindowFlags) :
    (s.modWindowFlags w f).limits = s.limits := rfl
@[simp] theorem State.modWindowFlags_pending (w : Window) (f : WindowFlags → WindowFlags) :
    (s.modWindowFlags w f).pending = s.pending := rfl

/-! ## modPack -/

@[simp] theorem State.modPack_phase (id : Nat) (f : Pack → Pack) :
    (s.modPack id f).phase = s.phase := rfl
@[simp] theorem State.modPack_resetPin (id : Nat) (f : Pack → Pack) :
    (s.modPack id f).resetPin = s.resetPin := rfl
@[simp] theorem State.modPack_lastStart (id : Nat) (f : Pack → Pack) :
    (s.modPack id f).lastStart = s.lastStart := rfl
@[simp] theorem State.modPack_speed (id : Nat) (f : Pack → Pack) :
    (s.modPack id f).speed = s.speed := rfl
@[simp] theorem State.modPack_clock (id : Nat) (f : Pack → Pack) :
    (s.modPack id f).clock = s.clock := rfl
@[simp] theorem State.modPack_clockUnset (id : Nat) (f : Pack → Pack) :
    (s.modPack id f).clockUnset = s.clockUnset := rfl
@[simp] theorem State.modPack_ports (id : Nat) (f : Pack → Pack) :
    (s.modPack id f).ports = s.ports := rfl
@[simp] theorem State.modPack_svPort (id : Nat) (f : Pack → Pack) :
    (s.modPack id f).svPort = s.svPort := rfl
@[simp] theorem State.modPack_cursor (id : Nat) (f : Pack → Pack) :
    (s.modPack id f).cursor = s.cursor := rfl
@[simp] theorem State.modPack_printers (id : Nat) (f : Pack → Pack) :
    (s.modPack id f).printers = s.printers := rfl
@[simp] theorem State.modPack_jobs (id : Nat) (f : Pack → Pack) :
    (s.modPack id f).jobs = s.jobs := rfl
@[simp] theorem State.modPack_spoils (id : Nat) (f : Pack → Pack) :
    (s.modPack id f).spoils = s.spoils := rfl
@[simp] theorem State.modPack_concessions (id : Nat) (f : Pack → Pack) :
    (s.modPack id f).concessions = s.concessions := rfl
@[simp] theorem State.modPack_splits (id : Nat) (f : Pack → Pack) :
    (s.modPack id f).splits = s.splits := rfl
@[simp] theorem State.modPack_shifts (id : Nat) (f : Pack → Pack) :
    (s.modPack id f).shifts = s.shifts := rfl
@[simp] theorem State.modPack_dayOpen (id : Nat) (f : Pack → Pack) :
    (s.modPack id f).dayOpen = s.dayOpen := rfl
@[simp] theorem State.modPack_reports (id : Nat) (f : Pack → Pack) :
    (s.modPack id f).reports = s.reports := rfl
@[simp] theorem State.modPack_reserved (id : Nat) (f : Pack → Pack) :
    (s.modPack id f).reserved = s.reserved := rfl
@[simp] theorem State.modPack_counter (id : Nat) (f : Pack → Pack) :
    (s.modPack id f).counter = s.counter := rfl
@[simp] theorem State.modPack_windowFlags (id : Nat) (f : Pack → Pack) :
    (s.modPack id f).windowFlags = s.windowFlags := rfl
@[simp] theorem State.modPack_routing (id : Nat) (f : Pack → Pack) :
    (s.modPack id f).routing = s.routing := rfl
@[simp] theorem State.modPack_alarmIn (id : Nat) (f : Pack → Pack) :
    (s.modPack id f).alarmIn = s.alarmIn := rfl
@[simp] theorem State.modPack_silenced (id : Nat) (f : Pack → Pack) :
    (s.modPack id f).silenced = s.silenced := rfl
@[simp] theorem State.modPack_alarm (id : Nat) (f : Pack → Pack) :
    (s.modPack id f).alarm = s.alarm := rfl
@[simp] theorem State.modPack_fallback (id : Nat) (f : Pack → Pack) :
    (s.modPack id f).fallback = s.fallback := rfl
@[simp] theorem State.modPack_tolerance (id : Nat) (f : Pack → Pack) :
    (s.modPack id f).tolerance = s.tolerance := rfl
@[simp] theorem State.modPack_limits (id : Nat) (f : Pack → Pack) :
    (s.modPack id f).limits = s.limits := rfl
@[simp] theorem State.modPack_pending (id : Nat) (f : Pack → Pack) :
    (s.modPack id f).pending = s.pending := rfl

/-! ## modJob -/

@[simp] theorem State.modJob_phase (ref : JobRef) (f : Job → Job) :
    (s.modJob ref f).phase = s.phase := rfl
@[simp] theorem State.modJob_resetPin (ref : JobRef) (f : Job → Job) :
    (s.modJob ref f).resetPin = s.resetPin := rfl
@[simp] theorem State.modJob_lastStart (ref : JobRef) (f : Job → Job) :
    (s.modJob ref f).lastStart = s.lastStart := rfl
@[simp] theorem State.modJob_speed (ref : JobRef) (f : Job → Job) :
    (s.modJob ref f).speed = s.speed := rfl
@[simp] theorem State.modJob_clock (ref : JobRef) (f : Job → Job) :
    (s.modJob ref f).clock = s.clock := rfl
@[simp] theorem State.modJob_clockUnset (ref : JobRef) (f : Job → Job) :
    (s.modJob ref f).clockUnset = s.clockUnset := rfl
@[simp] theorem State.modJob_ports (ref : JobRef) (f : Job → Job) :
    (s.modJob ref f).ports = s.ports := rfl
@[simp] theorem State.modJob_svPort (ref : JobRef) (f : Job → Job) :
    (s.modJob ref f).svPort = s.svPort := rfl
@[simp] theorem State.modJob_cursor (ref : JobRef) (f : Job → Job) :
    (s.modJob ref f).cursor = s.cursor := rfl
@[simp] theorem State.modJob_packs (ref : JobRef) (f : Job → Job) :
    (s.modJob ref f).packs = s.packs := rfl
@[simp] theorem State.modJob_printers (ref : JobRef) (f : Job → Job) :
    (s.modJob ref f).printers = s.printers := rfl
@[simp] theorem State.modJob_spoils (ref : JobRef) (f : Job → Job) :
    (s.modJob ref f).spoils = s.spoils := rfl
@[simp] theorem State.modJob_concessions (ref : JobRef) (f : Job → Job) :
    (s.modJob ref f).concessions = s.concessions := rfl
@[simp] theorem State.modJob_splits (ref : JobRef) (f : Job → Job) :
    (s.modJob ref f).splits = s.splits := rfl
@[simp] theorem State.modJob_shifts (ref : JobRef) (f : Job → Job) :
    (s.modJob ref f).shifts = s.shifts := rfl
@[simp] theorem State.modJob_dayOpen (ref : JobRef) (f : Job → Job) :
    (s.modJob ref f).dayOpen = s.dayOpen := rfl
@[simp] theorem State.modJob_reports (ref : JobRef) (f : Job → Job) :
    (s.modJob ref f).reports = s.reports := rfl
@[simp] theorem State.modJob_reserved (ref : JobRef) (f : Job → Job) :
    (s.modJob ref f).reserved = s.reserved := rfl
@[simp] theorem State.modJob_counter (ref : JobRef) (f : Job → Job) :
    (s.modJob ref f).counter = s.counter := rfl
@[simp] theorem State.modJob_windowFlags (ref : JobRef) (f : Job → Job) :
    (s.modJob ref f).windowFlags = s.windowFlags := rfl
@[simp] theorem State.modJob_routing (ref : JobRef) (f : Job → Job) :
    (s.modJob ref f).routing = s.routing := rfl
@[simp] theorem State.modJob_alarmIn (ref : JobRef) (f : Job → Job) :
    (s.modJob ref f).alarmIn = s.alarmIn := rfl
@[simp] theorem State.modJob_silenced (ref : JobRef) (f : Job → Job) :
    (s.modJob ref f).silenced = s.silenced := rfl
@[simp] theorem State.modJob_alarm (ref : JobRef) (f : Job → Job) :
    (s.modJob ref f).alarm = s.alarm := rfl
@[simp] theorem State.modJob_fallback (ref : JobRef) (f : Job → Job) :
    (s.modJob ref f).fallback = s.fallback := rfl
@[simp] theorem State.modJob_tolerance (ref : JobRef) (f : Job → Job) :
    (s.modJob ref f).tolerance = s.tolerance := rfl
@[simp] theorem State.modJob_limits (ref : JobRef) (f : Job → Job) :
    (s.modJob ref f).limits = s.limits := rfl
@[simp] theorem State.modJob_pending (ref : JobRef) (f : Job → Job) :
    (s.modJob ref f).pending = s.pending := rfl

/-! ## What an update writes -/

@[simp] theorem State.modPort_window_svPort (w : Window) (f : PortRecord → PortRecord) :
    (s.modPort (.window w) f).svPort = s.svPort := rfl
@[simp] theorem State.modPort_supervisor_ports (f : PortRecord → PortRecord) :
    (s.modPort .supervisor f).ports = s.ports := rfl
@[simp] theorem State.send_window_svPort (w : Window) (fs : List Frame) :
    (s.send (.window w) fs).svPort = s.svPort := rfl
@[simp] theorem State.send_supervisor_ports (fs : List Frame) :
    (s.send .supervisor fs).ports = s.ports := rfl

theorem vecGet_set {α : Type} {n : Nat} (v : Vector α n) (i j : Fin n) (a : α) :
    (v.set i a)[j] = if j = i then a else v[j] := by
  show (v.set i.val a)[j.val] = _
  rw [Vector.getElem_set]
  simp only [Fin.ext_iff, eq_comm]
  rfl

theorem vecGet_ofFn {α : Type} {n : Nat} (f : Fin n → α) (j : Fin n) :
    (Vector.ofFn f)[j] = f j := by
  show (Vector.ofFn f)[j.val] = _
  simp

theorem vecGet_map {α β : Type} {n : Nat} (f : α → β) (v : Vector α n) (j : Fin n) :
    (v.map f)[j] = f v[j] := by
  show (v.map f)[j.val] = _
  simp

theorem State.modPrinter_get (p q : PrinterId) (f : Printer → Printer) :
    (s.modPrinter p f).printers[q] = if q = p then f s.printers[p] else s.printers[q] :=
  vecGet_set _ _ _ _

theorem State.mapPrinters_get (q : PrinterId) (f : PrinterId → Printer → Printer) :
    (s.mapPrinters f).printers[q] = f q s.printers[q] :=
  vecGet_ofFn _ _

theorem State.modShift_get (w x : Window) (f : Shift → Shift) :
    (s.modShift w f).shifts[x] = if x = w then f s.shifts[w] else s.shifts[x] :=
  vecGet_set _ _ _ _

theorem State.mapShifts_get (x : Window) (f : Window → Shift → Shift) :
    (s.mapShifts f).shifts[x] = f x s.shifts[x] :=
  vecGet_ofFn _ _

theorem State.modWindowFlags_get (w x : Window) (f : WindowFlags → WindowFlags) :
    (s.modWindowFlags w f).windowFlags[x] = if x = w then f s.windowFlags[w] else s.windowFlags[x] :=
  vecGet_set _ _ _ _

theorem State.modPort_window_get (w x : Window) (f : PortRecord → PortRecord) :
    (s.modPort (.window w) f).ports[x] = if x = w then f s.ports[w] else s.ports[x] :=
  vecGet_set _ _ _ _

theorem State.modPort_port (port : Port) (f : PortRecord → PortRecord) :
    (s.modPort port f).port port = f (s.port port) := by
  cases port with
  | window w => simpa [State.port] using s.modPort_window_get w w f
  | supervisor => rfl

theorem State.modPort_port_ne {a b : Port} (h : b ≠ a) (f : PortRecord → PortRecord) :
    (s.modPort a f).port b = s.port b := by
  cases a <;> cases b <;> simp_all [State.port, State.modPort]
  rename_i w x
  exact (vecGet_set _ _ _ _).trans (if_neg h)

theorem State.sendWindows_get (x : Window) (fs : Window → List Frame) :
    (s.sendWindows fs).ports[x] = s.ports[x].push (fs x) :=
  vecGet_ofFn _ _

end Sys2Proof.Machine
end

