-- ==== Sys2Proof/Laws/Bookkeeping.lean ====
section
/-!
SUPPORT. What the bookkeeping at the end of a step can do: it leaves `State.bare` alone, it only appends
frames, and it moves a shift from DRAINING to COUNTING at most.
-/

namespace Sys2Proof.Machine

variable (s : State)

/-! ## `bare` under the named updates -/

theorem vector_ext_get {α : Type} {n : Nat} {u v : Vector α n} (h : ∀ i : Fin n, u[i] = v[i]) : u = v :=
  Vector.ext fun i hi => h ⟨i, hi⟩

theorem vecMap_eq {α β : Type} {n : Nat} {u v : Vector α n} {f : α → β} (h : ∀ i : Fin n, f u[i] = f v[i]) :
    u.map f = v.map f :=
  vector_ext_get fun i => by simpa [vecGet_map] using h i

theorem State.bare_mapPrinters {f : PrinterId → Printer → Printer}
    (h : ∀ p, (f p s.printers[p]).bare = s.printers[p].bare) : (s.mapPrinters f).bare = s.bare := by
  have : (s.mapPrinters f).printers.map Printer.bare = s.printers.map Printer.bare :=
    vecMap_eq fun p => by rw [State.mapPrinters_get]; exact h p
  simp only [State.bare, State.mapPrinters] at this ⊢
  rw [this]

theorem State.bare_modPrinter {p : PrinterId} {f : Printer → Printer}
    (h : (f s.printers[p]).bare = s.printers[p].bare) : (s.modPrinter p f).bare = s.bare := by
  have : (s.modPrinter p f).printers.map Printer.bare = s.printers.map Printer.bare :=
    vecMap_eq fun q => by
      rw [State.modPrinter_get]
      split
      · subst_vars; exact h
      · rfl
  simp only [State.bare, State.modPrinter] at this ⊢
  rw [this]

theorem State.bare_mapShifts {f : Window → Shift → Shift}
    (h : ∀ w, (f w s.shifts[w]).bare = s.shifts[w].bare) : (s.mapShifts f).bare = s.bare := by
  have : (s.mapShifts f).shifts.map Shift.bare = s.shifts.map Shift.bare :=
    vecMap_eq fun w => by rw [State.mapShifts_get]; exact h w
  simp only [State.bare, State.mapShifts] at this ⊢
  rw [this]

theorem PortRecord.push_bare (r : PortRecord) (fs : List Frame) : (r.push fs).bare = r.bare := by
  unfold PortRecord.push; split <;> rfl

theorem State.bare_sendWindows (fs : Window → List Frame) : (s.sendWindows fs).bare = s.bare := by
  have : (s.sendWindows fs).ports.map PortRecord.bare = s.ports.map PortRecord.bare :=
    vecMap_eq fun w => by rw [State.sendWindows_get]; exact PortRecord.push_bare _ _
  simp only [State.bare, State.sendWindows] at this ⊢
  rw [this]

theorem State.bare_send (port : Port) (fs : List Frame) : (s.send port fs).bare = s.bare := by
  cases port with
  | supervisor =>
    simp only [State.send, State.modPort, State.bare, PortRecord.push_bare]
  | window w =>
    have : (s.send (.window w) fs).ports.map PortRecord.bare = s.ports.map PortRecord.bare :=
      vecMap_eq fun x => by
        show ((s.modPort (.window w) _).ports[x]).bare = _
        rw [State.modPort_window_get]
        split
        · subst_vars; exact PortRecord.push_bare _ _
        · rfl
    simp only [State.bare, State.send, State.modPort] at this ⊢
    rw [this]

@[simp] theorem State.bare_modWindowFlags (w : Window) (f : WindowFlags → WindowFlags) :
    (s.modWindowFlags w f).bare = s.bare := rfl

@[simp] theorem State.bare_modJob (ref : JobRef) (f : Job → Job) : (s.modJob ref f).bare = s.bare := rfl

/-! ## The parts of the housekeeping -/

theorem State.abandonTests_bare : s.abandonTests.bare = s.bare := by
  unfold State.abandonTests
  rw [State.bare_send]
  apply State.bare_mapPrinters
  intro p
  split <;> rfl

theorem State.clearHolders_bare : s.clearHolders.bare = s.bare := by
  unfold State.clearHolders
  apply State.bare_mapPrinters
  intro p
  split <;> rfl

theorem State.settleJobs_bare : s.settleJobs.bare = s.bare := by
  unfold State.settleJobs
  exact s.bare_sendWindows _

theorem State.drain_bare : s.drain.bare = s.bare := by
  unfold State.drain
  rw [State.bare_sendWindows]
  apply State.bare_mapShifts
  intro w
  split <;> rfl

theorem State.pauseTimers_bare : s.pauseTimers.bare = s.bare := by
  unfold State.pauseTimers
  apply State.bare_mapPrinters
  intro p
  rfl

theorem State.housekeep_bare : s.housekeep.bare = s.bare := by
  unfold State.housekeep
  rw [State.pauseTimers_bare, State.drain_bare, State.settleJobs_bare, State.clearHolders_bare,
    State.abandonTests_bare]

/-! ## The fault table -/

/-- `t` is `s` but for the fault table, the silencing and frames sent to window ports. -/
def State.TableStep (s t : State) : Prop :=
  ∃ (rs : List Report) (rv : Option Report) (n : Nat) (b : Bool) (fs : Window → List Frame),
    t = { s.sendWindows fs with reports := rs, reserved := rv, counter := n, silenced := b }

theorem State.announce_step (r : Report) (rs : List Report) (rv : Option Report) (n : Nat) :
    s.TableStep (({ s with reports := rs, reserved := rv, counter := n } : State).announce r) :=
  ⟨rs, rv, n, _, _, rfl⟩

theorem State.createReport_step (o : Occurrence) (rs : List Report) :
    s.TableStep (({ s with reports := rs } : State).createReport o) := by
  unfold State.createReport
  exact s.announce_step _ _ _ _

theorem State.coalesceReport_step (r : Report) (o : Occurrence) : s.TableStep (s.coalesceReport r o) := by
  unfold State.coalesceReport
  exact s.announce_step _ _ _ _

theorem State.foldReport_step (o : Occurrence) : s.TableStep (s.foldReport o) := by
  unfold State.foldReport
  dsimp only
  split
  · split
    · exact s.announce_step _ _ _ _
    · exact s.announce_step _ _ _ _
  · exact s.announce_step _ _ _ _

/-- One occurrence writes the fault table, the silencing and window frames, nothing else. -/
theorem State.raise_step (o : Occurrence) : s.TableStep (s.raise o) := by
  unfold State.raise
  split
  · exact s.coalesceReport_step _ _
  · split
    · exact s.createReport_step _ _
    · split
      · exact s.createReport_step _ _
      · split
        · exact s.createReport_step _ _
        · exact s.foldReport_step _

theorem State.TableStep.bare {s t : State} (h : s.TableStep t) : t.bare = s.bare := by
  obtain ⟨rs, rv, n, b, fs, rfl⟩ := h
  exact s.bare_sendWindows fs

theorem State.TableStep.kept {s t : State} (h : s.TableStep t) :
    t.printers = s.printers ∧ t.jobs = s.jobs ∧ t.shifts = s.shifts ∧ t.svPort = s.svPort
      ∧ t.windowFlags = s.windowFlags ∧ t.alarm = s.alarm := by
  obtain ⟨rs, rv, n, b, fs, rfl⟩ := h
  exact ⟨rfl, rfl, rfl, rfl, rfl, rfl⟩

theorem State.raise_bare (o : Occurrence) : (s.raise o).bare = s.bare := (s.raise_step o).bare

theorem State.raiseAll_bare (os : List Occurrence) : (s.raiseAll os).bare = s.bare := by
  unfold State.raiseAll
  induction os generalizing s with
  | nil => rfl
  | cons o os ih => exact (ih _).trans (s.raise_bare o)

/-- Occurrences leave printers, jobs, shifts, the supervisor port, change flags and ALARM alone. -/
theorem State.raiseAll_kept (os : List Occurrence) :
    (s.raiseAll os).printers = s.printers ∧ (s.raiseAll os).jobs = s.jobs ∧ (s.raiseAll os).shifts = s.shifts
      ∧ (s.raiseAll os).svPort = s.svPort ∧ (s.raiseAll os).windowFlags = s.windowFlags
      ∧ (s.raiseAll os).alarm = s.alarm := by
  unfold State.raiseAll
  induction os generalizing s with
  | nil => exact ⟨rfl, rfl, rfl, rfl, rfl, rfl⟩
  | cons o os ih =>
    obtain ⟨a, b, c, d, e, f⟩ := (s.raise_step o).kept
    obtain ⟨a', b', c', d', e', f'⟩ := ih (s.raise o)
    exact ⟨a'.trans a, b'.trans b, c'.trans c, d'.trans d, e'.trans e, f'.trans f⟩

@[simp] theorem State.endConditions_bare (f : Source → Kind → Bool) : (s.endConditions f).bare = s.bare := by
  simp only [State.bare, State.endConditions]

@[simp] theorem State.endCondition_bare (a : Source) (k : Kind) : (s.endCondition a k).bare = s.bare := by
  simp only [State.bare, State.endCondition]

theorem State.changeFlags_bare (before : State) : (s.changeFlags before).bare = s.bare := by
  unfold State.changeFlags
  refine Eq.trans (b := (s.mapPrinters fun p pr => { pr with flags := s.printerFlags before p }).bare) ?_
    (s.bare_mapPrinters fun p => rfl)
  simp only [State.bare]

theorem State.outputs_bare : s.outputs.bare = s.bare := by
  unfold State.outputs
  refine Eq.trans (b := (s.mapPrinters fun p pr => { pr with lamp := pr.lamp.show (s.lampLaw p) }).bare) ?_
    (s.bare_mapPrinters fun p => rfl)
  simp only [State.bare]

/-- The end of a step leaves everything but the bookkeeping as it is. -/
theorem State.commit_bare (before : State) (told : List Occurrence) : (s.commit before told).bare = s.bare := by
  unfold State.commit
  rw [State.outputs_bare, State.changeFlags_bare, State.raiseAll_bare, State.endConditions_bare,
    State.housekeep_bare]

/-! ## Reading a field through `bare` -/

theorem State.eq_of_bare {s t : State} (h : t.bare = s.bare) :
    t.phase = s.phase ∧ t.resetPin = s.resetPin ∧ t.lastStart = s.lastStart ∧ t.speed = s.speed
      ∧ t.clock = s.clock ∧ t.clockUnset = s.clockUnset ∧ t.cursor = s.cursor ∧ t.packs = s.packs
      ∧ t.spoils = s.spoils ∧ t.concessions = s.concessions ∧ t.splits = s.splits ∧ t.dayOpen = s.dayOpen
      ∧ t.routing = s.routing ∧ t.alarmIn = s.alarmIn ∧ t.fallback = s.fallback ∧ t.tolerance = s.tolerance
      ∧ t.limits = s.limits ∧ t.pending = s.pending :=
  ⟨congrArg (·.phase) h, congrArg (·.resetPin) h, congrArg (·.lastStart) h, congrArg (·.speed) h,
    congrArg (·.clock) h, congrArg (·.clockUnset) h, congrArg (·.cursor) h, congrArg (·.packs) h,
    congrArg (·.spoils) h, congrArg (·.concessions) h, congrArg (·.splits) h, congrArg (·.dayOpen) h,
    congrArg (·.routing) h, congrArg (·.alarmIn) h, congrArg (·.fallback) h, congrArg (·.tolerance) h,
    congrArg (·.limits) h, congrArg (·.pending) h⟩

theorem State.printer_of_bare {s t : State} (h : t.bare = s.bare) (p : PrinterId) :
    (t.printers[p]).bare = (s.printers[p]).bare := by
  have := congrArg (fun u => u.printers[p]) h
  simpa [State.bare, vecGet_map] using this

theorem State.shift_of_bare {s t : State} (h : t.bare = s.bare) (w : Window) :
    (t.shifts[w]).bare = (s.shifts[w]).bare := by
  have := congrArg (fun u => u.shifts[w]) h
  simpa [State.bare, vecGet_map] using this

theorem State.port_of_bare {s t : State} (h : t.bare = s.bare) (port : Port) :
    (t.port port).bare = (s.port port).bare := by
  cases port with
  | supervisor => exact congrArg (·.svPort) h
  | window w =>
    have := congrArg (fun u => u.ports[w]) h
    simpa [State.port, State.bare, vecGet_map] using this

/-! ## Frames are only appended -/

/-- `b` is `a` with frames appended. -/
def PortRecord.Grows (a b : PortRecord) : Prop := ∃ more, b.tx = a.tx ++ more

theorem PortRecord.Grows.refl (a : PortRecord) : a.Grows a := ⟨[], by simp⟩

theorem PortRecord.Grows.trans {a b c : PortRecord} (h : a.Grows b) (k : b.Grows c) : a.Grows c := by
  obtain ⟨x, hx⟩ := h
  obtain ⟨y, hy⟩ := k
  exact ⟨x ++ y, by rw [hy, hx, List.append_assoc]⟩

theorem PortRecord.grows_push (a : PortRecord) (fs : List Frame) : a.Grows (a.push fs) := by
  unfold PortRecord.push
  split
  · exact ⟨fs, rfl⟩
  · exact .refl a

/-- Every port of `t` is the one of `s` with frames appended. -/
def State.PortsGrow (s t : State) : Prop := ∀ port, (s.port port).Grows (t.port port)

theorem State.PortsGrow.refl (s : State) : s.PortsGrow s := fun _ => .refl _

theorem State.PortsGrow.trans {a b c : State} (h : a.PortsGrow b) (k : b.PortsGrow c) : a.PortsGrow c :=
  fun port => (h port).trans (k port)

theorem State.PortsGrow.of_eq {s t : State} (h : t.ports = s.ports) (k : t.svPort = s.svPort) :
    s.PortsGrow t := by
  intro port
  cases port <;> simp only [State.port, h, k] <;> exact .refl _

theorem State.portsGrow_send (port : Port) (fs : List Frame) : s.PortsGrow (s.send port fs) := by
  intro q
  by_cases h : q = port
  · subst h
    unfold State.send
    rw [State.modPort_port]
    exact PortRecord.grows_push _ _
  · unfold State.send
    rw [State.modPort_port_ne s h]
    exact .refl _

theorem State.portsGrow_sendWindows (fs : Window → List Frame) : s.PortsGrow (s.sendWindows fs) := by
  intro q
  cases q with
  | window w =>
    show (s.ports[w]).Grows ((s.sendWindows fs).ports[w])
    rw [State.sendWindows_get]
    exact PortRecord.grows_push _ _
  | supervisor => exact .refl _

theorem State.TableStep.portsGrow {s t : State} (h : s.TableStep t) : s.PortsGrow t := by
  obtain ⟨rs, rv, n, b, fs, rfl⟩ := h
  exact (s.portsGrow_sendWindows fs).trans (.of_eq rfl rfl)

theorem State.portsGrow_raise (o : Occurrence) : s.PortsGrow (s.raise o) := (s.raise_step o).portsGrow

theorem State.portsGrow_raiseAll (os : List Occurrence) : s.PortsGrow (s.raiseAll os) := by
  unfold State.raiseAll
  induction os generalizing s with
  | nil => exact .refl s
  | cons o os ih => exact (s.portsGrow_raise o).trans (ih _)

theorem State.portsGrow_abandonTests : s.PortsGrow s.abandonTests := by
  unfold State.abandonTests
  exact State.PortsGrow.trans (.of_eq rfl rfl) (State.portsGrow_send _ _ _)

theorem State.portsGrow_clearHolders : s.PortsGrow s.clearHolders := .of_eq rfl rfl

theorem State.portsGrow_settleJobs : s.PortsGrow s.settleJobs := by
  unfold State.settleJobs
  exact (s.portsGrow_sendWindows _).trans (.of_eq rfl rfl)

theorem State.portsGrow_drain : s.PortsGrow s.drain := by
  unfold State.drain
  exact State.PortsGrow.trans (.of_eq rfl rfl) (State.portsGrow_sendWindows _ _)

theorem State.portsGrow_pauseTimers : s.PortsGrow s.pauseTimers := .of_eq rfl rfl

theorem State.portsGrow_housekeep : s.PortsGrow s.housekeep := by
  unfold State.housekeep
  exact s.portsGrow_abandonTests.trans ((State.portsGrow_clearHolders _).trans
    ((State.portsGrow_settleJobs _).trans ((State.portsGrow_drain _).trans (State.portsGrow_pauseTimers _))))

theorem State.portsGrow_endConditions (f : Source → Kind → Bool) : s.PortsGrow (s.endConditions f) :=
  .of_eq rfl rfl

theorem State.portsGrow_changeFlags (before : State) : s.PortsGrow (s.changeFlags before) := .of_eq rfl rfl

theorem State.portsGrow_outputs : s.PortsGrow s.outputs := .of_eq rfl rfl

/-- The end of a step only appends frames. -/
theorem State.portsGrow_commit (before : State) (told : List Occurrence) :
    s.PortsGrow (s.commit before told) := by
  unfold State.commit
  exact s.portsGrow_housekeep.trans ((State.portsGrow_endConditions _ _).trans
    ((State.portsGrow_raiseAll _ _).trans ((State.portsGrow_changeFlags _ _).trans (State.portsGrow_outputs _))))

/-! ## Shift states -/

/-- Shift states of `t` are those of `s`, but that DRAINING may have become COUNTING. -/
def State.ShiftsDrain (s t : State) : Prop :=
  ∀ w : Window, t.shifts[w].state = s.shifts[w].state
    ∨ (s.shifts[w].state = .draining ∧ t.shifts[w].state = .counting)

theorem State.outputs_kept : s.outputs.shifts = s.shifts ∧ s.outputs.jobs = s.jobs := ⟨rfl, rfl⟩

theorem State.changeFlags_kept (before : State) :
    (s.changeFlags before).shifts = s.shifts ∧ (s.changeFlags before).jobs = s.jobs := ⟨rfl, rfl⟩

theorem State.endConditions_kept (f : Source → Kind → Bool) :
    (s.endConditions f).shifts = s.shifts ∧ (s.endConditions f).jobs = s.jobs := ⟨rfl, rfl⟩

/-- Shifts and jobs after the end of a step are those the housekeeping leaves. -/
theorem State.commit_kept (before : State) (told : List Occurrence) :
    (s.commit before told).shifts = s.housekeep.shifts ∧ (s.commit before told).jobs = s.housekeep.jobs := by
  unfold State.commit
  rw [(State.outputs_kept _).1, (State.outputs_kept _).2, (State.changeFlags_kept _ _).1,
    (State.changeFlags_kept _ _).2, (State.raiseAll_kept _ _).2.1, (State.raiseAll_kept _ _).2.2.1,
    (State.endConditions_kept _ _).1, (State.endConditions_kept _ _).2]
  exact ⟨rfl, rfl⟩

theorem State.pauseTimers_kept : s.pauseTimers.shifts = s.shifts ∧ s.pauseTimers.jobs = s.jobs := ⟨rfl, rfl⟩

theorem State.settleJobs_shifts : s.settleJobs.shifts = s.shifts := rfl

theorem State.clearHolders_kept : s.clearHolders.shifts = s.shifts ∧ s.clearHolders.jobs = s.jobs := ⟨rfl, rfl⟩

theorem State.abandonTests_kept : s.abandonTests.shifts = s.shifts ∧ s.abandonTests.jobs = s.jobs := ⟨rfl, rfl⟩

theorem State.drain_jobs : s.drain.jobs = s.jobs := rfl

theorem State.drain_shifts (w : Window) :
    s.drain.shifts[w] = if s.drained w then { s.shifts[w] with state := .counting } else s.shifts[w] := by
  unfold State.drain
  exact (State.mapShifts_get _ _ _)

theorem State.drained_state {s : State} {w : Window} (h : s.drained w = true) :
    s.shifts[w].state = .draining ∧ s.liveJobs w = 0 := by
  unfold State.drained at h
  simpa using h

/-- The end of a step moves a shift from DRAINING to COUNTING at most. -/
theorem State.shiftsDrain_commit (before : State) (told : List Occurrence) :
    s.ShiftsDrain (s.commit before told) := by
  intro w
  rw [(s.commit_kept before told).1]
  unfold State.housekeep
  rw [(State.pauseTimers_kept _).1, State.drain_shifts]
  split
  · rename_i hd
    have := (State.drained_state hd).1
    rw [State.settleJobs_shifts, (State.clearHolders_kept _).1, (State.abandonTests_kept _).1] at this
    exact Or.inr ⟨this, rfl⟩
  · left
    rw [State.settleJobs_shifts, (State.clearHolders_kept _).1, (State.abandonTests_kept _).1]

end Sys2Proof.Machine
end

