-- ==== Sys2Proof/Laws/Commands.lean ====
section
/-!
SUPPORT. What taking a frame or an event can do: the four shells that every meaning stands in, case by case.
-/

namespace Sys2Proof.Machine

variable {s : State}

/-- The port of a frame that is decoded is attached and has a fresh receiver. -/
theorem State.sound_port (s : State) (port : Port) :
    (s.sound port).port port = { s.port port with rx := .fresh } :=
  s.modPort_port port _

/-- A frame that falls due right after a sound frame. -/
theorem State.sound_send {port : Port} (h : s.listens port = true) (f : Frame) :
    (s.sound port).send port [f] = s.answered port f := by
  unfold State.listens at h
  simp only [Bool.and_eq_true] at h
  cases port with
  | supervisor =>
    have ha : s.svPort.attached = true := h.2
    simp [State.sound, State.send, State.answered, State.modPort, PortRecord.push, ha]
  | window w =>
    have ha : (s.ports[w]).attached = true := h.2
    simp only [State.sound, State.send, State.answered, State.modPort]
    congr 1
    apply vector_ext_get
    intro x
    rw [vecGet_set, vecGet_set, vecGet_set, vecGet_set]
    by_cases hx : x = w
    · simp only [hx, if_true]
      unfold PortRecord.push
      rw [if_pos]
      exact ha
    · simp [hx]

/-- A window command on its port: what its own rule answers, or the code that refuses it. -/
theorem windowCommand_takes {kind : Byte} {lo hi : Nat} {w : Window} {tag : Tag} {body : List Byte}
    {act : Window → State → Except Code State} (h : s.listens (.window w) = true) (hf : fits lo hi body = true) :
    windowCommand kind lo hi (.window w) tag body s act
      = .next ((s.sound (.window w)).answer (.window w) kind tag (act w (s.sound (.window w)))) := by
  unfold windowCommand
  rw [if_pos h]
  dsimp only
  rw [if_pos hf]

/-- A supervisor command on its port: what its own rule answers, or the code that refuses it. -/
theorem supervisorCommand_takes {kind : Byte} {lo hi : Nat} {tag : Tag} {body : List Byte}
    {act : State → Except Code State} (h : s.listens .supervisor = true) (hf : fits lo hi body = true) :
    supervisorCommand kind lo hi .supervisor tag body s act
      = .next ((s.sound .supervisor).answer .supervisor kind tag (act (s.sound .supervisor))) := by
  unfold supervisorCommand
  rw [if_pos h]
  dsimp only
  rw [if_pos hf]

/-- A frame on a port that does not decode changes nothing. -/
theorem windowCommand_deaf {kind : Byte} {lo hi : Nat} {port : Port} {tag : Tag} {body : List Byte}
    {act : Window → State → Except Code State} (h : s.listens port = false) :
    windowCommand kind lo hi port tag body s act = .next s := by
  unfold windowCommand
  rw [if_neg (by simp [h])]

theorem supervisorCommand_deaf {kind : Byte} {lo hi : Nat} {port : Port} {tag : Tag} {body : List Byte}
    {act : State → Except Code State} (h : s.listens port = false) :
    supervisorCommand kind lo hi port tag body s act = .next s := by
  unfold supervisorCommand
  rw [if_neg (by simp [h])]

/-- A refused command changes nothing but that it is answered. -/
theorem State.answer_error {port : Port} {kind : Byte} {tag : Tag} {code : Code} (h : s.listens port = true) :
    (s.sound port).answer port kind tag (.error code) = s.answered port (refusedFrame code kind tag) := by
  unfold State.answer State.refuse
  exact State.sound_send h _

theorem State.answer_ok {port : Port} {kind : Byte} {tag : Tag} {t : State} :
    s.answer port kind tag (.ok t) = t := rfl

/-- A printer frame that is expected. -/
theorem printerFrame_takes {p : PrinterId} {n : Nat} {body : List Byte} {act : State → Option State} {t : State}
    (h : s.decodes p = true) (hl : body.length = n) (ha : act s = some t) :
    printerFrame p n body s act = .next t := by
  unfold printerFrame
  rw [if_pos h, if_pos hl, ha]
  rfl

/-- A printer frame that is not expected raises PROTOCOL. -/
theorem printerFrame_unexpected {p : PrinterId} {n : Nat} {body : List Byte} {act : State → Option State}
    (h : s.decodes p = true) (ha : body.length ≠ n ∨ act s = none) :
    printerFrame p n body s act = .next (s.protocol p) := by
  unfold printerFrame
  rw [if_pos h]
  rcases ha with hl | ha
  · rw [if_neg hl]
  · rw [ha]
    split <;> rfl

theorem printerFrame_deaf {p : PrinterId} {n : Nat} {body : List Byte} {act : State → Option State}
    (h : s.decodes p = false) : printerFrame p n body s act = .next s := by
  unfold printerFrame
  rw [if_neg (by simp [h])]

theorem event_occurs {b : Bool} {act : State → State} (hr : s.phase = .running) (h : b = true) :
    event s b act = .next (act s) := by
  unfold event State.running
  simp [hr, h]

theorem event_passes {b : Bool} {act : State → State} (h : s.phase ≠ .running ∨ b = false) :
    event s b act = .next s := by
  unfold event State.running
  rcases h with h | h <;> simp [h]

/-- A check that holds passes on. -/
theorem need_bind {b : Bool} {c : Code} {α : Type} {k : Unit → Except Code α} (h : b = true) :
    (need b c >>= k) = k () := by
  unfold need
  rw [if_pos h]
  rfl

theorem need_fails {b : Bool} {c : Code} {α : Type} {k : Unit → Except Code α} (h : b = false) :
    (need b c >>= k) = .error c := by
  unfold need
  rw [if_neg (by simp [h])]
  rfl

theorem want_bind {α β : Type} {o : Option α} {a : α} {c : Code} {k : α → Except Code β} (h : o = some a) :
    (want o c >>= k) = k a := by
  subst h
  rfl

theorem want_fails {α β : Type} {o : Option α} {c : Code} {k : α → Except Code β} (h : o = none) :
    (want o c >>= k) = .error c := by
  subst h
  rfl

/-- The part of an attached port that a command reads is not changed by the receiver's reset. -/
theorem State.sound_bare_fields (s : State) (port : Port) :
    (s.sound port).printers = s.printers ∧ (s.sound port).shifts = s.shifts ∧ (s.sound port).packs = s.packs
      ∧ (s.sound port).jobs = s.jobs ∧ (s.sound port).spoils = s.spoils := by
  cases port <;> exact ⟨rfl, rfl, rfl, rfl, rfl⟩

end Sys2Proof.Machine
end

