-- ==== Sys2Proof/Laws/Reports.lean ====
section
/-!
SUPPORT. What raising an occurrence can do to the fault table, and which occurrences a step's end raises.
-/

namespace Sys2Proof.Machine

variable (s : State)

theorem Report.coalesce_told (r : Report) (o : Occurrence) (now : Stamp) :
    (r.coalesce o now).source = r.source ∧ (r.coalesce o now).kind = r.kind
      ∧ (r.coalesce o now).number = r.number ∧ (r.coalesce o now).state = .opened :=
  ⟨rfl, rfl, rfl, rfl⟩

theorem Report.uncleared_iff {r : Report} {a : Source} {k : Kind} :
    r.uncleared a k = true ↔ r.source = a ∧ r.kind = k ∧ r.state ≠ .cleared := by
  simp [Report.uncleared, and_assoc]

/-- The reports of the table after one occurrence, case by case of R153, R156 and R157. -/
theorem State.raise_reports (o : Occurrence) :
    (∃ r, s.reports.find? (fun r => r.uncleared o.source o.kind) = some r
        ∧ (s.raise o).reports = s.reports.map fun x =>
            if x.uncleared o.source o.kind then x.coalesce o s.clock else x)
      ∨ (s.reports.find? (fun r => r.uncleared o.source o.kind) = none
          ∧ ∃ test : Report → Bool, (∀ r, test r = true → r.state ≠ .opened)
            ∧ (s.reports.length < Config.maxReports ∧ (s.raise o).reports
                  = s.reports ++ [Report.create s.counter o s.clock]
              ∨ s.reports.any test = true ∧ (s.raise o).reports
                  = s.reports.eraseP test ++ [Report.create s.counter o s.clock]))
      ∨ (s.reports.find? (fun r => r.uncleared o.source o.kind) = none
          ∧ (s.raise o).reports = s.reports ∧ ∃ r, (s.raise o).reserved = some r ∧ r.state = .opened) := by
  unfold State.raise
  split
  · rename_i r h
    exact Or.inl ⟨r, h, rfl⟩
  · rename_i h
    right
    split
    · rename_i hl
      exact Or.inl ⟨h, fun _ => false, by simp, Or.inl ⟨hl, rfl⟩⟩
    · split
      · rename_i hc
        refine Or.inl ⟨h, _, ?_, Or.inr ⟨hc, rfl⟩⟩
        intro r hr
        simp_all
      · split
        · rename_i hy
          refine Or.inl ⟨h, _, ?_, Or.inr ⟨hy, rfl⟩⟩
          intro r hr
          simp_all [Report.yieldsTo]
        · refine Or.inr ⟨h, ?_, ?_⟩
          · unfold State.foldReport
            dsimp only
            split
            · split <;> rfl
            · rfl
          · unfold State.foldReport
            dsimp only
            split
            · split
              · exact ⟨_, rfl, rfl⟩
              · exact ⟨_, rfl, rfl⟩
            · exact ⟨_, rfl, rfl⟩

/-- The reserved report, where an occurrence leaves the general reports able to take it, is not touched. -/
theorem State.raise_reserved (o : Occurrence) :
    (s.raise o).reserved = s.reserved ∨ ∃ r, (s.raise o).reserved = some r ∧ r.state = .opened := by
  unfold State.raise
  split
  · exact Or.inl rfl
  · split
    · exact Or.inl rfl
    · split
      · exact Or.inl rfl
      · split
        · exact Or.inl rfl
        · right
          unfold State.foldReport
          dsimp only
          split
          · split
            · exact ⟨_, rfl, rfl⟩
            · exact ⟨_, rfl, rfl⟩
          · exact ⟨_, rfl, rfl⟩

/-- An occurrence is taken. -/
theorem State.raise_told (o : Occurrence) : (s.raise o).Told o.source o.kind := by
  rcases s.raise_reports o with ⟨r, hf, h⟩ | ⟨-, test, -, ⟨-, h⟩ | ⟨-, h⟩⟩ | ⟨-, -, h⟩
  · left
    have hm := List.mem_of_find?_eq_some hf
    have hu : r.uncleared o.source o.kind = true := by simpa using List.find?_some hf
    refine ⟨r.coalesce o s.clock, ?_, ?_⟩
    · rw [h]
      exact List.mem_map.2 ⟨r, hm, by simp [hu]⟩
    · obtain ⟨a, b, -⟩ := Report.uncleared_iff.1 hu
      exact ⟨a, b, rfl⟩
  · exact Or.inl ⟨_, by rw [h]; exact List.mem_append_right _ (List.mem_singleton.2 rfl), rfl, rfl, rfl⟩
  · exact Or.inl ⟨_, by rw [h]; exact List.mem_append_right _ (List.mem_singleton.2 rfl), rfl, rfl, rfl⟩
  · exact Or.inr h

/-- An occurrence taken stays taken through further occurrences: no OPEN report is evicted (R156). -/
theorem State.raise_keeps_told (o : Occurrence) {a : Source} {k : Kind} (h : s.Told a k) :
    (s.raise o).Told a k := by
  rcases h with ⟨r, hm, hs, hk, ho⟩ | ⟨r, hr, ho⟩
  · left
    rcases s.raise_reports o with ⟨-, -, h⟩ | ⟨-, test, ht, ⟨-, h⟩ | ⟨-, h⟩⟩ | ⟨-, h, -⟩
    · refine ⟨_, by rw [h]; exact List.mem_map.2 ⟨r, hm, rfl⟩, ?_⟩
      split <;> exact ⟨hs, hk, by first | rfl | exact ho⟩
    · exact ⟨r, by rw [h]; exact List.mem_append_left _ hm, hs, hk, ho⟩
    · refine ⟨r, ?_, hs, hk, ho⟩
      rw [h]
      refine List.mem_append_left _ ((List.mem_eraseP_of_neg ?_).2 hm)
      intro hc
      exact ht r hc ho
    · exact ⟨r, by rw [h]; exact hm, hs, hk, ho⟩
  · right
    rcases s.raise_reserved o with h | h
    · exact ⟨r, by rw [h]; exact hr, ho⟩
    · exact h

theorem State.raiseAll_keeps_told (os : List Occurrence) {a : Source} {k : Kind} (h : s.Told a k) :
    (s.raiseAll os).Told a k := by
  unfold State.raiseAll
  induction os generalizing s with
  | nil => exact h
  | cons o os ih => exact ih _ (s.raise_keeps_told o h)

/-- Every occurrence of a list raised is taken. -/
theorem State.raiseAll_told (os : List Occurrence) {o : Occurrence} (h : o ∈ os) :
    (s.raiseAll os).Told o.source o.kind := by
  induction os generalizing s with
  | nil => cases h
  | cons x os ih =>
    rcases List.mem_cons.1 h with rfl | h
    · exact State.raiseAll_keeps_told (s.raise o) os (s.raise_told o)
    · exact ih (s.raise x) h

theorem State.told_outputs {a : Source} {k : Kind} (before : State) (h : s.Told a k) :
    ((s.changeFlags before).outputs).Told a k := by
  have hr : ((s.changeFlags before).outputs).reports = s.reports := by
    simp only [State.outputs, State.changeFlags, State.mapPrinters]
  have hv : ((s.changeFlags before).outputs).reserved = s.reserved := by
    simp only [State.outputs, State.changeFlags, State.mapPrinters]
  unfold State.Told
  rw [hr, hv]
  exact h

/-- The occurrences that a step's end raises. -/
theorem State.commit_told_of_mem {before : State} {told : List Occurrence} {o : Occurrence}
    (h : o ∈ told ++ s.housekeep.newLimits before ++ s.housekeep.newConditions before told) :
    (s.commit before told).Told o.source o.kind := by
  unfold State.commit
  exact State.told_outputs _ _ (State.raiseAll_told _ _ h)

/-- Every occurrence a command raises is taken by the end of its step. -/
theorem State.commit_told {before : State} {told : List Occurrence} {o : Occurrence} (h : o ∈ told) :
    (s.commit before told).Told o.source o.kind :=
  s.commit_told_of_mem (List.mem_append_left _ (List.mem_append_left _ h))

/-! ## Conditions -/

theorem State.loadedPack_of_bare {s t : State} (h : t.bare = s.bare) (p : PrinterId) :
    t.loadedPack p = s.loadedPack p := by
  have hp := congrArg (·.loaded) (State.printer_of_bare h p)
  have hk := (State.eq_of_bare h).2.2.2.2.2.2.2.1
  simp only [Printer.bare] at hp
  have hq : t.pack? = s.pack? := by
    funext id
    simp only [State.pack?, hk]
  simp only [State.loadedPack, hp, hq]

theorem State.packDisputed_of_bare {s t : State} (h : t.bare = s.bare) (id : Nat) :
    t.packDisputed id = s.packDisputed id := by
  unfold State.packDisputed
  congr 1
  funext w
  have := congrArg (·.entries) (State.shift_of_bare h w)
  simp only [Shift.bare] at this
  rw [this]

/-- Conditions follow what the bookkeeping leaves alone. -/
theorem State.conditionHolds_of_bare {s t : State} (h : t.bare = s.bare) (a : Source) (k : Kind) :
    t.conditionHolds a k = s.conditionHolds a k := by
  have hk := State.eq_of_bare h
  obtain ⟨-, -, -, -, -, -, -, hpk, hsp, -, -, -, -, hal, -, -, hl, -⟩ := hk
  have hd : ∀ id, t.packDisputed id = s.packDisputed id := State.packDisputed_of_bare h
  cases a with
  | printer p =>
    have hp := State.printer_of_bare h p
    have h1 := congrArg (·.link) hp
    have h2 := congrArg (·.conditions) hp
    have h3 := congrArg (·.stockHold) hp
    have h4 := congrArg (·.loaded) hp
    have h5 := State.loadedPack_of_bare h p
    simp only [Printer.bare] at h1 h2 h3 h4
    have h6 : t.packDisputed = s.packDisputed := funext hd
    cases k <;>
      simp only [State.conditionHolds, State.lowStock, State.exhausted, State.serialDispute, h1, h2, h3, h4,
        h5, h6, hl, hpk]
  | window w => cases k <;> rfl
  | office => cases k <;> simp only [State.conditionHolds, State.hold, hsp, hal]

/-- A condition that comes to hold is an occurrence, unless the command raises one itself. -/
theorem State.commit_condition {before : State} {told : List Occurrence} {a : Source} {k : Kind}
    (hm : (a, k) ∈ stateConditions) (hb : before.conditionHolds a k = false) (h : s.conditionHolds a k = true) :
    (s.commit before told).Told a k := by
  by_cases ht : ∃ o ∈ told, o.source = a ∧ o.kind = k
  · obtain ⟨o, ho, rfl, rfl⟩ := ht
    exact s.commit_told ho
  · have hn : (s.housekeep.conditionHolds a k) = true := by
      rw [State.conditionHolds_of_bare s.housekeep_bare]; exact h
    refine s.commit_told_of_mem (o := { source := a, kind := k }) (List.mem_append_right _ ?_)
    unfold State.newConditions
    refine List.mem_map.2 ⟨(a, k), List.mem_filter.2 ⟨hm, ?_⟩, rfl⟩
    simp only [hb, hn, Bool.not_false, Bool.true_and, Bool.not_eq_true', List.any_eq_false, Bool.and_eq_true,
      beq_iff_eq, not_and]
    intro o ho hs hk
    exact ht ⟨o, ho, hs, hk⟩

end Sys2Proof.Machine
end

