-- ==== Sys2Proof/Laws/Wire.lean ====
section
/-!
SUPPORT. Numbers, layouts and ticket bodies read back from the bytes they are sent as (R183).
-/

namespace Sys2Proof.Machine

@[simp] theorem be_length (width n : Nat) : (be width n).length = width := by
  induction width generalizing n with
  | zero => rfl
  | succ width ih => simp [be, ih]

theorem foldl_be (width n acc : Nat) :
    (be width n).foldl (fun n b => n * 256 + b.toNat) acc = acc * 256 ^ width + n % 256 ^ width := by
  induction width generalizing n acc with
  | zero => simp [be, Nat.mod_one]
  | succ width ih =>
    have hm : n % 256 ^ (width + 1) = n % 256 + 256 * (n / 256 % 256 ^ width) := by
      rw [Nat.pow_succ', Nat.mod_mul]
    have hp : acc * 256 ^ (width + 1) = acc * 256 ^ width * 256 := by rw [Nat.pow_succ, Nat.mul_assoc]
    rw [be, List.foldl_append, ih, List.foldl_cons, List.foldl_nil, BitVec.toNat_ofNat, hm, hp]
    omega

/-- A number sent in a field of a body is read back from it, modulo the field's range. -/
theorem num_be (before after : List Byte) (width n : Nat) :
    num (before ++ (be width n ++ after)) before.length width = n % 256 ^ width := by
  unfold num
  rw [List.drop_left, List.take_left' (be_length width n), foldl_be]
  simp

/-- A number sent in a field of a body is read back from it. -/
theorem num_be_of_lt {before after : List Byte} {off width n : Nat} (ho : before.length = off)
    (hn : n < 256 ^ width) : num (before ++ (be width n ++ after)) off width = n := by
  subst ho
  rw [num_be, Nat.mod_eq_of_lt hn]

/-- The first field of a body. -/
theorem num_be_head {after : List Byte} {width n : Nat} (hn : n < 256 ^ width) :
    num (be width n ++ after) 0 width = n :=
  num_be_of_lt (before := []) rfl hn

/-- The only field of a body. -/
theorem num_be_only {width n : Nat} (hn : n < 256 ^ width) : num (be width n) 0 width = n := by
  have := num_be_head (after := []) hn
  simpa using this

/-- The first number of a layout is the first number of a body that starts with it. -/
@[simp] theorem laid_be_append (width n : Nat) (fields : List (Nat × Nat)) (rest : List Byte) :
    Laid ((width, n) :: fields) (be width n ++ rest) ↔ Laid fields rest := by
  have hn : num (be width n ++ rest) 0 width = n % 256 ^ width := num_be [] rest width n
  have hd : (be width n ++ rest).drop width = rest := List.drop_left' (be_length width n)
  simp [Laid, hn, hd]

/-- A layout of one number. -/
@[simp] theorem laid_be (width n : Nat) : Laid [(width, n)] (be width n) := by
  have h := (laid_be_append width n [] []).2 rfl
  rwa [List.append_nil] at h

/-- Two layouts one after the other lay out their bodies one after the other. -/
theorem laid_append {f g : List (Nat × Nat)} {a b : List Byte} (hf : Laid f a) (hg : Laid g b) :
    Laid (f ++ g) (a ++ b) := by
  induction f generalizing a with
  | nil => cases (show a = [] from hf); exact hg
  | cons x f ih =>
    obtain ⟨hw, hn, hr⟩ := hf
    refine ⟨by rw [List.length_append]; omega, ?_, ?_⟩
    · rw [← hn, num, num, List.drop_zero, List.drop_zero, List.take_append_of_le_length hw]
    · rw [List.drop_append_of_le_length hw]; exact ih hr

theorem fieldBytes_cons (f : List Byte) (fs : List (List Byte)) :
    fieldBytes (f :: fs) = BitVec.ofNat 8 f.length :: (f ++ fieldBytes fs) := by
  simp [fieldBytes]

/-- The fields of a ticket body are read back from the bytes they are sent as. -/
theorem splitFields_fieldBytes (fs : List (List Byte)) (h : ∀ f ∈ fs, f.length < 256) :
    splitFields fs.length (fieldBytes fs) = some fs := by
  induction fs with
  | nil => rfl
  | cons f fs ih =>
    have hf : (BitVec.ofNat 8 f.length).toNat = f.length := by
      rw [BitVec.toNat_ofNat]
      exact Nat.mod_eq_of_lt (h f List.mem_cons_self)
    rw [fieldBytes_cons, List.length_cons, splitFields, hf, List.length_append, if_pos (Nat.le_add_right _ _),
      List.drop_left, List.take_left, ih fun g hg => h g (List.mem_cons_of_mem _ hg)]
    rfl

theorem bodyLength_eq (fs : List (List Byte)) : bodyLength fs = fs.length + (fs.map (·.length)).sum := by
  unfold bodyLength
  induction fs with
  | nil => rfl
  | cons f fs ih =>
    simp only [List.map_cons, List.sum_cons, List.length_cons]
    omega

/-- A ticket body within its limits is taken as it was sent. -/
theorem ticketBody_fieldBytes {fs : List (List Byte)} (h1 : 1 ≤ fs.length) (h12 : fs.length ≤ 12)
    (h40 : ∀ f ∈ fs, f.length ≤ 40) (h200 : bodyLength fs ≤ 200) :
    ticketBody fs.length (fieldBytes fs) = some fs := by
  unfold ticketBody
  rw [if_pos ⟨h1, h12⟩, splitFields_fieldBytes fs fun f hf => Nat.lt_of_le_of_lt (h40 f hf) (by decide)]
  have : (fs.all fun f => decide (f.length ≤ Config.maxFieldLength)) = true := by
    rw [List.all_eq_true]
    exact fun f hf => decide_eq_true (h40 f hf)
  exact if_pos ⟨this, h200⟩

end Sys2Proof.Machine
end

