-- ==== Sys2Proof/Laws/Settled.lean ====
section
/-!
SUPPORT. The end of a step, said once: what `State.commit` can do to the state a command left.
-/

namespace Sys2Proof.Machine

variable (s : State)

/-- An OPEN report stays OPEN in the table, under its number, through one occurrence. -/
theorem State.raise_keeps_open (o : Occurrence) {r : Report} (h : r ∈ s.reports) (ho : r.state = .opened) :
    ∃ r' ∈ (s.raise o).reports, r'.number = r.number ∧ r'.source = r.source ∧ r'.kind = r.kind
      ∧ r'.state = .opened := by
  rcases s.raise_reports o with ⟨_, _, hr⟩ | ⟨_, test, ht, ⟨_, hr⟩ | ⟨_, hr⟩⟩ | ⟨_, hr, _⟩
  · refine ⟨_, hr ▸ List.mem_map_of_mem h, ?_⟩
    split
    · exact ⟨rfl, rfl, rfl, rfl⟩
    · exact ⟨rfl, rfl, rfl, ho⟩
  · exact ⟨r, hr ▸ List.mem_append_left _ h, rfl, rfl, rfl, ho⟩
  · refine ⟨r, hr ▸ List.mem_append_left _ ?_, rfl, rfl, rfl, ho⟩
    refine (List.mem_eraseP_of_neg ?_).2 h
    intro hc
    exact ht r hc ho
  · exact ⟨r, hr ▸ h, rfl, rfl, rfl, ho⟩

theorem State.raiseAll_keeps_open (os : List Occurrence) {r : Report} (h : r ∈ s.reports) (ho : r.state = .opened) :
    ∃ r' ∈ (s.raiseAll os).reports, r'.number = r.number ∧ r'.source = r.source ∧ r'.kind = r.kind
      ∧ r'.state = .opened := by
  induction os generalizing s r with
  | nil => exact ⟨r, h, rfl, rfl, rfl, ho⟩
  | cons o os ih =>
    obtain ⟨r', hm, h1, h2, h3, h4⟩ := s.raise_keeps_open o h ho
    obtain ⟨r'', hm', k1, k2, k3, k4⟩ := ih (s.raise o) hm h4
    exact ⟨r'', hm', k1.trans h1, k2.trans h2, k3.trans h3, k4⟩

theorem State.endConditions_keeps_open (f : Source → Kind → Bool) {r : Report} (h : r ∈ s.reports)
    (ho : r.state = .opened) :
    ∃ r' ∈ (s.endConditions f).reports, r'.number = r.number ∧ r'.source = r.source ∧ r'.kind = r.kind
      ∧ r'.state = .opened := by
  refine ⟨_, List.mem_map_of_mem h, ?_⟩
  split
  · refine ⟨rfl, rfl, rfl, ?_⟩
    simp [Report.ended, ho]
  · exact ⟨rfl, rfl, rfl, ho⟩

/-! ## Raising beside the rest of the state -/

/-- `s` with the printers, jobs, shifts and supervisor port of another state. -/
def State.besides (s x : State) : State :=
  { s with printers := x.printers, jobs := x.jobs, shifts := x.shifts, svPort := x.svPort }

theorem State.coalesceReport_besides (x : State) (r : Report) (o : Occurrence) :
    (s.besides x).coalesceReport r o = (s.coalesceReport r o).besides x := rfl

theorem State.createReport_besides (x : State) (o : Occurrence) :
    (s.besides x).createReport o = (s.createReport o).besides x := rfl

theorem State.evictFor_besides (x : State) (o : Occurrence) (test : Report → Bool) :
    (s.besides x).evictFor o test = (s.evictFor o test).besides x := rfl

theorem State.foldReport_besides (x : State) (o : Occurrence) :
    (s.besides x).foldReport o = (s.foldReport o).besides x := by
  unfold State.foldReport
  rw [show (s.besides x).reserved = s.reserved from rfl]
  cases s.reserved with
  | none => rfl
  | some r => by_cases h : r.state = .opened <;> simp only [h, if_true, if_false] <;> rfl

/-- Raising reads and writes nothing of printers, jobs, shifts and the supervisor port. -/
theorem State.raise_besides (x : State) (o : Occurrence) : (s.besides x).raise o = (s.raise o).besides x := by
  unfold State.raise
  rw [show (s.besides x).reports = s.reports from rfl]
  split
  · rfl
  · split
    · rfl
    · split
      · rfl
      · split
        · rfl
        · exact s.foldReport_besides x o

theorem State.raiseAll_besides (x : State) (os : List Occurrence) :
    (s.besides x).raiseAll os = (s.raiseAll os).besides x := by
  unfold State.raiseAll
  induction os generalizing s with
  | nil => rfl
  | cons o os ih =>
    rw [List.foldl_cons, List.foldl_cons, s.raise_besides x o]
    exact ih (s.raise o)

theorem Shift.any_toList (v : Vector Shift 12) (f : Shift → Bool) :
    v.toList.any f = allWindows.any fun w => f v[w] := by
  have h : v.toList = allWindows.map fun w => v[w] := by
    rw [show allWindows = List.finRange 12 from by decide]
    exact List.ext_getElem (by simp) fun i h1 h2 => by simp
  rw [h, List.any_map]; rfl

theorem State.hold_eq : s.hold = decide (256 - s.spoils.length ≤ 24) := by
  unfold State.hold
  rw [decide_eq_decide]
  show 256 ≤ s.spoils.length + 24 ↔ 256 - s.spoils.length ≤ 24
  omega

/-- The conditions of the statements are those of the model. -/
theorem State.holds_eq (a : Source) (k : Kind) : s.holds a k = s.conditionHolds a k := by
  cases a with
  | printer p =>
    cases k with
    | jabber => exact (beq_eq_decide _ _).symm
    | lowStock =>
      refine congrArg (fun f => (s.loadedPack p).any f) (funext fun k => ?_)
      rw [Bool.eq_iff_iff]
      simp [Pack.unused]
    | packExhausted =>
      refine congrArg (fun f => (s.loadedPack p).any f) (funext fun k => ?_)
      rw [Bool.eq_iff_iff]
      simp only [Pack.unused, beq_iff_eq, decide_eq_true_eq]
      omega
    | serialDispute =>
      simp only [State.holds, State.conditionHolds, State.serialDispute, Shift.any_toList]
      rfl
    | _ => rfl
  | window w => cases k <;> rfl
  | office =>
    cases k with
    | accountabilityHold => exact s.hold_eq.symm
    | _ => rfl
theorem conditionsInOrder_eq : conditionsInOrder = stateConditions := rfl

/-! ## The housekeeping -/

/-- Housekeeping leaves the fault table, the flags and the silencing as they are. -/
theorem State.housekeep_kept :
    s.housekeep.reports = s.reports ∧ s.housekeep.silenced = s.silenced
      ∧ s.housekeep.windowFlags = s.windowFlags ∧ s.housekeep.jobs = s.abandonTests.clearHolders.settleJobs.jobs := by
  refine ⟨?_, ?_, ?_, rfl⟩ <;>
    simp [State.housekeep, State.abandonTests, State.clearHolders, State.settleJobs, State.drain, State.pauseTimers,
      State.send, State.modPort, State.mapPrinters, State.mapShifts, State.sendWindows]

/-- A printer after abandoned tests and cleared holders. -/
theorem State.clearHolders_printer (p : PrinterId) :
    s.abandonTests.clearHolders.printers[p] =
      let q := if s.testAbandoned p then { s.printers[p] with test := none } else s.printers[p]
      if q.arbiter.holder.any (s.abandonTests.holderCleared p) then
        { q with arbiter := { q.arbiter with holder := none } }
      else q := by
  unfold State.clearHolders
  rw [State.mapPrinters_get]
  have : s.abandonTests.printers[p]
      = if s.testAbandoned p then { s.printers[p] with test := none } else s.printers[p] := by
    unfold State.abandonTests
    rw [State.send_printers, State.mapPrinters_get]
  rw [this]

theorem State.settleJobs_printers : s.settleJobs.printers = s.printers := rfl

theorem State.drain_printers : s.drain.printers = s.printers := rfl

theorem State.service_of_bare {s t : State} (h : t.bare = s.bare) (p : PrinterId) :
    t.printers[p].service = s.printers[p].service := by
  have := congrArg Printer.service (State.printer_of_bare h p)
  exact this

theorem State.tickets_of_bare {s t : State} (h : t.bare = s.bare) (p : PrinterId) :
    t.printers[p].tickets = s.printers[p].tickets := by
  have := congrArg Printer.tickets (State.printer_of_bare h p)
  exact this

theorem State.inFlight_of_bare {s t : State} (h : t.bare = s.bare) (ref : JobRef) :
    t.inFlight ref = s.inFlight ref := by
  simp only [State.inFlight, State.tickets_of_bare h]

theorem State.canServe_of_bare {s t : State} (h : t.bare = s.bare) (p : PrinterId) :
    t.canServe p = s.canServe p := by
  have hp := State.printer_of_bare h p
  have h1 := congrArg (·.link) hp
  have h2 := congrArg (·.range) hp
  have h3 := congrArg (·.unloadCheck) hp
  simp only [Printer.bare] at h1 h2 h3
  have h4 : t.hold = s.hold := by
    unfold State.hold
    rw [(State.eq_of_bare h).2.2.2.2.2.2.2.2.1]
  simp only [State.canServe, h1, h2, h3, h4, State.service_of_bare h, State.loadedPack_of_bare h]

theorem State.testAbandoned_eq (p : PrinterId) : s.testAbandoned p = (s.abandoned p).isSome := by
  unfold State.testAbandoned State.abandoned
  dsimp only
  cases s.printers[p].test with
  | none => rfl
  | some x =>
    rw [Option.any_some, Option.filter_some, s.hold_eq, bodyLength_eq]
    generalize (!x.sent && _) = b
    cases b <;> rfl

theorem State.abandoned_map {β : Type} (p : PrinterId) (f : TestPrint → β) :
    (if s.testAbandoned p then s.printers[p].test.map f else none) = (s.abandoned p).map f := by
  rw [s.testAbandoned_eq]
  unfold State.abandoned
  cases s.printers[p].test with
  | none => simp
  | some x =>
    simp only [Option.filter_some]
    split <;> simp

/-- R56: the holder that a printer's arbiter keeps. -/
theorem State.holder_filter (p : PrinterId) (h : s.abandonTests.bare = s.bare) (o : Option JobRef) :
    o.filter (fun ref => !s.abandonTests.holderCleared p ref)
      = o.filter fun ref => s.canServe p && (s.job? ref).any fun j => j.state == .active && s.remaining j != 0 := by
  refine congrArg (fun f => o.filter f) (funext fun ref => ?_)
  have hj : s.abandonTests.job? ref = s.job? ref := rfl
  simp only [State.holderCleared, State.canServe_of_bare h, hj, Bool.not_or, Bool.not_not]
  cases s.job? ref with
  | none => rfl
  | some j =>
    simp only [State.remaining, State.inFlight_of_bare h, Bool.not_or, Option.any_some, bne, Bool.not_not]

theorem Printer.kept (q : Printer) (gone : JobRef → Bool) (abandoned : Bool) (limit : Nat) :
    (let q := if abandoned then { q with test := none } else q
     let q := if q.arbiter.holder.any gone then { q with arbiter := { q.arbiter with holder := none } } else q
     { q with pauseTimer := if q.pauseDue then some (q.pauseTimer.getD limit) else none }) = { q with
      test := if abandoned then none else q.test
      arbiter := { q.arbiter with holder := q.arbiter.holder.filter fun ref => !gone ref }
      pauseTimer := if q.pauseDue then some (q.pauseTimer.getD limit) else none } := by
  have he : ∀ a : Arbiter, a.holder = none → { a with holder := none } = a := by
    rintro ⟨_, _, _⟩ rfl; rfl
  cases hh : q.arbiter.holder with
  | none =>
    rw [Option.filter_none, he _ hh]
    cases abandoned <;> simp [hh, Printer.pauseDue]
  | some ref =>
    rw [Option.filter_some]
    cases hg : gone ref with
    | true => cases abandoned <;> simp [hh, hg, Printer.pauseDue]
    | false =>
      have hs : { q.arbiter with holder := some ref } = q.arbiter := by rw [← hh]
      cases abandoned <;> simp [hh, hg, hs, Printer.pauseDue]

/-- A printer after the housekeeping: its test, holder and pause timer may have changed, nothing else. -/
theorem State.housekeep_printer (p : PrinterId) :
    s.housekeep.printers[p] = { s.printers[p] with
      test := if (s.abandoned p).isSome then none else s.printers[p].test
      arbiter := { s.printers[p].arbiter with
        holder := s.printers[p].arbiter.holder.filter fun ref =>
          s.canServe p && (s.job? ref).any fun j => j.state == .active && s.remaining j != 0 }
      pauseTimer := if s.printers[p].pauseDue then some (s.printers[p].pauseTimer.getD s.limits.pause)
        else none } := by
  have hl : s.abandonTests.clearHolders.settleJobs.drain.limits = s.limits := by
    simp [State.abandonTests, State.clearHolders, State.settleJobs, State.drain]
  have hp : s.housekeep.printers[p] =
      let q := s.abandonTests.clearHolders.printers[p]
      { q with pauseTimer := if q.pauseDue then some (q.pauseTimer.getD s.limits.pause) else none } := by
    unfold State.housekeep
    conv_lhs => unfold State.pauseTimers
    rw [State.mapPrinters_get, hl, State.drain_printers, State.settleJobs_printers]
  rw [hp, State.clearHolders_printer, ← s.holder_filter p s.abandonTests_bare, s.testAbandoned_eq]
  exact Printer.kept _ _ _ _

theorem State.settleJobs_port (w : Window) :
    s.settleJobs.port (.window w) = (s.ports[w]).push
      ((s.jobs.filter (·.ref.window == w)).filterMap fun i => (s.jobRemoved i).map (jobEnd i)) := by
  unfold State.settleJobs State.sendWindows State.port
  dsimp only
  rw [vecGet_ofFn]

/-! ## The whole end of a step -/

/-- A step's state just before its change flags: housekeeping done, conditions ended, occurrences raised. -/
def State.raisedAt (s before : State) (told : List Occurrence) : State :=
  (s.housekeep.endConditions fun source kind =>
      before.conditionHolds source kind && !s.housekeep.conditionHolds source kind).raiseAll
    (told ++ s.housekeep.newLimits before ++ s.housekeep.newConditions before told)

theorem State.commit_eq (before : State) (told : List Occurrence) :
    s.commit before told = ((s.raisedAt before told).changeFlags before).outputs := rfl

theorem State.changeFlags_printer (before : State) (p : PrinterId) :
    (s.changeFlags before).printers[p] = { s.printers[p] with flags := s.printerFlags before p } := by
  unfold State.changeFlags State.mapPrinters
  dsimp only
  rw [vecGet_ofFn]

theorem State.outputs_printer (p : PrinterId) :
    s.outputs.printers[p] = { s.printers[p] with lamp := s.printers[p].lamp.show (s.lampLaw p) } := by
  unfold State.outputs State.mapPrinters
  dsimp only
  rw [vecGet_ofFn]

theorem State.outputs_lampLaw (p : PrinterId) : s.outputs.lampLaw p = s.lampLaw p := by
  unfold State.lampLaw
  rw [State.outputs_printer]
  simp only [State.running, State.printerInTrouble, State.outputs, State.mapPrinters]
  rfl

theorem State.outputs_alarm : s.outputs.alarm = s.outputs.alarmLaw := by
  simp only [State.outputs, State.alarmLaw, State.running, State.openCritical, State.allReports, State.mapPrinters]

theorem State.changeFlags_windowFlags (before : State) (w : Window) :
    (s.changeFlags before).outputs.windowFlags[w] = s.flagsOfWindow before w := by
  have : (s.changeFlags before).outputs.windowFlags = (s.changeFlags before).windowFlags := by
    simp only [State.outputs, State.mapPrinters]
  rw [this]
  unfold State.changeFlags
  dsimp only
  rw [vecGet_ofFn]

theorem State.raisedAt_bare (before : State) (told : List Occurrence) : (s.raisedAt before told).bare = s.bare := by
  unfold State.raisedAt
  rw [State.raiseAll_bare, State.endConditions_bare, State.housekeep_bare]

theorem State.raisedAt_printers (before : State) (told : List Occurrence) :
    (s.raisedAt before told).printers = s.housekeep.printers := by
  unfold State.raisedAt
  rw [(State.raiseAll_kept _ _).1]
  rfl

theorem State.raisedAt_windowFlags (before : State) (told : List Occurrence) :
    (s.raisedAt before told).windowFlags = s.windowFlags := by
  unfold State.raisedAt
  rw [(State.raiseAll_kept _ _).2.2.2.2.1]
  exact s.housekeep_kept.2.2.1

/-- A printer at the end of a step. -/
theorem State.commit_printer (before : State) (told : List Occurrence) (p : PrinterId) :
    (s.commit before told).printers[p] = { s.printers[p] with
      test := if (s.abandoned p).isSome then none else s.printers[p].test
      arbiter := { s.printers[p].arbiter with
        holder := s.printers[p].arbiter.holder.filter fun ref =>
          s.canServe p && (s.job? ref).any fun j => j.state == .active && s.remaining j != 0 }
      pauseTimer := if s.printers[p].pauseDue then some (s.printers[p].pauseTimer.getD s.limits.pause)
        else none
      flags := (s.raisedAt before told).printerFlags before p
      lamp := s.printers[p].lamp.show ((s.commit before told).lampLaw p) } := by
  rw [State.commit_eq, State.outputs_printer, State.outputs_lampLaw, State.changeFlags_printer,
    State.raisedAt_printers, s.housekeep_printer p]

/-- The arbiters while jobs are settled are those at the end of the step. -/
theorem State.commit_isHolder (before : State) (told : List Occurrence) (ref : JobRef) :
    s.abandonTests.clearHolders.isHolder ref = (s.commit before told).isHolder ref := by
  have h : ∀ p : PrinterId, s.abandonTests.clearHolders.printers[p].arbiter
      = (s.commit before told).printers[p].arbiter := by
    intro p
    rw [s.commit_printer before told p, s.clearHolders_printer, ← s.holder_filter p s.abandonTests_bare,
      s.testAbandoned_eq]
    have := congrArg (·.arbiter) (Printer.kept s.printers[p] (s.abandonTests.holderCleared p)
      (s.abandoned p).isSome s.limits.pause)
    exact this
  simp only [State.isHolder, h]

theorem State.clearHolders_limits : s.abandonTests.clearHolders.limits = s.limits := by
  simp [State.abandonTests, State.clearHolders]

/-- A job leaves as the statements say. -/
theorem State.jobRemoved_eq (before : State) (told : List Occurrence) (j : Job) :
    s.abandonTests.clearHolders.jobRemoved j = (s.commit before told).leaves j := by
  unfold State.jobRemoved State.leaves
  rw [s.commit_isHolder before told, State.inFlight_of_bare (s.abandonTests.clearHolders_bare.trans
    s.abandonTests_bare), State.inFlight_of_bare (s.commit_bare before told)]
  by_cases hf : s.inFlight j.ref = 0
  · cases hj : j.state with
    | queued => simp
    | active => simp [hf, and_comm]
    | ending e => cases e <;> simp only [hf, ne_eq, not_true_eq_false, if_true, if_false, Job.endOutcome] <;> split <;> rfl
  · cases hj : j.state <;> simp [hf]

/-- A job stays as the statements say. -/
theorem State.requeue_eq (before : State) (told : List Occurrence) (j : Job) :
    s.abandonTests.clearHolders.requeue j = s.requeued (s.commit before told) j := by
  unfold State.requeue State.requeued Job.enqueue
  rw [s.commit_isHolder before told, State.inFlight_of_bare (s.abandonTests.clearHolders_bare.trans
    s.abandonTests_bare), State.inFlight_of_bare (s.commit_bare before told), s.clearHolders_limits]
  simp

/-- The jobs at the end of a step. -/
theorem State.commit_jobs (before : State) (told : List Occurrence) :
    (s.commit before told).jobs
      = (s.jobs.filter fun j => ((s.commit before told).leaves j).isNone).map
          (s.requeued (s.commit before told)) := by
  rw [(s.commit_kept before told).2, s.housekeep_kept.2.2.2]
  show (s.jobs.filter fun j => (s.abandonTests.clearHolders.jobRemoved j).isNone).map
    s.abandonTests.clearHolders.requeue = _
  simp only [s.jobRemoved_eq before told, funext (s.requeue_eq before told)]

theorem State.commit_liveJobs (before : State) (told : List Occurrence) (w : Window) :
    s.abandonTests.clearHolders.settleJobs.liveJobs w = (s.commit before told).liveJobs w := by
  unfold State.liveJobs
  rw [(s.commit_kept before told).2, s.housekeep_kept.2.2.2]

theorem State.settleJobs_shifts_kept : s.abandonTests.clearHolders.settleJobs.shifts = s.shifts := by
  rw [State.settleJobs_shifts, (State.clearHolders_kept _).1, (State.abandonTests_kept _).1]

theorem State.drained_eq (before : State) (told : List Occurrence) (w : Window) :
    s.abandonTests.clearHolders.settleJobs.drained w = s.drains (s.commit before told) w := by
  unfold State.drained State.drains
  rw [s.commit_liveJobs before told, s.settleJobs_shifts_kept]

theorem State.commit_shifts (before : State) (told : List Occurrence) (w : Window) :
    (s.commit before told).shifts[w]
      = if s.drains (s.commit before told) w then { s.shifts[w] with state := .counting } else s.shifts[w] := by
  rw [(s.commit_kept before told).1]
  unfold State.housekeep
  rw [(State.pauseTimers_kept _).1, State.drain_shifts, s.drained_eq before told, s.settleJobs_shifts_kept]

/-! ## The fault table and the ports at the end of a step -/

theorem State.queryBody_congr {s t : State} {w : Window} (hs : t.shifts[w] = s.shifts[w]) (hj : t.jobs = s.jobs) :
    t.queryBody w = s.queryBody w := by
  unfold State.queryBody State.liveJobs
  rw [hs, hj]

theorem PortRecord.push_push (r : PortRecord) (a b : List Frame) : (r.push a).push b = r.push (a ++ b) := by
  unfold PortRecord.push
  cases h : r.attached <;> simp [h]

theorem State.housekeep_port (before : State) (told : List Occurrence) (w : Window) :
    s.housekeep.ports[w] = (State.unraised before s (s.commit before told)).ports[w] := by
  have hd : s.housekeep.ports[w] = (s.abandonTests.clearHolders.settleJobs.drain).ports[w] := rfl
  have hf : (s.commit before told).queryBody w
      = (s.abandonTests.clearHolders.settleJobs.mapShifts fun w h =>
          if s.abandonTests.clearHolders.settleJobs.drained w then { h with state := .counting } else h).queryBody w := by
    refine State.queryBody_congr ?_ ?_
    · rw [(s.commit_kept before told).1]; rfl
    · rw [(s.commit_kept before told).2]; rfl
  rw [hd]
  unfold State.drain State.unraised
  dsimp only
  rw [State.sendWindows_get, vecGet_ofFn, s.drained_eq before told]
  have hp : (s.abandonTests.clearHolders.settleJobs.mapShifts fun w h =>
      if s.abandonTests.clearHolders.settleJobs.drained w then { h with state := .counting } else h).ports[w]
      = s.abandonTests.clearHolders.settleJobs.port (.window w) := rfl
  rw [hp, State.settleJobs_port, PortRecord.push_push]
  refine congrArg₂ PortRecord.push rfl (congrArg₂ (· ++ ·) ?_ ?_)
  · rw [List.filterMap_filter]
    refine congrArg (fun f => List.filterMap f s.jobs) (funext fun j => ?_)
    rw [s.jobRemoved_eq before told]
    by_cases hw : j.ref.window = w
    · rw [if_pos hw, if_pos (beq_iff_eq.2 hw)]; rfl
    · rw [if_neg hw, if_neg (by simpa using hw)]
  · split
    · rw [hf]; rfl
    · rfl

/-- `x` is `s` but for its reports, window ports, printers, jobs, shifts and supervisor port. -/
def State.Besides (s x : State) : Prop :=
  x = ({ s with reports := x.reports, ports := x.ports } : State).besides x

theorem State.Besides.trans {s x y : State} (h : s.Besides x) (k : x.Besides y) : s.Besides y := by
  unfold State.Besides at h k ⊢
  refine k.trans ?_
  rw [h]
  rfl

theorem State.housekeep_besides : s.Besides s.housekeep := by
  have ha : s.Besides s.abandonTests := rfl
  have hc : ∀ x : State, x.Besides x.clearHolders := fun _ => rfl
  have hj : ∀ x : State, x.Besides x.settleJobs := fun _ => rfl
  have hd : ∀ x : State, x.Besides x.drain := fun _ => rfl
  have hp : ∀ x : State, x.Besides x.pauseTimers := fun _ => rfl
  exact ha.trans ((hc _).trans ((hj _).trans ((hd _).trans (hp _))))

theorem State.housekeep_ended (before : State) (told : List Occurrence) :
    (s.housekeep.endConditions fun source kind =>
        before.conditionHolds source kind && !s.housekeep.conditionHolds source kind)
      = (State.unraised before s (s.commit before told)).besides s.housekeep := by
  have hr : (s.housekeep.endConditions fun source kind =>
        before.conditionHolds source kind && !s.housekeep.conditionHolds source kind).reports
      = (State.unraised before s (s.commit before told)).reports := by
    unfold State.endConditions State.unraised
    dsimp only
    rw [s.housekeep_kept.1]
    refine congrArg (fun f => List.map f s.reports) (funext fun r => ?_)
    simp only [State.conditionHolds_of_bare s.housekeep_bare, State.holds_eq,
      State.conditionHolds_of_bare (s.commit_bare before told), Bool.and_eq_true, bne_iff_ne, Bool.not_eq_true']
    rfl
  have hp : s.housekeep.ports = (State.unraised before s (s.commit before told)).ports :=
    vector_ext_get fun w => s.housekeep_port before told w
  let f := fun rs ps => ({ s with reports := rs, ports := ps } : State).besides s.housekeep
  have hs : ∀ rs, ({ s.housekeep with reports := rs } : State) = f rs s.housekeep.ports := by
    intro rs
    have h := s.housekeep_besides
    unfold State.Besides at h
    exact (congrArg (fun x : State => ({ x with reports := rs } : State)) h).trans rfl
  exact (hs _).trans (congrArg₂ f hr hp)

/-- The occurrences that follow of themselves are those the statements name. -/
theorem State.arising_eq (before : State) (told : List Occurrence) :
    s.housekeep.newLimits before ++ s.housekeep.newConditions before told
      = before.arising (s.commit before told) told := by
  unfold State.newLimits State.newConditions State.arising
  rw [(s.commit_kept before told).1, conditionsInOrder_eq]
  refine congrArg (fun f => _ ++ List.map _ (List.filter f stateConditions)) (funext fun sk => ?_)
  rw [State.holds_eq, State.holds_eq, State.conditionHolds_of_bare s.housekeep_bare,
    State.conditionHolds_of_bare (s.commit_bare before told)]
  simp only [List.not_any_eq_all_not]

/-- The fault table and the window ports at the end of a step. -/
theorem State.raisedAt_eq (before : State) (told : List Occurrence) :
    s.raisedAt before told
      = ((State.unraised before s (s.commit before told)).raiseAll
          (told ++ before.arising (s.commit before told) told)).besides s.housekeep := by
  unfold State.raisedAt
  rw [s.housekeep_ended before told, List.append_assoc, s.arising_eq before told, State.raiseAll_besides]

theorem State.housekeep_svPort : s.housekeep.svPort = s.abandonTests.svPort := rfl

theorem State.abandonTests_svPort : s.abandonTests.svPort = s.svPort.push (allPrinters.filterMap fun p =>
    (s.abandoned p).map fun x => testDone x.tag p none .abandoned) := by
  simp only [State.abandonTests, State.abandoned_map]
  rfl

theorem State.commit_windowFlags (before : State) (told : List Occurrence) (w : Window) :
    (s.commit before told).windowFlags[w] = (s.raisedAt before told).flagsOfWindow before w := by
  rw [State.commit_eq]
  exact State.changeFlags_windowFlags _ _ _

theorem State.changeFlags_outputs_kept (before : State) :
    (s.changeFlags before).outputs.silenced = s.silenced ∧ (s.changeFlags before).outputs.reports = s.reports
      ∧ (s.changeFlags before).outputs.shifts = s.shifts ∧ (s.changeFlags before).outputs.ports = s.ports :=
  by simp only [State.outputs, State.changeFlags, State.mapPrinters, and_self]

theorem State.raise_silenced (o : Occurrence) (h : (s.raise o).silenced = true) : s.silenced = true := by
  revert h
  unfold State.raise
  split
  · simp only [State.coalesceReport, State.announce, Bool.and_eq_true]
    exact fun h => h.1
  · split
    · simp only [State.createReport, State.announce, Bool.and_eq_true]
      exact fun h => h.1
    · split
      · simp only [State.evictFor, State.createReport, State.announce, Bool.and_eq_true]
        exact fun h => h.1
      · split
        · simp only [State.evictFor, State.createReport, State.announce, Bool.and_eq_true]
          exact fun h => h.1
        · unfold State.foldReport
          dsimp only
          split
          · split
            · simp only [State.announce, Bool.and_eq_true]
              exact fun h => h.1
            · simp only [State.announce, Bool.and_eq_true]
              exact fun h => h.1
          · simp only [State.announce, Bool.and_eq_true]
            exact fun h => h.1

theorem State.raiseAll_silenced (os : List Occurrence) (h : (s.raiseAll os).silenced = true) :
    s.silenced = true := by
  induction os generalizing s with
  | nil => exact h
  | cons o os ih => exact s.raise_silenced o (ih (s.raise o) h)

theorem State.endConditions_silenced (f : Source → Kind → Bool) : (s.endConditions f).silenced = s.silenced := rfl

theorem State.commit_silenced (before : State) (told : List Occurrence) :
    (s.commit before told).silenced = true → s.silenced = true := by
  intro h
  rw [State.commit_eq, (State.changeFlags_outputs_kept _ _).1] at h
  have h := State.raiseAll_silenced _ _ h
  rw [State.endConditions_silenced, s.housekeep_kept.2.1] at h
  exact h

theorem State.commit_open (before : State) (told : List Occurrence) {r : Report} (h : r ∈ s.reports)
    (ho : r.state = .opened) :
    ∃ r' ∈ (s.commit before told).reports, r'.number = r.number ∧ r'.source = r.source ∧ r'.kind = r.kind
      ∧ r'.state = .opened := by
  rw [← s.housekeep_kept.1] at h
  obtain ⟨a, ha, a1, a2, a3, a4⟩ := s.housekeep.endConditions_keeps_open
    (fun source kind => before.conditionHolds source kind && !s.housekeep.conditionHolds source kind) h ho
  obtain ⟨b, hb, b1, b2, b3, b4⟩ := State.raiseAll_keeps_open _
    (told ++ s.housekeep.newLimits before ++ s.housekeep.newConditions before told) ha a4
  refine ⟨b, ?_, b1.trans a1, b2.trans a2, b3.trans a3, b4⟩
  rw [State.commit_eq, (State.changeFlags_outputs_kept _ _).2.1]
  exact hb

theorem State.changeFlags_outputs_table (before : State) :
    (s.changeFlags before).outputs.reserved = s.reserved ∧ (s.changeFlags before).outputs.counter = s.counter
      ∧ (s.changeFlags before).outputs.svPort = s.svPort := by
  simp only [State.outputs, State.changeFlags, State.mapPrinters, and_self]

/-- The end of a step does what the manual lets follow of itself, and nothing else. -/
theorem State.commit_settled (before : State) (told : List Occurrence) :
    State.Settled before s (s.commit before told) told where
  bare := s.commit_bare before told
  jobs := s.commit_jobs before told
  shifts := s.commit_shifts before told
  holders := fun p => by rw [s.commit_printer before told p]
  tests := fun p => by rw [s.commit_printer before told p]
  pauses := fun p => by rw [s.commit_printer before told p]; rfl
  supervisor := by
    rw [State.commit_eq, (State.changeFlags_outputs_table _ _).2.2]
    unfold State.raisedAt
    rw [(State.raiseAll_kept _ _).2.2.2.1]
    exact s.abandonTests_svPort
  table := by
    have hr := s.raisedAt_eq before told
    have h1 := State.changeFlags_outputs_kept (s.raisedAt before told) before
    have h2 := State.changeFlags_outputs_table (s.raisedAt before told) before
    rw [← State.commit_eq] at h1 h2
    exact ⟨h1.2.1.trans (congrArg (·.reports) hr), h2.1.trans (congrArg (·.reserved) hr),
      h2.2.1.trans (congrArg (·.counter) hr), h1.1.trans (congrArg (·.silenced) hr),
      h1.2.2.2.trans (congrArg (·.ports) hr)⟩
  printerFlags := by
    intro p
    have hv := State.raisedAt_printers s before told
    have hh := s.housekeep_printer p
    have hl : (s.commit before told).loadedPack p = (s.raisedAt before told).loadedPack p :=
      State.loadedPack_of_bare ((s.commit_bare before told).trans (s.raisedAt_bare before told).symm) p
    rw [hl]
    rw [s.commit_printer before told p]
    dsimp only
    simp only [State.printerFlags, State.stockChanged, hv, hh, Bool.or_eq_true, bne_iff_ne, ne_eq]
    refine ⟨trivial, ?_, trivial, trivial⟩
    rw [or_assoc, or_assoc]
    exact Iff.rfl
  windowFlags := by
    intro w
    have hs : (s.commit before told).shifts = (s.raisedAt before told).shifts := by
      rw [State.commit_eq, (State.changeFlags_outputs_kept _ _).2.2.1]
    have hp : (s.commit before told).port (.window w) = (s.raisedAt before told).port (.window w) := by
      unfold State.port
      rw [State.commit_eq, (State.changeFlags_outputs_kept _ _).2.2.2]
    rw [s.commit_windowFlags, hs, hp]
    simp only [State.flagsOfWindow, s.raisedAt_windowFlags, Bool.or_eq_true, bne_iff_ne, ne_eq,
      Bool.and_eq_true, Bool.not_eq_true']
    refine ⟨Iff.rfl, ?_⟩
    rw [or_assoc, or_assoc, or_assoc]
  alarm := by
    rw [State.commit_eq]
    exact State.outputs_alarm _
  lamps := fun p => by rw [s.commit_printer before told p]

/-- Taking a sound frame moves nothing that the end of a step is compared with. -/
theorem State.settled_sound {s u t : State} {told : List Occurrence} (port : Port) :
    State.Settled (s.sound port) u t told ↔ State.Settled s u t told := by
  have attached : ∀ w : Window, ((s.sound port).port (.window w)).attached = (s.port (.window w)).attached := by
    intro w
    cases port with
    | supervisor => rfl
    | window v =>
      by_cases hv : v = w
      · subst hv; rw [State.sound_port]
      · have hn : v.val ≠ w.val := fun h => hv (Fin.ext h)
        simp [State.sound, State.modPort, State.port, hn]
  have table : State.unraised (s.sound port) u t = State.unraised s u t := by cases port <;> rfl
  have arising : (s.sound port).arising t told = s.arising t told := by cases port <;> rfl
  constructor
  · rintro ⟨h1, h2, h3, h4, h5, h6, h7, h8, h9, h10, h11, h12⟩
    rw [table, arising] at h8
    refine ⟨h1, h2, h3, h4, h5, h6, h7, h8, ?_, fun w => ?_, h11, h12⟩
    · cases port <;> exact h9
    · have := h10 w
      rw [attached w] at this
      cases port <;> exact this
  · rintro ⟨h1, h2, h3, h4, h5, h6, h7, h8, h9, h10, h11, h12⟩
    rw [← table, ← arising] at h8
    refine ⟨h1, h2, h3, h4, h5, h6, h7, h8, ?_, fun w => ?_, h11, h12⟩
    · cases port <;> exact h9
    · have := h10 w
      rw [← attached w] at this
      cases port <;> exact this

end Sys2Proof.Machine
end

