-- ==== Sys2Proof/Tests/Slice0.lean ====
section
/-!
SUPPORT. The model's own tests: the smoke test of WellFormed, the worked figures of spec/ and the byte
layouts of section 9.8, small tests of single steps, and for every statement with hypotheses a state and
operands that meet them (`test_witness_…`).
-/

namespace Sys2Proof.Tests

open Sys2Proof.Machine

/-! ## States the tests start from -/

/-- The state that a command leaves. -/
def after (c : Instr) (s : State) : State :=
  match exec c s with
  | .next t => t
  | .fault _ => s
  | .refused _ => s

def open_ : PortRecord := { attached := true, rx := .fresh, tx := [] }

/-- The state after reset with every port ATTACHED. -/
def up : State := { State.reset with ports := Vector.replicate 12 open_, svPort := open_ }

/-- A pack of T0 loaded in P0, two of its hundred blanks issued. -/
def packOne : Pack :=
  { id := 1, stock := 0, first := 100, last := 199, next := 102, location := .loaded 0, loadCheck := none,
    compromisedAt := none, issued := 2, spoiled := 0, dayMark := 100, received := { time := 0, day := 0 } }

/-- A pack of T1 in the safe, untouched. -/
def packTwo : Pack :=
  { id := 2, stock := 1, first := 500, last := 599, next := 500, location := .safe, loadCheck := none,
    compromisedAt := none, issued := 0, spoiled := 0, dayMark := 500, received := { time := 0, day := 0 } }

def cap : Capability := { types := 15#4, maxBody := 120, staging := true, model := 7, basic := false }

/-- An UP printer with no pack and nothing outstanding. -/
def empty : Printer :=
  { Printer.start with link := .up, capability := some cap, lamp := { aspect := .on, lit := true, pulse := false } }

/-- The same with the pack of T0 loaded: READY. -/
def ready : Printer := { empty with loaded := some 1 }

/-- The entry of the two tickets issued. -/
def entryZero : Entry :=
  { allowance := .main, tag := 5, pack := 1, first := 100, count := 2, unit := 50, tender := .cash,
    concession := 0, split := 0, disputed := false, readSerial := none, writtenOff := false }

/-- An OPEN shift with two tickets of 50 taken in cash. -/
def shiftZero : Shift :=
  { Shift.empty with
    state := .opened, float := 5000, openedAt := some { time := 0, day := 0 },
    tenders := { cash := 100, card := 0, warrant := 0 }, heads := (Vector.replicate 8 0).set 0 100,
    tickets := 2, entries := [entryZero] }

/-- A job of W0 with tag 5, 2 of 4 tickets printed. -/
def job : Job :=
  { ref := { window := 0, tag := 5 }, target := none, stock := 0, concession := 0, split := 0, tender := .cash,
    baseFare := 50, unit := 50, quantity := 4, printed := 2, jamSpoiled := 0, state := .queued,
    fields := [[65#8, 66#8]], routePassed := false, current := none, lastEntry := some 0, charged := 100,
    jobWait := some 120, routeWait := some 45 }

/-- An office open for the day: P0 READY, P1 EMPTY, W0 OPEN with a job waiting. -/
def office : State :=
  { up with
    dayOpen := true, packs := [packOne, packTwo], jobs := [job]
    printers := ((Vector.replicate 8 Printer.start).set 0 ready).set 1 empty
    shifts := (Vector.replicate 12 Shift.empty).set 0 shiftZero }

/-- The ticket of serial `n` of the job. -/
def ticket (n : Nat) : Ticket := { owner := some job.ref, pack := 1, serial := n, reserved := n != 103 }

/-- The ticket of serial `n` of a test print. -/
def testTicket (n : Nat) : Ticket := { owner := none, pack := 1, serial := n, reserved := false }

/-- The office with another P0, its job and the pack's next serial as given. -/
def office.at (next : Nat) (state : JobState) (pr : Printer) : State :=
  { office with
    packs := [{ packOne with next := next }, packTwo], printers := office.printers.set 0 pr
    jobs := [{ job with state := state, current := if state = .active then some 0 else none,
                        jobWait := none, routeWait := none }] }

/-- P0 with its job's ticket of serial 102 in PRINTING and the next in STAGED. -/
def busy : Printer := { ready with printing := some (ticket 102), staged := some (ticket 103), printTimer := true }

/-- The office with P0 printing. -/
def printing : State := office.at 104 .active busy

/-! ## WellFormed refuses what no line carries -/

theorem test_body_too_long : (Instr.issue (.window 0) 0 (List.replicate 249 0)).wellFormed = false := by
  decide +kernel
theorem test_body_fits : (Instr.issue (.window 0) 0 (List.replicate 248 0)).wellFormed = true := by
  decide +kernel
theorem test_command_kind_is_known : (Instr.unknownKind (.window 0) 0x17#8 0).wellFormed = false := by decide
theorem test_kind_18_is_unknown : (Instr.unknownKind (.window 0) 0x18#8 0).wellFormed = true := by decide
theorem test_printer_kind_is_known : (Instr.printerUnknownKind 0 0x56#8).wellFormed = false := by decide
theorem test_start_is_no_bad_start : (Instr.frameError .supervisor (.badStart 0xA5#8)).wellFormed = false := by decide
theorem test_idle_is_no_bad_start : (Instr.printerFrameError 0 (.badStart 0x96#8)).wellFormed = false := by decide
theorem test_length_250_is_good : (Instr.frameError .supervisor (.badLength 250#8)).wellFormed = false := by decide
theorem test_length_251_is_bad : (Instr.frameError .supervisor (.badLength 251#8)).wellFormed = true := by decide
theorem test_true_check_is_no_fault :
    (Instr.frameError .supervisor (.badCheck 0x17#8 1#8 [] (checkOf [2, 0x17, 1]))).wellFormed = false := by decide +kernel
theorem test_ill_formed_stops : exec (.unknownKind .supervisor 0x20#8 0) up = .fault .illFormed := by rfl

/-! ## Figures and layouts of the specification -/

/-- R173: the check this generator and preset give for the bytes 31h to 39h is 29B1h, the figure the check is
known by. -/
theorem test_check : checkOf [0x31#8, 0x32, 0x33, 0x34, 0x35, 0x36, 0x37, 0x38, 0x39] = 0x29B1#16 := by decide +kernel

/-- Chapter 5, worked case: C4 and S2. -/
def concessionFour : Concession := { valid := true, discount := 21845, minimum := 300, step := 5 }
def splitTwo : Split := [⟨2, 39322⟩, ⟨5, 58982⟩, ⟨1, 65536⟩]
def splitFive : Split := [⟨0, 16384⟩, ⟨4, 49152⟩, ⟨4, 49152⟩, ⟨7, 65536⟩]
def splitSix : Split := [⟨3, 32768⟩, ⟨6, 65536⟩]

theorem test_unit_charge : unitCharge 2350 concessionFour = 1565 := by decide
theorem test_unit_charge_ties :
    (unitCharge 3 ⟨true, 32768, 0, 1⟩, unitCharge 1 ⟨true, 32768, 0, 1⟩, unitCharge 5 ⟨true, 32768, 0, 1⟩) = (1, 1, 3) := by
  decide
theorem test_unit_charge_ends :
    (unitCharge 20000 ⟨true, 65535, 500, 10⟩, unitCharge 1999999 ⟨true, 65535, 0, 10⟩,
      unitCharge 1300 ⟨true, 16384, 1237, 50⟩, unitCharge 180 ⟨true, 0, 300, 50⟩) = (500, 30, 1237, 180) := by decide
theorem test_apportion : apportion 1565 splitTwo = [(2, 939), (5, 469), (1, 157)] := by decide
theorem test_apportion_void : apportion (-5) splitFive = [(0, -1), (4, -3), (4, 0), (7, -1)] := by decide
theorem test_apportion_ties : (apportion 3 splitSix, apportion 1 splitSix) = ([(3, 2), (6, 1)], [(3, 0), (6, 1)]) := by
  decide

/-- R183: high byte first; two's complement; an absent field is FFh bytes. -/
theorem test_numbers : (be 3 0x123456, beInt 4 (-2), beOpt 3 none) = ([0x12, 0x34, 0x56], [0xFF, 0xFF, 0xFF, 0xFE],
    [0xFF, 0xFF, 0xFF]) := by decide +kernel

/-- Section 9.2: QUERY SHIFT's frame is a start, the length 2, the kind, the tag and the check. -/
theorem test_frame_line : (Frame.line { kind := 0x17, tag := 7, body := [] }).take 4 = [0xA5, 2, 0x17, 7] := by decide +kernel

/-- R46: two fields, AB and the empty one. -/
theorem test_ticket_body : ticketBody 2 [2, 65, 66, 0] = some [[65, 66], []] := by decide
theorem test_ticket_body_left_over : ticketBody 1 [2, 65, 66, 0] = none := by decide

/-! ## Single steps -/

/-- The last frame waiting on a port. -/
def said (port : Port) (s : State) : Option Frame := (s.port port).tx.getLast?

/-- R112: a float above 10,000,000 is held there, and ACCEPTED carries it as stored. -/
theorem test_open_shift :
    said (.window 1) (after (.openShift (.window 1) 9 (be 4 10000001)) office)
      = some { kind := 0x80, tag := 9, body := 0x10 :: be 4 10000000 } := by decide +kernel
theorem test_open_shift_day_closed :
    said (.window 1) (after (.openShift (.window 1) 9 (be 4 0)) up)
      = some { kind := 0x81, tag := 9, body := [5, 0x10] } := by decide

/-- R48, R49: three tickets at 50: the unit charge and the amount to collect. -/
theorem test_issue :
    said (.window 0) (after (.issue (.window 0) 6 (be 3 50 ++ [0, 0, 0, 3, 0, 1, 2, 65, 66])) office)
      = some { kind := 0x80, tag := 6, body := 0x11 :: be 3 50 ++ be 4 150 } := by decide +kernel
theorem test_issue_tag_in_use :
    said (.window 0) (after (.issue (.window 0) 5 (be 3 50 ++ [0, 0, 0, 3, 0, 1, 2, 65, 66])) office)
      = some { kind := 0x81, tag := 5, body := [6, 0x11] } := by decide

/-- R64, R66, R68: CANCEL of a job with nothing in flight removes it with JOB END CANCELLED. -/
theorem test_cancel :
    (after (.cancel (.window 0) 8 [5]) office).jobs = []
      ∧ said (.window 0) (after (.cancel (.window 0) 8 [5]) office)
        = some { kind := 0x83, tag := 5, body := 1 :: 2 :: be 2 0 ++ be 4 100 } := by decide

/-- R121, R122: the void of serial 101 takes back 50 from cash and from H0. -/
theorem test_void :
    let t := after (.void (.window 0) 8 (0 :: be 3 101)) office
    t.shifts[(0 : Window)].tenders.cash = 50 ∧ t.shifts[(0 : Window)].heads[(0 : Head)] = 50 := by decide
theorem test_refund :
    (after (.refund (.window 0) 8 (be 3 30 ++ [1, 0])) office).shifts[(0 : Window)].tenders.card = -30 := by decide

/-- R130, R132: CLOSE SHIFT with its one job idle ends the job and leaves the shift COUNTING. -/
theorem test_close_shift :
    let t := after (.closeShift (.window 0) 8 []) office
    t.jobs = [] ∧ t.shifts[(0 : Window)].state = .counting := by decide

/-- R135, R137: 5,100 in the drawer balances a float of 5,000 and 100 taken. -/
theorem test_declare :
    let t := after (.declare (.window 0) 8 (be 4 5100 ++ be 4 0 ++ be 4 0)) (after (.closeShift (.window 0) 8 []) office)
    t.shifts[(0 : Window)].declaration.map (·.result) = some .balanced := by decide

/-- R12, R20: a pack received; a pack with blanks left is not retired. -/
theorem test_receive_pack :
    (after (.receivePack .supervisor 1 (be 2 9 ++ 2 :: be 3 7 ++ be 3 8)) office).packs.map (·.id) = [1, 2, 9] := by decide
theorem test_retire_pack_refused :
    said .supervisor (after (.retirePack .supervisor 1 (be 2 2)) office) = some ⟨0x81, 1, [18, 0x25]⟩ := by decide

/-- R13, R14, R7: a load check sends TOP REPORT, and the serial expected loads the pack. -/
theorem test_load_pack :
    let t := after (.loadPack .supervisor 1 (be 2 2 ++ [1])) office
    t.printers[(1 : PrinterId)].sent = [⟨0x42, 0, []⟩] ∧ t.printers[(1 : PrinterId)].service = .loading
      ∧ (after (.top 1 0 (be 3 500)) t).printers[(1 : PrinterId)].loaded = some 2 := by decide

/-- R15, R16: three blanks missing between next and top are spoiled at an unload. -/
theorem test_unload_missing :
    let t := after (.top 0 0 (be 3 105)) (after (.unloadPack .supervisor 1 [0]) office)
    t.spoils.map (fun r => (r.first, r.count, r.cause)) = [(102, 3, .missing)] := by decide

/-- R18: FORCE UNLOAD leaves the pack COMPROMISED at the printer. -/
theorem test_force_unload :
    (after (.forceUnload .supervisor 1 [0]) office).packs.map (·.location) = [.compromised, .safe] := by decide

/-- R19: WRITE OFF PACK spoils all hundred blanks of the pack in the safe. -/
theorem test_write_off :
    (after (.writeOffPack .supervisor 1 (be 2 2)) office).packs.map (·.spoiled) = [0, 100] := by decide

/-- R69, R70: a test print waits for its grant, then goes out with the tag byte 1 of PRINTING. -/
theorem test_test_print :
    let t := after (.grant 0) (after (.testPrint .supervisor 1 [0, 1, 1, 65]) office)
    t.printers[(0 : PrinterId)].sent = [⟨0x40, 1, be 2 1 ++ 0 :: be 3 102 ++ [1, 1, 65]⟩] := by decide

/-- R32: an out-of-service printer shows it, and its lamp goes dark. -/
theorem test_set_service :
    let t := after (.setService .supervisor 1 [0, 0, 1]) office
    t.printers[(0 : PrinterId)].service = .outOfService ∧ t.printers[(0 : PrinterId)].lamp.aspect = .off := by decide

/-- R145: no CLOSE DAY with a shift OPEN. -/
theorem test_close_day_refused :
    said .supervisor (after (.closeDay .supervisor 1 []) office) = some ⟨0x81, 1, [5, 0x31]⟩ := by decide

/-- R155: ACK FAULT of COLD_START, an event, clears it. -/
theorem test_ack_fault : (after (.ackFault .supervisor 1 (be 2 1)) office).reports.map (·.state) = [.cleared] := by decide

/-- R180: LIMITS written out of range are held within it. -/
theorem test_write_limits :
    let s := after (.selectEntry .supervisor 1 [5, 0]) office
    (after (.writeEntry .supervisor 1 ([17, 4] ++ be 2 301 ++ be 2 9 ++ be 2 501 ++ [0x80, 0])) s).limits
      = ⟨16, 5, 300, 10, 500, 0x80, false⟩ := by decide +kernel

/-- R101: the table lock refuses a concession while a shift is OPEN. -/
theorem test_table_locked :
    said .supervisor (after (.writeEntry .supervisor 1 [1, 0, 0, 0, 0, 0, 1]) office) = some ⟨0x81, 1, [24, 0x39]⟩ := by
  decide

/-- R188: midnight of the last day number. -/
theorem test_midnight :
    (after .clockPulse { up with clock := ⟨86399, 65535⟩ }).clock = ⟨0, 0⟩ := by decide

/-- R52, R33: a grant sends the job's ticket of the next serial. -/
theorem test_grant :
    let t := after (.grant 0) office
    t.printers[(0 : PrinterId)].printing = some ⟨some job.ref, 1, 102, false⟩ ∧ t.packs.map (·.next) = [103, 500] := by
  decide

/-- R74, R119: PRINTED with the serial as sent extends the job's entry and charges the ticket. -/
theorem test_printed :
    let t := after (.printed 0 1 (be 3 102)) printing
    t.shifts[(0 : Window)].entries.map (·.count) = [3] ∧ t.shifts[(0 : Window)].tenders.cash = 150
      ∧ t.printers[(0 : PrinterId)].printing = some (ticket 103) := by decide

/-- R76, R79: another serial makes a DISPUTED entry and the stock hold. -/
theorem test_printed_disputed :
    let t := after (.printed 0 1 (be 3 777)) printing
    t.shifts[(0 : Window)].entries.map (·.disputed) = [false, true] ∧ t.printers[(0 : PrinterId)].stockHold = true := by
  decide

/-- R82, R84: a jam of one blank returns the staged ticket's blank; of two, it takes it. -/
theorem test_jammed_one : ((after (.jammed 0 1 [1]) printing).packs.map (·.next)) = [103, 500] := by decide
theorem test_jammed_two : ((after (.jammed 0 1 [2]) printing).packs.map (·.next)) = [104, 500] := by decide

/-- R25, R40: silence on the line makes an uncertain range of the two tickets in flight. -/
theorem test_silence :
    (after (.silenceTimer 0) printing).printers[(0 : PrinterId)].range
      = some ⟨1, 102, [some job.ref, some job.ref], false⟩ := by decide

/-- R37, R38: the head fault asks for the staged ticket back; WITHDRAWN returns its blank. -/
theorem test_withdraw :
    let t := after (.status 0 0 [4]) printing
    t.printers[(0 : PrinterId)].sent = [⟨0x41, 2, be 3 103⟩]
      ∧ (after (.withdrawn 0 2 (be 3 103)) t).packs.map (·.next) = [103, 500] := by decide

/-- R24: a line comes UP through SETTLING. -/
theorem test_link_up :
    (after (.settleTimer 3) (after (.idleMark 3) up)).printers[(3 : PrinterId)].service = .negotiating := by decide

/-- R39: an answer with nothing in PRINTING is a protocol fault. -/
theorem test_unexpected :
    (after (.printed 0 1 (be 3 5)) office).reports.map (·.kind) = [.coldStart, .protocol] := by decide

/-- R166, R167: the contact sounds the alarm, and SILENCE ALARM stills it. -/
theorem test_alarm :
    (after (.alarmIn true) up).alarm = true ∧ (after (.silenceAlarm .supervisor 1 []) (after (.alarmIn true) up)).alarm = false := by
  decide

/-- R175: the three checks of a frame, in their order. -/
theorem test_permission : said .supervisor (after (.queryShift .supervisor 3 []) up) = some ⟨0x81, 3, [3, 0x17]⟩ := by decide
theorem test_body_length : said (.window 2) (after (.queryShift (.window 2) 3 [0]) up) = some ⟨0x81, 3, [25, 0x17]⟩ := by
  decide
theorem test_unknown_kind : said (.window 2) (after (.unknownKind (.window 2) 0x18 3) up) = some ⟨0x81, 3, [2, 0x18]⟩ := by
  decide

/-- R185: power lost with a good back-up makes a warm start, without it a cold one. -/
theorem test_starts :
    (after (.powerUp true 1) (after .powerFail office)).lastStart = .warm
      ∧ (after (.powerUp false 1) (after .powerFail office)).packs = [] := by decide

/-- R24: frames on a printer line, with idle characters between them. -/
theorem test_line_idle :
    let f : Frame := ⟨0x42, 0, []⟩
    lineBytes (fun n => if n = 1 then 2 else 0) [f, f] = f.line ++ [0x96, 0x96] ++ f.line := by decide +kernel

/-- R70, log 9: a hold that comes on abandons two pending test prints in the order of the printers. -/
theorem test_tests_abandoned :
    let q : Printer := { ready with test := some ⟨7, [[65]], false⟩ }
    let r : SpoilRun := ⟨1, 100, 1, .test, none, none, ⟨0, 0⟩⟩
    let s : State := { office with
      printers := (office.printers.set 0 q).set 1 { q with test := some ⟨8, [[65]], false⟩ }
      spoils := List.replicate 232 r }
    s.abandonTests.svPort.tx.map (·.tag) = [7, 8] := by decide +kernel

/-! ## Witnesses: states and operands that meet the hypotheses of the statements -/

/-- The office with P0's printer replaced. -/
def office.with (pr : Printer) : State := { office with printers := office.printers.set 0 pr }

/-- The office with W0's shift replaced. -/
def office.shift (h : Shift) : State := { office with shifts := office.shifts.set 0 h }

/-- The office with a command waiting. -/
def queued : State := { office with pending := [.grant 0] }

/-- An uncertain range of the two serials from 102. -/
def rangeOf (a b : Option JobRef) : Range := { pack := 1, first := 102, charges := [a, b], disputed := false }

theorem test_witness_StepRunsFrontCommand : queued.pending = .grant 0 :: [] ∧ office.pending = [] := ⟨rfl, rfl⟩

theorem test_witness_CommandsLeaveQueue : ∃ t, exec (.grant 0) office = .next t := ⟨_, rfl⟩

theorem test_witness_WellFormedCommandsComplete :
    (Instr.grant 0).wellFormed = true ∧ commandKind 0x3B#8 = true ∧ genuine (.badLength 2#8) false = false
      ∧ genuine (.badStart Config.idleByte) true = false ∧ printerKind 0x50#8 = true := by decide

/-! ### Invariants: each holds of a state whose next step is a grant -/

theorem test_witness_step : ∃ t, step queued = .next t := ⟨_, rfl⟩

theorem test_witness_StepKeepsAlarm : queued.AlarmSound := by unfold State.AlarmSound; decide

theorem test_witness_StepKeepsLamps : queued.LampsSound := by
  unfold State.LampsSound State.LampSound; decide

theorem test_witness_StepKeepsFaultTable : queued.TableSound := by unfold State.TableSound; decide

theorem test_witness_StepKeepsReportNumbers : queued.NumbersSound := by unfold State.NumbersSound; decide

theorem test_witness_StepKeepsPacksAndPrinters : queued.PacksSound where
  size := by decide
  ids := by decide
  loaded := by
    have h : ∀ p : PrinterId, ∀ id ∈ queued.printers[p].loaded, ∃ k ∈ queued.packs, k.id = id ∧ k.location = .loaded p := by
      decide
    exact fun p id hp => h p id hp
  located := by decide
  checking := by
    have h : ∀ p : PrinterId, queued.printers[p].loadCheck = none := by decide
    intro p c hp
    rw [h p] at hp
    cases hp
  checked := by decide
  compromised := by decide

theorem test_witness_StepKeepsPackBalance : queued.StockSound where
  packs := test_witness_StepKeepsPacksAndPrinters
  bounds := by decide
  balance := by decide
  linked := by decide
  empty := by decide
  holding := by
    have h : ∀ p : PrinterId, queued.printers[p].range = none ∧ queued.printers[p].printing = none
        ∧ queued.printers[p].staged = none := by decide
    intro p k _ _
    unfold Printer.holdingSound
    rw [(h p).1, (h p).2.1, (h p).2.2]
    trivial

theorem test_witness_StepKeepsSpoilRoom : queued.SpoilsSound :=
  ⟨test_witness_StepKeepsPackBalance, by decide⟩

theorem test_witness_StepKeepsQueueLimits : queued.QueueSound := by unfold State.QueueSound; decide

theorem test_witness_StepLeavesAllSettled : queued.RestSound := by
  intro _
  have h : ∀ j ∈ queued.jobs, j.state = .queued := by decide
  have u : ∀ p : PrinterId, queued.printers[p].test = none := by decide
  refine ⟨by decide, fun j hj e he => ?_, by decide, by decide, fun p x hx => ?_⟩
  · simp [h j hj] at he
  · rw [u p] at hx
    cases hx

theorem test_witness_StepKeepsVoidListsAndClosedDay : queued.VoidsSound ∧ up.DaySound := by
  unfold State.VoidsSound Shift.VoidsSound State.DaySound; decide

theorem test_witness_StepKeepsShiftAccounts : queued.AccountsSound where
  balanced := by unfold Shift.Balanced inRange; decide
  splits := by unfold Split.Legal; decide
  jobs := by decide
  entries := by decide
  idle := by decide

theorem test_witness_StepKeepsSettings : queued.SettingsSound ∧ queued.FallbackSound := by
  refine ⟨⟨by unfold Concession.Legal; decide, by unfold Split.Legal; decide, by decide, by unfold Limits.Legal; decide,
    by decide⟩, by unfold State.FallbackSound; decide⟩

/-! ### The fare unit -/

theorem test_witness_ConvergentDivision :
    (0 < 65536 ∧ 0 < 32768) ∧ (32767 < 65536 ∧ 32767 < 32768) ∧ (65535 < 65536 ∧ 32768 < 65535)
      ∧ (32768 < 65536 ∧ 2 % 2 = 0 ∧ 3 % 2 = 1) ∧ (1999999 ≤ 1999999 ∧ 65536 ≤ 65536) := by decide

theorem test_witness_UnitCharge :
    concessionFour.discount ≤ 65535 ∧ 1 ≤ concessionFour.step ∧ 2350 ≤ 2351 := by decide

theorem test_witness_Apportionment : splitFive ≠ [] ∧ Split.Legal splitFive ∧ 4 ≤ splitFive.length := by
  unfold Split.Legal; decide

/-- A cash total at its upper end, so that the next posting is held. -/
def full : Shift := { shiftZero with tenders := { cash := 2147483647, card := 0, warrant := 0 } }

theorem test_witness_Posting :
    ({ full with limited := true } : Shift).limited = true ∧ (full.post .cash 1 splitTwo).limited = true
      ∧ (shiftZero.post .cash 1 splitTwo).limited = false := by decide

/-! ### Taking a frame or an event -/

theorem test_witness_FrameChecks :
    (office.frame (.closeShift .supervisor 1 []) = some ⟨.supervisor, 0x15, 1, [], false, 0, 0⟩
        ∧ State.Hears office .supervisor ∧ ¬State.Hears State.reset .supervisor)
      ∧ (office.frame (.closeShift (.window 0) 1 [0]) = some ⟨.window 0, 0x15, 1, [0], false, 0, 0⟩ ∧ 0 < [0#8].length)
      ∧ (office.frame (.refund (.window 0) 1 [0, 0, 0, 0]) = some ⟨.window 0, 0x14, 1, [0, 0, 0, 0], false, 5, 5⟩
        ∧ [0#8, 0, 0, 0].length < 5)
      ∧ (commandKind 0x18#8 = false ∧ commandKind 0x1F#8 = false)
      ∧ printerFrameOf (.status 3 0 [0]) = some (3, [0], 1) ∧ ¬State.HearsPrinter office 3 := by
  unfold State.Hears State.HearsPrinter; decide

theorem test_witness_PortAttachBreakSend :
    (State.reset.phase = .running ∧ State.reset.svPort.attached = false ∧ State.reset.ports[(11 : Window)].attached = false)
      ∧ State.Hears office .supervisor ∧ State.Hears office (.window 0) ∧ office.shifts[(0 : Window)].state ≠ .idle
      ∧ ¬State.Hears State.reset .supervisor ∧ (office.port (.window 0)).attached = true := by
  unfold State.Hears; decide

theorem test_witness_FramingFaults :
    let hunting : State := { up with svPort := { up.svPort with rx := .hunting } }
    State.Hears hunting .supervisor ∧ genuine (.badStart 0xA4#8) false = true ∧ (hunting.port .supervisor).rx ≠ .fresh
      ∧ State.Hears up .supervisor ∧ (up.port .supervisor).rx = .fresh ∧ genuine (.badLength 1#8) false = true := by
  unfold State.Hears; decide

theorem test_witness_CommandRefusals :
    let c : Instr := .closeShift (.window 0) 1 []
    let f : FrameRow := ⟨.window 0, 0x15, 1, [], false, 0, 0⟩
    (up.frame c = some f ∧ office.frame c = some f) ∧ State.Hears up f.port ∧ State.Hears office f.port
      ∧ (f.port = .supervisor ↔ f.supervisor = true) ∧ f.lo ≤ f.body.length ∧ f.body.length ≤ f.hi
      ∧ firstFailing (up.checks c) = some .shiftState ∧ firstFailing (office.checks c) = none := by
  unfold State.Hears; decide

/-! ### The window commands -/

theorem test_witness_OpenShift :
    State.Hears office (.window 11) ∧ 2 ^ 32 - 1 < 2 ^ 32
      ∧ (State.Hears up (.window 11) ∧ up.dayOpen = false)
      ∧ (office.dayOpen = true ∧ office.shifts[(0 : Window)].state ≠ .idle ∧ office.shifts[(11 : Window)].state = .idle) := by
  unfold State.Hears; decide

theorem test_witness_IssueAccepted :
    State.Hears office (.window 0) ∧ office.dayOpen = true ∧ office.shifts[(0 : Window)].state = .opened
      ∧ (∀ j ∈ office.jobs, j.ref ≠ { window := 0, tag := 6 }) ∧ office.jobs.length < 32 ∧ office.liveJobs 0 < 4
      ∧ office.concessions[(0 : EntryIndex)].valid = true ∧ office.splits[(0 : EntryIndex)] ≠ []
      ∧ (office.loadedPack 0).map (·.stock) = some 0
      ∧ (∀ f ∈ job.fields, f.length ≤ 40) ∧ job.fields.length + (job.fields.map (·.length)).sum ≤ 200 := by
  unfold State.Hears; decide

theorem test_witness_IssueAccepted_target :
    (∃ p : PrinterId, (some 0 : Option PrinterId) = some p ∧ ((128 : Nat) = 128 + 16 * ((0 : StockType).val + 1) + p.val
        ∨ 128 = 128 + p.val ∧ ∃ k, office.loadedPack p = some k ∧ k.stock = 0))
      ∧ ∃ p : PrinterId, (some 7 : Option PrinterId) = some p ∧ 199 = 128 + 16 * ((3 : StockType).val + 1) + p.val :=
  ⟨⟨0, rfl, .inr ⟨rfl, packOne, by decide⟩⟩, 7, rfl, rfl⟩

theorem test_witness_CancelAndCloseShift :
    State.Hears printing (.window 0) ∧ (∃ j ∈ printing.jobs, j.ref = { window := 0, tag := 5 })
      ∧ printing.shifts[(0 : Window)].state = .opened
      ∧ printing.printers[(0 : PrinterId)].staged = some (ticket 103) ∧ (ticket 103).owner = some job.ref
      ∧ (printing.job? job.ref).map (·.state) = some .active ∧ printing.printers[(0 : PrinterId)].withdrawal = false
      ∧ office.printers[(0 : PrinterId)].staged = none := by
  unfold State.Hears; decide

theorem test_witness_VoidAndRefund :
    State.Hears office (.window 0) ∧ shiftZero.state = .opened ∧ 101 < 2 ^ 24
      ∧ shiftZero.entries[0]? = some entryZero ∧ (entryZero.first ≤ 101 ∧ 101 < entryZero.first + entryZero.count)
      ∧ (office.pack? entryZero.pack).map (·.stock) = some 0 ∧ entryZero.disputed = false
      ∧ (∀ v ∈ shiftZero.voids, ¬(v.pack = entryZero.pack ∧ v.serial = 101)) ∧ shiftZero.voids.length < 32
      ∧ 1 ≤ 1999999 ∧ 1999999 ≤ 1999999 ∧ office.splits[(0 : EntryIndex)] ≠ [] := by
  unfold State.Hears; decide

/-- The posting that sets the limit indicator. -/
theorem test_witness_VoidAndRefund_limited :
    let low : Shift := { shiftZero with tenders := { cash := -2147483647, card := 0, warrant := 0 } }
    low.limited = false ∧ (low.post .cash (-50) [⟨0, 65536⟩]).limited = true := by decide

theorem test_witness_Declare :
    let counting := office.shift { shiftZero with state := .counting }
    State.Hears counting (.window 0) ∧ counting.shifts[(0 : Window)].state = .counting ∧ 2 ^ 32 - 1 < 2 ^ 32
      ∧ (after (.declare (.window 0) 8 (be 4 0 ++ be 4 0 ++ be 4 0)) counting).shifts[(0 : Window)].declaration.map
          (·.result) = some .out := by
  unfold State.Hears; decide

/-! ### Reads -/

theorem test_witness_ReadsAnswer :
    State.Hears office (.window 0) ∧ State.Hears office .supervisor ∧ office.packs[1]? = some packTwo
      ∧ (∀ m < 1, ∀ x ∈ office.packs[m]?, x.id ≠ packTwo.id) ∧ packTwo.id < 65536
      ∧ office.allReports[0]? = some .coldStart ∧ Report.coldStart.number < 65536 ∧ Report.coldStart.number ≠ 0 := by
  unfold State.Hears; decide

theorem test_witness_RepliesAreAsLaidDown :
    office.nextReport = some .coldStart ∧ ({ office with reports := [] } : State).nextReport = none
      ∧ (office.portStatus .supervisor).body.length ≤ 248 ∧ splitFive.length ≤ 4 := by decide

/-! ### Stock and printers -/

theorem test_witness_ReceiveAndRetirePack :
    State.Hears office .supervisor
      ∧ (1 ≤ 65535 ∧ 65535 ≤ 65535 ∧ 9999999 ≤ 9999999 ∧ 9998000 ≤ 9999999 ∧ 9999999 - 9998000 + 1 ≤ 2000)
      ∧ (∀ k ∈ office.packs, k.id ≠ 65535)
      ∧ (∀ k ∈ office.packs, k.stock = 0 → k.last < 9998000 ∨ 9999999 < k.first) ∧ office.packs.length < 64 := by
  unfold State.Hears; decide

theorem test_witness_ReceiveAndRetirePack_retire :
    let spent : Pack := { packTwo with next := 600, issued := 100, dayMark := 600 }
    let s : State := { office with packs := [packOne, spent] }
    State.Hears s .supervisor ∧ s.packs = [packOne] ++ spent :: [] ∧ (∀ x ∈ [packOne], x.id ≠ spent.id)
      ∧ spent.id ≤ 65535 ∧ spent.location = .safe ∧ spent.loadCheck = none ∧ spent.last < spent.next
      ∧ (s.dayOpen = false ∨ spent.dayMark = spent.next) ∧ ∀ r ∈ s.spoils, r.pack ≠ spent.id := by
  unfold State.Hears; decide

theorem test_witness_LoadAndUnloadChecksStart :
    State.Hears office .supervisor
      ∧ (office.pack? packTwo.id = some packTwo ∧ packTwo.id ≤ 65535 ∧ office.spoils.length < 232
        ∧ packTwo.location = .safe ∧ packTwo.loadCheck = none ∧ packTwo.next ≤ packTwo.last
        ∧ empty.service = .empty ∧ office.printers[(1 : PrinterId)] = empty ∧ empty.loadCheck = none
        ∧ empty.unloadCheck = none ∧ empty.test = none ∧ empty.capability = some cap
        ∧ cap.types.getLsbD packTwo.stock.val = true)
      ∧ (office.printers[(0 : PrinterId)] = ready ∧ ready.loaded.isSome = true ∧ ready.link = .up
        ∧ ready.service = .ready ∧ ready.printing = none ∧ ready.staged = none ∧ ready.range = none
        ∧ ready.loadCheck = none ∧ ready.unloadCheck = none ∧ ready.test = none ∧ office.spoils.length < 256) := by
  unfold State.Hears; decide

theorem test_witness_ForceUnloadAndWriteOff :
    let q : Printer := { ready with range := some (rangeOf (some job.ref) none) }
    let s := office.with q
    (State.Hears s .supervisor ∧ s.printers[(0 : PrinterId)] = q ∧ q.loaded = some 1 ∧ q.loadCheck = none
        ∧ q.unloadCheck = none ∧ q.test = none ∧ (q.link = .up → q.printing = none ∧ q.staged = none)
        ∧ (∀ g ∈ q.range, g.charges.length = 1 ∨ g.charges.length = 2) ∧ s.spoils.length + 2 ≤ 256)
      ∧ State.Hears office .supervisor ∧ office.pack? packTwo.id = some packTwo ∧ packTwo.id ≤ 65535
      ∧ office.spoils.length < 232 ∧ packTwo.location = .safe ∧ packTwo.loadCheck = none := by
  unfold State.Hears; decide

theorem test_witness_TestServiceAndResetLine :
    (State.Hears office .supervisor ∧ 1 ≤ job.fields.length ∧ job.fields.length ≤ 12
        ∧ (∀ f ∈ job.fields, f.length ≤ 40) ∧ job.fields.length + (job.fields.map (·.length)).sum ≤ cap.maxBody
        ∧ office.spoils.length < 232 ∧ ready.service = .ready ∧ ready.capability = some cap)
      ∧ (0#8 ≠ 1#8 ∧ office.printers[(3 : PrinterId)].pool = true ∧ ∀ i : StockType, office.fallback[i] ≠ some 3)
      ∧ (office.printers[(0 : PrinterId)].link = .up ∧ office.printers[(3 : PrinterId)].link = .down)
      ∧ (office.with { ready with link := .settling }).printers[(0 : PrinterId)].link = .settling
      ∧ (office.with { ready with link := .jabber }).printers[(0 : PrinterId)].link = .jabber := by
  unfold State.Hears; decide

/-! ### Printer lines -/

/-- R30: a printer for each line of its table. -/
theorem test_witness_ServiceState :
    [Printer.start, { ready with capabilityWait := true }, { ready with printTimeout := true },
      { ready with query := some .first }, { ready with stockHold := true }, { ready with outOfService := true },
      { empty with loadCheck := some ⟨2, 1, .first⟩ }, { ready with mismatch := true },
      { ready with conditions := ⟨true, false, false, false⟩ }, empty, ready].map Printer.service
      = [.absent, .negotiating, .faulted, .recovering, .stockHold, .outOfService, .loading, .faulted, .paused, .empty,
        .ready] := by decide

theorem test_witness_TicketAndLinkLoss :
    printing.ports[(0 : Window)].attached = true ∧ printing.printers[(0 : PrinterId)].printing = some (ticket 102)
      ∧ office.printers[(0 : PrinterId)].printing = none := by decide

/-! ### Shifts, the day, the fault table and the settings -/

theorem test_witness_ResolveDispute :
    let e : Entry := { entryZero with disputed := true }
    let s : State := { office.shift { shiftZero with entries := [e] } with
      packs := [{ packOne with location := .compromised, compromisedAt := some 0 }, packTwo] }
    State.Hears s .supervisor ∧ 0 < 256 ∧ s.shifts[(0 : Window)].state ≠ .idle
      ∧ s.shifts[(0 : Window)].entries[0]? = some e ∧ e.disputed = true ∧ s.spoils.length < 232
      ∧ (s.pack? e.pack).map (fun k => (k.loadCheck, k.location)) = some (none, .compromised) := by
  unfold State.Hears; decide

theorem test_witness_ReopenCountAndSignOff :
    let s := office.shift { shiftZero with state := .declared, recount := 2 }
    State.Hears s .supervisor ∧ s.shifts[(0 : Window)].state = .declared ∧ s.shifts[(0 : Window)].recount < 3
      ∧ s.stockStatus 0 = .clear := by
  unfold State.Hears; decide

theorem test_witness_OpenAndCloseDay :
    (State.Hears up .supervisor ∧ up.dayOpen = false)
      ∧ let s := office.shift { shiftZero with state := .signedOff }
        State.Hears s .supervisor ∧ s.dayOpen = true
          ∧ (∀ w : Window, s.shifts[w].state = .idle ∨ s.shifts[w].state = .signedOff)
          ∧ (∀ p : PrinterId, s.printers[p].printing = none ∧ s.printers[p].staged = none
            ∧ s.printers[p].range = none ∧ s.printers[p].loadCheck = none)
          ∧ s.shifts[(0 : Window)].state = .signedOff ∧ s.ports[(0 : Window)].attached = true := by
  unfold State.Hears; decide

theorem test_witness_FaultTableCommands :
    State.Hears office .supervisor ∧ 1 < 65536
      ∧ office.allReports.find? (·.number == 1) = some .coldStart := by
  unfold State.Hears; decide

/-- An uncleared report of a window. -/
def jammedReport (n : Nat) (state : ReportState) : Report :=
  { Report.coldStart with number := n, source := .window 3, kind := .lineBreak, state := state }

/-- A full fault table: a first report as given, the others OPEN. -/
def crowded (first : ReportState) (reserved : Option Report) : State :=
  { office with reports := jammedReport 1 first :: List.replicate 47 (jammedReport 2 .opened), reserved := reserved }

/-- An occurrence for each case of State.raise: coalesced, added, in the place of a CLEARED report, in the place of
a milder ACKNOWLEDGED one, and folded into a TABLE_FULL that stands or that is made. -/
theorem test_witness_FaultTableCommands_raise :
    let o : Occurrence := { source := .printer 0, kind := .jam }
    let standing : Report := { Report.coldStart with number := 9, kind := .tableFull }
    (office.reports = [] ++ Report.coldStart :: [] ∧ Report.coldStart.state ≠ .cleared)
      ∧ ((∀ x ∈ office.reports, x.source ≠ o.source) ∧ office.reports.length < 48)
      ∧ ((∀ x ∈ (crowded .cleared none).reports, x.source ≠ o.source) ∧ 48 ≤ (crowded .cleared none).reports.length
        ∧ (jammedReport 1 .cleared).state = .cleared)
      ∧ ((∀ x ∈ (crowded .acknowledged none).reports, x.state ≠ .cleared)
        ∧ (jammedReport 1 .acknowledged).kind.severity.rank < o.kind.severity.rank)
      ∧ ((∀ x ∈ (crowded .opened none).reports, x.state ≠ .acknowledged)
        ∧ ∀ x ∈ (crowded .opened none).reserved, x.state ≠ .opened)
      ∧ ((crowded .opened (some standing)).reserved = some standing ∧ standing.source = .office
        ∧ standing.kind = .tableFull ∧ standing.state = .opened)
      ∧ 1 ≤ office.counter ∧ office.counter ≤ 65535 := by decide +kernel

theorem test_witness_SettingsCommands :
    State.Hears up .supervisor ∧ up.tableLock = false ∧ up.cursor = .concession 0
      ∧ ({ up with cursor := .split 15 } : State).cursor = .split 15
      ∧ splitFive.length ≤ 4 ∧ splitFive.Pairwise (fun a b => a.share ≤ b.share)
      ∧ (∀ part ∈ splitFive, part.share ≤ 65536) ∧ (∀ part ∈ splitFive.getLast?, part.share = 65536)
      ∧ ([] : List Byte).length + 4 * splitFive.length = 16
      ∧ ({ up with printers := up.printers.set 2 { Printer.start with pool := false } } : State).printers[(2 : PrinterId)].pool
          = false
      ∧ 86399 < 86400 ∧ 65535 < 65536 := by
  unfold State.Hears; decide

/-! ### Starts, stops and the clock -/

theorem test_witness_ColdAndWarmStarts :
    let off : State := { office with phase := .off }
    (off.phase = .off ∧ off.resetPin = false) ∧ (({ office with phase := .held .cold } : State).phase = .held .cold)
      ∧ (({ off with resetPin := true } : State).resetPin = true)
      ∧ (({ office with phase := .held .warm } : State).phase = .held .warm) := by decide

theorem test_witness_StopsAndClock :
    office.phase = .running ∧ office.phase ≠ .off ∧ ({ office with phase := .held .warm } : State).phase ≠ .running
      ∧ ({ office with phase := .off } : State).phase = .off ∧ 86399 < 86400 ∧ 65535 < 65536 := by decide

/-! ### The printers' frames -/

theorem test_witness_PrinterStatus :
    let paused := office.at 103 .active { ready with
      staged := some (ticket 102), conditions := ⟨true, false, false, false⟩ }
    State.HearsPrinter paused 0
      ∧ (let q := paused.printers[(0 : PrinterId)];
          q.conditions.paused = true ∧ (0#8).getLsbD 0 = false ∧ q.printing = none ∧ q.withdrawal = false
            ∧ q.staged ≠ none)
      ∧ State.HearsPrinter printing 0
      ∧ (let q := printing.printers[(0 : PrinterId)];
          q.conditions.paused = false ∧ q.staged = some (ticket 103) ∧ q.withdrawal = false
            ∧ (q.conditions.coverOpen = false ∧ (2#8).getLsbD 1 = true)
            ∧ (q.conditions.headFault = false ∧ (4#8).getLsbD 2 = true)
            ∧ (q.conditions.jamPresent = false ∧ (8#8).getLsbD 3 = true)) := by
  unfold State.HearsPrinter; decide

theorem test_witness_PrinterCapability :
    let waiting := office.with { ready with capability := none, capabilityWait := true,
                                            range := some (rangeOf none none) }
    State.HearsPrinter waiting 0 ∧ 65535 < 65536 ∧ waiting.printers[(0 : PrinterId)].capabilityWait = true
      ∧ (waiting.loadedPack 0).map (fun k => (14#4).getLsbD k.stock.val) = some false
      ∧ waiting.printers[(0 : PrinterId)].range.map (·.disputed) = some false := by
  unfold State.HearsPrinter; decide

theorem test_witness_PrintedForJob :
    State.HearsPrinter printing 0 ∧ busy.printing = some (ticket 102) ∧ printing.printers[(0 : PrinterId)] = busy
      ∧ (ticket 102).owner = some job.ref ∧ (printing.job? job.ref).map (·.ref) = some job.ref ∧ 0xFFFFFF < 2 ^ 24
      ∧ job.lastEntry = some 0 ∧ shiftZero.entries[0]? = some entryZero
      ∧ entryZero.first + entryZero.count = (ticket 102).serial ∧ (ticket 102).reserved = true
      ∧ busy.staged.any (fun g => g.owner == (ticket 102).owner && !g.reserved) = true := by
  unfold State.HearsPrinter; decide

/-- P0 with a test print in PRINTING and its job's ticket behind. -/
def testing : Printer :=
  { busy with printing := some (testTicket 102), test := some ⟨7, [[65]], true⟩ }

theorem test_witness_PrintedForTest :
    let s := office.at 104 .active testing
    State.HearsPrinter s 0 ∧ s.printers[(0 : PrinterId)] = testing ∧ testing.printing = some (testTicket 102)
      ∧ (testTicket 102).owner = none ∧ testing.test = some ⟨7, [[65]], true⟩ ∧ 0xFFFFFF < 2 ^ 24
      ∧ s.serialDispute 0 = false := by
  unfold State.HearsPrinter; decide

theorem test_witness_Jammed :
    State.HearsPrinter printing 0 ∧ busy.printing = some (ticket 102)
      ∧ (printing.pack? 1).map (·.last) = some 199 ∧ (ticket 102).serial ≤ 199
      ∧ (∀ g ∈ busy.staged, g.pack = 1 ∧ g.serial = 102 + 1)
      ∧ (let s := office.at 104 .active { testing with printing := some (ticket 102), staged := some (testTicket 103) };
          State.HearsPrinter s 0 ∧ s.printers[(0 : PrinterId)].test = some ⟨7, [[65]], true⟩
            ∧ s.printers[(0 : PrinterId)].staged = some (testTicket 103) ∧ s.svPort.attached = true) := by
  unfold State.HearsPrinter; decide

theorem test_witness_Withdrawals :
    let s := office.at 104 .active { busy with withdrawal := true }
    let alone := office.at 103 .active { ready with staged := some (ticket 102), withdrawal := true }
    let test := office.at 104 .active { busy with
      staged := some (testTicket 103), withdrawal := true, test := some ⟨7, [[65]], true⟩ }
    let paused := office.at 104 .active { busy with pauseTimer := some 30, conditions := ⟨true, false, false, false⟩ }
    (State.HearsPrinter s 0 ∧ s.printers[(0 : PrinterId)].staged = some (ticket 103) ∧ (ticket 103).serial < 2 ^ 24
        ∧ s.printers[(0 : PrinterId)].withdrawal = true ∧ (ticket 103).owner = some job.ref)
      ∧ (State.HearsPrinter alone 0 ∧ alone.printers[(0 : PrinterId)].printing = none
        ∧ alone.printers[(0 : PrinterId)].staged = some (ticket 102))
      ∧ (test.printers[(0 : PrinterId)].staged = some (testTicket 103) ∧ (testTicket 103).owner = none
        ∧ test.printers[(0 : PrinterId)].test = some ⟨7, [[65]], true⟩)
      ∧ (paused.printers[(0 : PrinterId)].pauseTimer ≠ none ∧ paused.printers[(0 : PrinterId)].withdrawal = false)
      ∧ (let none_ := office.with { ready with withdrawal := true };
          none_.printers[(0 : PrinterId)].staged = none ∧ none_.printers[(0 : PrinterId)].withdrawal = true) := by
  unfold State.HearsPrinter; decide

theorem test_witness_TopAnswers_load :
    let check : LoadCheck := ⟨2, 9, .first⟩
    let q : Printer := { empty with loadCheck := some check }
    let s : State := { office with
      packs := [packOne, { packTwo with loadCheck := some 1 }], printers := office.printers.set 1 q }
    State.HearsPrinter s 1 ∧ (s.pack? 2).map (fun k => (k.id, k.next, k.last)) = some (2, 500, 599) ∧ 500 ≤ 599 + 1
      ∧ s.printers[(1 : PrinterId)].loadCheck = some check ∧ 500 < 2 ^ 24 ∧ 0xFFFFFF < 2 ^ 24
      ∧ (∀ c ∈ q.capability, c.types.getLsbD 1 = true)
      ∧ (∀ c ∈ ({ q with capability := some { cap with types := 1#4 } } : Printer).capability,
          c.types.getLsbD 1 = false) := by
  unfold State.HearsPrinter; decide

theorem test_witness_TopAnswers_unload :
    let s := office.with { ready with unloadCheck := some ⟨9, .second⟩ }
    State.HearsPrinter s 0 ∧ s.pack? packOne.id = some packOne
      ∧ s.printers[(0 : PrinterId)].loadCheck = none ∧ s.printers[(0 : PrinterId)].unloadCheck = some ⟨9, .second⟩
      ∧ s.printers[(0 : PrinterId)].loaded = some packOne.id
      ∧ packOne.next = 102 ∧ packOne.next ≤ packOne.last + 1 ∧ (packOne.next < 103 ∧ packOne.next < 200 ∧ 200 ≤ packOne.last + 1)
      ∧ (101 < packOne.next ∧ packOne.last + 1 < 201) := by
  unfold State.HearsPrinter; decide

theorem test_witness_TopAnswers_recovery :
    let g := rangeOf (some job.ref) none
    let s := office.at 104 .queued { ready with range := some g, query := some .first }
    State.HearsPrinter s 0 ∧ s.printers[(0 : PrinterId)].query ≠ none ∧ s.printers[(0 : PrinterId)].range = some g
      ∧ s.printers[(0 : PrinterId)].loadCheck = none ∧ s.printers[(0 : PrinterId)].unloadCheck = none
      ∧ g.pack = 1 ∧ g.charges.length = 2 ∧ (g.first ≤ 102 ∧ 104 ≤ g.first + g.charges.length)
      ∧ (101 < g.first ∧ g.first + g.charges.length < 105) := by
  unfold State.HearsPrinter; decide

theorem test_witness_UnexpectedPrinterFrames :
    State.HearsPrinter office 0 ∧ State.HearsPrinter printing 0 ∧ genuine (.badLength 0#8) true = true
      ∧ printerKind 0x57#8 = false ∧ printerFrameOf (.top 0 0 [1, 2]) = some (0, [1, 2], 3) ∧ [1#8, 2].length ≠ 3
      ∧ office.printers[(0 : PrinterId)].printing = none ∧ (2#8 : Tag) ≠ 1#8
      ∧ office.printers[(0 : PrinterId)].withdrawal = false ∧ (1#8 : Tag) ≠ 2#8
      ∧ busy.staged = some (ticket 103) ∧ (ticket 103).serial ≠ 104 ∧ busy.printing ≠ none
      ∧ office.printers[(0 : PrinterId)].loadCheck = none ∧ office.printers[(0 : PrinterId)].unloadCheck = none
      ∧ office.printers[(0 : PrinterId)].query = none := by
  unfold State.HearsPrinter; decide

/-! ### Lines, timers, grants and lamps -/

theorem test_witness_LinkEvents :
    office.phase = .running
      ∧ [Printer.start, { Printer.start with link := .settling }, ready,
          { Printer.start with link := .jabber }].map (·.link) = [.down, .settling, .up, .jabber]
      ∧ (128#8).getLsbD (7 : PrinterId).val = true ∧ office.limits.latches.getLsbD (7 : PrinterId).val = false := by
  decide

theorem test_witness_PrinterTimers :
    office.phase = .running ∧ ({ ready with query := some .first } : Printer).query = some .first
      ∧ ({ ready with query := some .second } : Printer).query = some .second
      ∧ ({ empty with loadCheck := some ⟨2, 9, .second⟩ } : Printer).loadCheck = some ⟨2, 9, .second⟩
      ∧ ({ ready with unloadCheck := some ⟨9, .second⟩ } : Printer).unloadCheck = some ⟨9, .second⟩
      ∧ busy.printing = some (ticket 102) ∧ busy.printTimer = true ∧ ready.query = none ∧ ready.loadCheck = none
      ∧ ready.unloadCheck = none ∧ ready.printTimer = false := by decide

theorem test_witness_Grant :
    let tested := office.with { ready with test := some ⟨7, [[65]], false⟩ }
    let held := office.with { ready with arbiter := { Arbiter.start with holder := some job.ref, burst := 1 } }
    let idle : State := { office with jobs := [] }
    (office.phase = .running ∧ office.canTake 0 = true ∧ office.loadedPack 0 = some packOne)
      ∧ (tested.canTake 0 = true ∧ (tested.endRecordFull 0).choose 0 = .test ⟨7, [[65]], false⟩)
      ∧ (held.canTake 0 = true ∧ (held.endRecordFull 0).choose 0 = .holder job)
      ∧ (office.endRecordFull 0).choose 0 = .burst job
      ∧ (idle.canTake 0 = true ∧ (idle.endRecordFull 0).choose 0 = .nothing) := by decide

theorem test_witness_ArbiterChoice :
    let held (burst : Nat) := office.with { ready with
      arbiter := { Arbiter.start with holder := some job.ref, burst := burst } }
    (∀ x ∈ (held 7).printers[(0 : PrinterId)].test, x.sent = true)
      ∧ ((held 7).printers[(0 : PrinterId)].arbiter.holder = some job.ref ∧ (held 7).job? job.ref = some job
        ∧ (held 7).suits 0 job = true ∧ 7 < (held 7).limits.burst)
      ∧ ((held 8).limits.burst ≤ (held 8).printers[(0 : PrinterId)].arbiter.burst)
      ∧ office.printers[(0 : PrinterId)].arbiter.holder = none ∧ office.choose 0 = .burst job := by decide

theorem test_witness_JobWaits :
    office.phase = .running ∧ office.job? job.ref = some job ∧ job.state = .queued ∧ job.jobWait ≠ none
      ∧ job.routeWait ≠ none
      ∧ (let s : State := { office with jobs := [{ job with jobWait := none, routeWait := none }] };
          (s.job? job.ref).map (fun j => (j.jobWait, j.routeWait, j.state)) = some (none, none, .queued)) := by decide

theorem test_witness_ContactAndLamps :
    office.phase = .running ∧ office.alarmIn ≠ true ∧ office.alarmIn = false
      ∧ (let q : Printer := { ready with lamp := { aspect := .on, lit := false, pulse := true } };
          (office.with q).printers[(0 : PrinterId)].lamp.aspect = .on
            ∧ (office.with q).printers[(0 : PrinterId)].lamp.pulse = true)
      ∧ ready.lamp.pulse = false ∧ ready.lamp.aspect ≠ .flash
      ∧ ({ ready with lamp := { aspect := .flash, lit := true, pulse := false } } : Printer).lamp.aspect = .flash := by
  decide

end Sys2Proof.Tests
end

section
/-!
The blank stock of a state (R1 to R7, R33, R40): packs, spoil list, and what a printer holds of its pack. Most of
what a step does leaves it alone; these lemmas say so, one for each operation.
-/

namespace Sys2Proof.Machine

/-! ## The stock of a state -/

/-- A ticket apart from its owner and its reservation. -/
def Ticket.blanks (t : Ticket) : Ticket := { t with owner := none, reserved := false }

/-- An uncertain range apart from its charges and its dispute. -/
def Range.blanks (g : Range) : Range :=
  { g with charges := List.replicate g.charges.length none, disputed := false }

/-- What a printer holds of its pack, whether its link is UP, and the checks outstanding on it. -/
def Printer.blanks (pr : Printer) : Printer :=
  { Printer.start with
    link := if pr.link = .up then .up else .down, loaded := pr.loaded, printing := pr.printing.map Ticket.blanks
    staged := pr.staged.map Ticket.blanks, range := pr.range.map Range.blanks
    loadCheck := pr.loadCheck.map fun c => { pack := c.pack, tag := 0#8, attempt := .first }
    unloadCheck := pr.unloadCheck.map fun _ => { tag := 0#8, attempt := .first } }

/-- A pack apart from its day mark and the time it was received. -/
def Pack.blanks (k : Pack) : Pack := { k with dayMark := 0, received := { time := 0, day := 0 } }

/-- The packs, the spoil list and the printers of a state, as far as blanks go. -/
structure Blanks where
  packs : List Pack
  spoils : List SpoilRun
  printers : Vector Printer 8

def State.blanks (s : State) : Blanks :=
  { packs := s.packs.map Pack.blanks, spoils := s.spoils, printers := s.printers.map Printer.blanks }

variable (s : State)

theorem State.blanks_eq {s t : State} (hp : t.packs.map Pack.blanks = s.packs.map Pack.blanks)
    (hs : t.spoils = s.spoils) (hq : ∀ p : PrinterId, t.printers[p].blanks = s.printers[p].blanks) :
    t.blanks = s.blanks := by
  unfold State.blanks
  rw [hp, hs, vecMap_eq hq]

theorem State.blanks_of_eq {s t : State} (hp : t.packs = s.packs) (hs : t.spoils = s.spoils)
    (hq : t.printers = s.printers) : t.blanks = s.blanks := by
  unfold State.blanks
  rw [hp, hs, hq]

/-- The end of a step leaves the stock alone. -/
theorem State.blanks_of_bare {s t : State} (h : t.bare = s.bare) : t.blanks = s.blanks := by
  obtain ⟨-, -, -, -, -, -, -, hp, hs, -⟩ := State.eq_of_bare h
  refine State.blanks_eq (by rw [hp]) hs fun p => ?_
  have hq := congrArg Printer.blanks (State.printer_of_bare h p)
  exact hq

/-! ## Operations beside the stock -/

@[simp] theorem State.blanks_modPort (port : Port) (f : PortRecord → PortRecord) :
    (s.modPort port f).blanks = s.blanks := State.blanks_of_eq (by simp) (by simp) (by simp)
@[simp] theorem State.blanks_send (port : Port) (fs : List Frame) : (s.send port fs).blanks = s.blanks :=
  s.blanks_modPort _ _
@[simp] theorem State.blanks_sound (port : Port) : (s.sound port).blanks = s.blanks := s.blanks_modPort _ _
@[simp] theorem State.blanks_accept (port : Port) (kind : Byte) (tag : Tag) (fields : List Byte) :
    (s.accept port kind tag fields).blanks = s.blanks := s.blanks_send _ _
@[simp] theorem State.blanks_reply (port : Port) (kind : Byte) (tag : Tag) (body : List Byte) :
    (s.reply port kind tag body).blanks = s.blanks := s.blanks_send _ _
@[simp] theorem State.blanks_refuse (port : Port) (code : Code) (kind : Byte) (tag : Tag) :
    (s.refuse port code kind tag).blanks = s.blanks := s.blanks_send _ _
@[simp] theorem State.blanks_modShift (w : Window) (f : Shift → Shift) : (s.modShift w f).blanks = s.blanks := rfl
@[simp] theorem State.blanks_modWindowFlags (w : Window) (f : WindowFlags → WindowFlags) :
    (s.modWindowFlags w f).blanks = s.blanks := rfl
@[simp] theorem State.blanks_modJob (ref : JobRef) (f : Job → Job) : (s.modJob ref f).blanks = s.blanks := rfl
@[simp] theorem State.blanks_endCondition (a : Source) (k : Kind) : (s.endCondition a k).blanks = s.blanks := rfl
@[simp] theorem State.blanks_endConditions (f : Source → Kind → Bool) : (s.endConditions f).blanks = s.blanks := rfl
@[simp] theorem State.blanks_commit (before : State) (told : List Occurrence) :
    (s.commit before told).blanks = s.blanks := State.blanks_of_bare (s.commit_bare before told)
@[simp] theorem State.blanks_outputs : s.outputs.blanks = s.blanks := State.blanks_of_bare s.outputs_bare
@[simp] theorem State.blanks_releaseTicket (t : Ticket) : (s.releaseTicket t).blanks = s.blanks := by
  unfold State.releaseTicket; split <;> rfl

/-- A printer's update that leaves its stock alone. -/
theorem State.blanks_modPrinter {p : PrinterId} {f : Printer → Printer}
    (h : (f s.printers[p]).blanks = s.printers[p].blanks) : (s.modPrinter p f).blanks = s.blanks :=
  State.blanks_eq rfl rfl fun q => by
    rw [State.modPrinter_get]
    split
    · subst_vars; exact h
    · rfl

theorem State.blanks_mapPrinters {f : PrinterId → Printer → Printer}
    (h : ∀ p, (f p s.printers[p]).blanks = s.printers[p].blanks) : (s.mapPrinters f).blanks = s.blanks :=
  State.blanks_eq rfl rfl fun q => by rw [State.mapPrinters_get]; exact h q

/-- A pack's update that leaves its stock alone. -/
theorem State.blanks_modPack {id : Nat} {f : Pack → Pack} (h : ∀ k, (f k).blanks = k.blanks) :
    (s.modPack id f).blanks = s.blanks := by
  refine State.blanks_eq ?_ rfl fun _ => rfl
  simp only [State.modPack, List.map_map]
  refine List.map_congr_left fun k _ => ?_
  simp only [Function.comp_apply]
  split
  · exact h k
  · rfl

@[simp] theorem State.blanks_sendLine (p : PrinterId) (f : Frame) : (s.sendLine p f).blanks = s.blanks :=
  s.blanks_modPrinter rfl

@[simp] theorem State.blanks_backOff (p : PrinterId) (owner : Option JobRef) :
    (s.backOff p owner).blanks = s.blanks := s.blanks_modPrinter (by split <;> rfl)

@[simp] theorem State.blanks_ticketEnds (p : PrinterId) (t : Ticket) (o : TicketOutcome) (x : TestOutcome) :
    (s.ticketEnds p t o x).blanks = s.blanks := by
  unfold State.ticketEnds
  split
  · exact s.blanks_send _ _
  · split
    · rw [State.blanks_send]; exact s.blanks_modPrinter rfl
    · rfl

@[simp] theorem State.blanks_loseTicket (p : PrinterId) (t : Ticket) : (s.loseTicket p t).blanks = s.blanks := by
  simp [State.loseTicket]

@[simp] theorem State.blanks_countJam (owner : Option JobRef) (k : Nat) : (s.countJam owner k).blanks = s.blanks := by
  unfold State.countJam; split <;> rfl

@[simp] theorem State.blanks_holdIf (p : PrinterId) (b : Bool) : (s.holdIf p b).blanks = s.blanks :=
  s.blanks_modPrinter rfl

@[simp] theorem State.blanks_settleJobTicket (p : PrinterId) (t : Ticket) (j : Job) (read : Option Nat)
    (passed : Bool) : (s.settleJobTicket p t j read passed).blanks = s.blanks := by
  simp [State.settleJobTicket]

theorem Printer.askWithdrawal_blanks (pr : Printer) : pr.askWithdrawal.blanks = pr.blanks := by
  unfold Printer.askWithdrawal
  split
  · split <;> rfl
  · rfl

theorem Printer.recoverIfDue_blanks (pr : Printer) : pr.recoverIfDue.blanks = pr.blanks := by
  unfold Printer.recoverIfDue; split <;> rfl

@[simp] theorem State.blanks_compareCapability (p : PrinterId) : (s.compareCapability p).blanks = s.blanks := by
  refine s.blanks_modPrinter ?_
  split
  · exact Printer.askWithdrawal_blanks _
  · rfl

@[simp] theorem State.blanks_endCapabilityWait (p : PrinterId) (c : Capability) :
    (s.endCapabilityWait p c).blanks = s.blanks := by
  unfold State.endCapabilityWait
  rw [State.blanks_modPrinter _ (Printer.recoverIfDue_blanks _), State.blanks_compareCapability,
    State.blanks_modPrinter _ rfl]

@[simp] theorem State.blanks_endJobs (chosen : Job → Bool) (e : Ending) : (s.endJobs chosen e).blanks = s.blanks := by
  refine Eq.trans (b := (s.mapPrinters fun p pr => if s.stagedOf p chosen then pr.askWithdrawal else pr).blanks)
    (State.blanks_of_eq rfl rfl rfl) (s.blanks_mapPrinters fun p => ?_)
  split
  · exact Printer.askWithdrawal_blanks _
  · rfl

@[simp] theorem State.blanks_endRecordFull (p : PrinterId) : (s.endRecordFull p).blanks = s.blanks := rfl

@[simp] theorem State.blanks_clearMarkers (pack : Nat) : (s.clearMarkers pack).blanks = s.blanks :=
  s.blanks_mapPrinters fun p => by split <;> rfl

@[simp] theorem State.blanks_clearFlags : s.clearFlags.blanks = s.blanks :=
  Eq.trans (b := (s.mapPrinters fun _ pr => { pr with flags := .clear }).blanks) (State.blanks_of_eq rfl rfl rfl)
    (s.blanks_mapPrinters fun _ => rfl)

@[simp] theorem State.blanks_markDay : s.markDay.blanks = s.blanks :=
  State.blanks_eq (by simp only [State.markDay, List.map_map]; rfl) rfl fun _ => rfl

@[simp] theorem State.blanks_protocol (p : PrinterId) : (s.protocol p).blanks = s.blanks := s.blanks_commit _ _

@[simp] theorem State.blanks_framingFault (port : Port) (fs : List Frame) : (s.framingFault port fs).blanks = s.blanks := by
  simp [State.framingFault]

end Sys2Proof.Machine
end

section
/-!
R1, R3, R13: packs and printers name each other. What the law reads, and how a change at one printer and one pack
keeps it.
-/

namespace Sys2Proof.Machine

/-- What of a pack the law of R3 reads. -/
def Pack.home (k : Pack) : Nat × Location × Option PrinterId × Option PrinterId :=
  (k.id, k.location, k.loadCheck, k.compromisedAt)

/-- What of a printer the law of R3 reads. -/
def Printer.home (pr : Printer) : Option Nat × Option Nat := (pr.loaded, pr.loadCheck.map (·.pack))

theorem exists_mem_of_map_eq {α β : Type} {f : α → β} {l m : List α} (h : l.map f = m.map f) {a : α} (ha : a ∈ l) :
    ∃ b ∈ m, f b = f a := by
  have hm := List.mem_map_of_mem (f := f) ha
  rw [h] at hm
  exact List.mem_map.1 hm

variable {s t : State}

/-- The law of R3 reads nothing but the homes of packs and printers. -/
theorem State.PacksSound.congr (h : s.PacksSound) (hk : t.packs.map Pack.home = s.packs.map Pack.home)
    (hp : ∀ p : PrinterId, t.printers[p].home = s.printers[p].home) : t.PacksSound := by
  have hl : ∀ p : PrinterId, t.printers[p].loaded = s.printers[p].loaded := fun p => congrArg (·.1) (hp p)
  have hc : ∀ p : PrinterId, t.printers[p].loadCheck.map (·.pack) = s.printers[p].loadCheck.map (·.pack) :=
    fun p => congrArg (·.2) (hp p)
  have to_s : ∀ k ∈ t.packs, ∃ x ∈ s.packs, x.home = k.home := fun k => exists_mem_of_map_eq hk
  have to_t : ∀ k ∈ s.packs, ∃ x ∈ t.packs, x.home = k.home := fun k => exists_mem_of_map_eq hk.symm
  constructor
  case size => rw [← List.length_map (f := Pack.home), hk, List.length_map]; exact h.size
  case ids =>
    have hi : t.packs.map (·.id) = s.packs.map (·.id) := by
      have := congrArg (List.map (·.1)) hk
      simpa [List.map_map, Function.comp_def, Pack.home] using this
    rw [hi]; exact h.ids
  case loaded =>
    intro p id hid
    obtain ⟨k, hkm, hki, hkl⟩ := h.loaded p id ((hl p).symm.trans hid)
    obtain ⟨x, hx, he⟩ := to_t k hkm
    simp only [Pack.home, Prod.mk.injEq] at he
    exact ⟨x, hx, he.1.trans hki, he.2.1.trans hkl⟩
  case located =>
    intro k hkm p hloc
    obtain ⟨x, hx, he⟩ := to_s k hkm
    simp only [Pack.home, Prod.mk.injEq] at he
    rw [hl, h.located x hx p (he.2.1.trans hloc), he.1]
  case checking =>
    intro p c hcheck
    have hs := hc p
    rw [hcheck, Option.map_some] at hs
    obtain ⟨d, hd, hdp⟩ := Option.map_eq_some_iff.1 hs.symm
    obtain ⟨hn, k, hkm, hki, hkc, hks⟩ := h.checking p d hd
    obtain ⟨x, hx, he⟩ := to_t k hkm
    simp only [Pack.home, Prod.mk.injEq] at he
    exact ⟨(hl p).trans hn, x, hx, by rw [he.1, hki, hdp], he.2.2.1.trans hkc, he.2.1.trans hks⟩
  case checked =>
    intro k hkm p hcheck
    obtain ⟨x, hx, he⟩ := to_s k hkm
    simp only [Pack.home, Prod.mk.injEq] at he
    obtain ⟨d, hd, hdp⟩ := h.checked x hx p (he.2.2.1.trans hcheck)
    have hs := hc p
    rw [hd, Option.map_some] at hs
    obtain ⟨c, hcp, hcd⟩ := Option.map_eq_some_iff.1 hs
    exact ⟨c, hcp, by rw [hcd, hdp, he.1]⟩
  case compromised =>
    intro k hkm
    obtain ⟨x, hx, he⟩ := to_s k hkm
    simp only [Pack.home, Prod.mk.injEq] at he
    have := h.compromised x hx
    rwa [he.2.1, he.2.2.2] at this

theorem State.blanks_packs (h : t.blanks = s.blanks) : t.packs.map Pack.blanks = s.packs.map Pack.blanks :=
  congrArg (·.packs) h

theorem State.blanks_printer (h : t.blanks = s.blanks) (p : PrinterId) :
    t.printers[p].blanks = s.printers[p].blanks := by
  have := congrArg (fun b => b.printers[p]) h
  simpa [State.blanks, vecGet_map] using this

/-- The law of R3 reads the stock alone. -/
theorem State.PacksSound.of_blanks (h : s.PacksSound) (e : t.blanks = s.blanks) : t.PacksSound := by
  refine h.congr ?_ fun p => ?_
  · have := congrArg (List.map Pack.home) (State.blanks_packs e)
    rwa [List.map_map, List.map_map, show Pack.home ∘ Pack.blanks = Pack.home from rfl] at this
  · have := congrArg Printer.home (State.blanks_printer e p)
    simpa [Printer.home, Printer.blanks, Function.comp_def] using this

/-- A pack id names one pack. -/
theorem State.PacksSound.eq_of_id (h : s.PacksSound) {a b : Pack} (ha : a ∈ s.packs) (hb : b ∈ s.packs)
    (e : a.id = b.id) : a = b :=
  List.inj_on_of_nodup_map h.ids ha hb e

theorem State.pack?_mem {id : Nat} {k : Pack} (h : s.pack? id = some k) : k ∈ s.packs ∧ k.id = id :=
  ⟨List.mem_of_find?_eq_some h, by simpa using List.find?_some h⟩

theorem State.PacksSound.pack? (h : s.PacksSound) {k : Pack} (hk : k ∈ s.packs) : s.pack? k.id = some k := by
  cases hf : s.pack? k.id with
  | none => exact absurd (List.find?_eq_none.1 hf k hk) (by simp)
  | some x =>
    obtain ⟨hx, hi⟩ := State.pack?_mem hf
    rw [h.eq_of_id hx hk hi]

/-- Pack and printer are free of all others: no other printer names the pack, no other pack the printer. -/
structure State.Alone (s : State) (k : Pack) (p : PrinterId) : Prop where
  loaded : ∀ r : PrinterId, r ≠ p → s.printers[r].loaded ≠ some k.id
  checking : ∀ r : PrinterId, r ≠ p → ∀ c : LoadCheck, s.printers[r].loadCheck = some c → c.pack ≠ k.id
  located : ∀ x ∈ s.packs, x.id ≠ k.id → x.location ≠ .loaded p
  checked : ∀ x ∈ s.packs, x.id ≠ k.id → x.loadCheck ≠ some p

/-- The pack loaded in a printer: its location is the printer, and no load check is outstanding on either. -/
theorem State.PacksSound.of_loaded (h : s.PacksSound) {p : PrinterId} {k : Pack} (hk : k ∈ s.packs)
    (hl : s.printers[p].loaded = some k.id) :
    k.location = .loaded p ∧ s.printers[p].loadCheck = none ∧ k.loadCheck = none := by
  obtain ⟨x, hx, hi, hloc⟩ := h.loaded p _ hl
  obtain rfl := h.eq_of_id hx hk hi
  refine ⟨hloc, ?_, ?_⟩
  · cases hc : s.printers[p].loadCheck with
    | none => rfl
    | some c => exact absurd ((h.checking p c hc).1.symm.trans hl) (by simp)
  · cases hc : x.loadCheck with
    | none => rfl
    | some r =>
      obtain ⟨c, hcr, hcp⟩ := h.checked x hx r hc
      obtain ⟨-, y, hy, hyi, -, hys⟩ := h.checking r c hcr
      obtain rfl := h.eq_of_id hx hy (hcp.symm.trans hyi.symm)
      exact absurd (hys.symm.trans hloc) (by simp)

theorem State.PacksSound.alone_of_loaded (h : s.PacksSound) {p : PrinterId} {k : Pack} (hk : k ∈ s.packs)
    (hl : s.printers[p].loaded = some k.id) : s.Alone k p where
  loaded := fun r hr hlr => by
    have h1 := (h.of_loaded hk hl).1
    rw [(h.of_loaded hk hlr).1] at h1
    exact hr (by simpa using h1)
  checking := fun r _ c hc hcp => by
    obtain ⟨-, y, hy, hyi, hyc, -⟩ := h.checking r c hc
    obtain rfl := h.eq_of_id hy hk (hyi.trans hcp)
    exact absurd ((h.of_loaded hy hl).2.2.symm.trans hyc) (by simp)
  located := fun x hx hn hloc => hn (Option.some.inj ((h.located x hx p hloc).symm.trans hl))
  checked := fun x hx _ hc => by
    obtain ⟨c, hcp, -⟩ := h.checked x hx p hc
    exact absurd ((h.of_loaded hk hl).2.1.symm.trans hcp) (by simp)

theorem State.PacksSound.alone_of_checking (h : s.PacksSound) {p : PrinterId} {k : Pack} (hk : k ∈ s.packs)
    {c : LoadCheck} (hc : s.printers[p].loadCheck = some c) (hp : c.pack = k.id) :
    s.Alone k p ∧ s.printers[p].loaded = none ∧ k.loadCheck = some p ∧ k.location = .safe := by
  obtain ⟨hn, x, hx, hi, hxc, hxs⟩ := h.checking p c hc
  obtain rfl := h.eq_of_id hx hk (hi.trans hp)
  refine ⟨⟨fun r _ hl => ?_, fun r hr d hd hdp => ?_, fun y hy _ hloc => ?_, fun y hy hne hyc => ?_⟩, hn, hxc, hxs⟩
  · exact absurd ((h.of_loaded hx hl).1.symm.trans hxs) (by simp)
  · obtain ⟨-, y, hy, hyi, hyc, -⟩ := h.checking r d hd
    obtain rfl := h.eq_of_id hy hx (hyi.trans hdp)
    exact hr (Option.some.inj (hyc.symm.trans hxc))
  · exact absurd ((h.located y hy p hloc).symm.trans hn) (by simp)
  · obtain ⟨d, hd, hdp⟩ := h.checked y hy p hyc
    rw [hc] at hd
    exact hne (by rw [← hdp, ← Option.some.inj hd, hp])

theorem State.PacksSound.alone_of_vacant (h : s.PacksSound) {p : PrinterId} {k : Pack} (hk : k ∈ s.packs)
    (hloc : ∀ r, k.location ≠ .loaded r) (hkc : k.loadCheck = none) (hl : s.printers[p].loaded = none)
    (hc : s.printers[p].loadCheck = none) : s.Alone k p where
  loaded := fun r _ hlr => hloc r (h.of_loaded hk hlr).1
  checking := fun r _ c hcr hcp => by
    obtain ⟨-, y, hy, hyi, hyc, -⟩ := h.checking r c hcr
    obtain rfl := h.eq_of_id hy hk (hyi.trans hcp)
    exact absurd (hkc.symm.trans hyc) (by simp)
  located := fun x hx _ hx' => absurd ((h.located x hx p hx').symm.trans hl) (by simp)
  checked := fun x hx _ hx' => by
    obtain ⟨c, hcp, -⟩ := h.checked x hx p hx'
    exact absurd (hc.symm.trans hcp) (by simp)

/-- A pack that is neither loaded nor under a load check is named by no printer. -/
theorem State.PacksSound.unnamed (h : s.PacksSound) {k : Pack} (hk : k ∈ s.packs) (hloc : ∀ r, k.location ≠ .loaded r)
    (hkc : k.loadCheck = none) (r : PrinterId) :
    s.printers[r].loaded ≠ some k.id ∧ ∀ c, s.printers[r].loadCheck = some c → c.pack ≠ k.id := by
  refine ⟨fun hl => hloc r (h.of_loaded hk hl).1, fun c hc hp => ?_⟩
  exact absurd ((h.alone_of_checking hk hc hp).2.2.1.symm.trans hkc) (by simp)

/-- Pack and printer name each other rightly. -/
structure Pack.Agrees (k : Pack) (p : PrinterId) (q : Printer) : Prop where
  loaded : ∀ id, q.loaded = some id → id = k.id ∧ k.location = .loaded p
  located : ∀ r, k.location = .loaded r → r = p ∧ q.loaded = some k.id
  checking : ∀ c, q.loadCheck = some c → q.loaded = none ∧ c.pack = k.id ∧ k.loadCheck = some p ∧ k.location = .safe
  checked : ∀ r, k.loadCheck = some r → r = p ∧ ∃ c, q.loadCheck = some c ∧ c.pack = k.id
  compromised : k.location = .compromised ↔ k.compromisedAt.isSome = true

/-- The law of R3 is kept where a pack and a printer that are free of all others change so that they still agree. -/
theorem State.PacksSound.update (h : s.PacksSound) {p : PrinterId} {k : Pack} (hk : k ∈ s.packs) (ha : s.Alone k p)
    {g : Pack → Pack} {q : Printer} (hpacks : t.packs = s.packs.map fun x => if x.id = k.id then g x else x)
    (hq : ∀ r : PrinterId, t.printers[r] = if r = p then q else s.printers[r]) (hid : ∀ x, (g x).id = x.id)
    (hag : (g k).Agrees p q) : t.PacksSound := by
  have hmem : ∀ x, x ∈ t.packs ↔ x = g k ∨ (x ∈ s.packs ∧ x.id ≠ k.id) := by
    intro x
    rw [hpacks, List.mem_map]
    constructor
    · rintro ⟨y, hy, rfl⟩
      split
      · rename_i he
        exact Or.inl (by rw [h.eq_of_id hy hk he])
      · rename_i he
        exact Or.inr ⟨hy, he⟩
    · rintro (rfl | ⟨hx, hn⟩)
      · exact ⟨k, hk, if_pos rfl⟩
      · exact ⟨x, hx, if_neg hn⟩
  have hp : t.printers[p] = q := by rw [hq, if_pos rfl]
  have hr : ∀ r : PrinterId, r ≠ p → t.printers[r] = s.printers[r] := fun r hr => by rw [hq, if_neg hr]
  constructor
  case size => rw [hpacks, List.length_map]; exact h.size
  case ids =>
    have : t.packs.map (·.id) = s.packs.map (·.id) := by
      rw [hpacks, List.map_map]
      refine List.map_congr_left fun x _ => ?_
      simp only [Function.comp_apply]
      split
      · exact hid x
      · rfl
    rw [this]; exact h.ids
  case loaded =>
    intro r id hl
    by_cases he : r = p
    · subst he
      rw [hp] at hl
      obtain ⟨rfl, hloc⟩ := hag.loaded id hl
      exact ⟨g k, (hmem _).2 (Or.inl rfl), rfl, hloc⟩
    · rw [hr r he] at hl
      obtain ⟨x, hx, hi, hloc⟩ := h.loaded r id hl
      exact ⟨x, (hmem x).2 (Or.inr ⟨hx, fun e => ha.loaded r he (by rw [hl, ← hi, e])⟩), hi, hloc⟩
  case located =>
    intro x hx r hloc
    rcases (hmem x).1 hx with rfl | ⟨hx, hn⟩
    · obtain ⟨rfl, hl⟩ := hag.located r hloc
      rw [hp, hl]
    · by_cases he : r = p
      · subst he
        exact absurd hloc (ha.located x hx hn)
      · rw [hr r he]; exact h.located x hx r hloc
  case checking =>
    intro r c hc
    by_cases he : r = p
    · subst he
      rw [hp] at hc ⊢
      obtain ⟨hl, hcp, hkc, hks⟩ := hag.checking c hc
      exact ⟨hl, g k, (hmem _).2 (Or.inl rfl), hcp.symm, hkc, hks⟩
    · rw [hr r he] at hc ⊢
      obtain ⟨hl, x, hx, hi, hxc, hxs⟩ := h.checking r c hc
      exact ⟨hl, x, (hmem x).2 (Or.inr ⟨hx, fun e => ha.checking r he c hc (by rw [← hi, e])⟩), hi, hxc, hxs⟩
  case checked =>
    intro x hx r hc
    rcases (hmem x).1 hx with rfl | ⟨hx, hn⟩
    · obtain ⟨rfl, c, hc', hcp⟩ := hag.checked r hc
      exact ⟨c, by rw [hp, hc'], hcp⟩
    · by_cases he : r = p
      · subst he
        exact absurd hc (ha.checked x hx hn)
      · rw [hr r he]; exact h.checked x hx r hc
  case compromised =>
    intro x hx
    rcases (hmem x).1 hx with rfl | ⟨hx, -⟩
    · exact hag.compromised
    · exact h.compromised x hx

/-- The same, where the printer's update is written as one. -/
theorem State.PacksSound.updateAt (h : s.PacksSound) {u : State} {p : PrinterId} {k : Pack} {g : Pack → Pack}
    {f : Printer → Printer} (hk : k ∈ s.packs) (ha : s.Alone k p) (hprinters : u.printers = s.printers)
    (hpacks : u.packs = s.packs.map fun x => if x.id = k.id then g x else x) (hid : ∀ x, (g x).id = x.id)
    (hag : (g k).Agrees p (f s.printers[p])) : (u.modPrinter p f).PacksSound :=
  h.update (q := f s.printers[p]) hk ha hpacks (fun r => by rw [State.modPrinter_get, hprinters]) hid hag

end Sys2Proof.Machine
end

section
/-!
R4, R33, R40: where the blanks of a pack lie. What a printer holds of its pack, counted, and two ways a change keeps
the balance of every pack.
-/

namespace Sys2Proof.Machine

/-- The serials a printer holds, in its slots and its range. -/
def Printer.count (pr : Printer) : Nat := pr.tickets.length + pr.range.elim 0 (·.charges.length)

/-- Nothing is held. -/
def Printer.Vacant (pr : Printer) : Prop := pr.printing = none ∧ pr.staged = none ∧ pr.range = none

/-- R33: tickets are in flight on an UP link only. -/
def Printer.Linked (pr : Printer) : Prop := pr.link ≠ .up → pr.printing = none ∧ pr.staged = none

theorem Printer.Vacant.holds {pr : Printer} (h : pr.Vacant) (id : Nat) : pr.holds id = 0 := by
  obtain ⟨h1, h2, h3⟩ := h
  simp [Printer.holds, h1, h2, h3]

/-- What a printer holds is of its pack. -/
theorem Printer.holdingSound.holds {pr : Printer} {k : Pack} (h : pr.holdingSound k) (id : Nat) :
    pr.holds id = if id = k.id then pr.count else 0 := by
  unfold Printer.holdingSound at h
  unfold Printer.holds Printer.count Printer.tickets
  cases hr : pr.range with
  | some g =>
    rw [hr] at h
    obtain ⟨hp, hs, -, hg, -⟩ := h
    simp [hp, hs, hg, eq_comm]
  | none =>
    rw [hr] at h
    cases hp : pr.printing with
    | none =>
      cases hs : pr.staged with
      | none => simp
      | some f =>
        rw [hp, hs] at h
        obtain ⟨-, hf, -⟩ := h
        rw [← hf]
        simp [@eq_comm _ id]
    | some t =>
      cases hs : pr.staged with
      | none =>
        rw [hp, hs] at h
        obtain ⟨-, ht, -⟩ := h
        rw [← ht]
        simp [@eq_comm _ id]
      | some f =>
        rw [hp, hs] at h
        obtain ⟨-, ht, hf, -⟩ := h
        by_cases he : id = k.id
        · simp [ht, hf, he]
        · simp [ht, hf, he, Ne.symm he]

/-- The law of a holding reads the pack's id and its next serial alone. -/
theorem Printer.holdingSound.congr {pr : Printer} {k k' : Pack} (h : pr.holdingSound k) (hi : k'.id = k.id)
    (hn : k'.next = k.next) : pr.holdingSound k' := by
  unfold Printer.holdingSound at h ⊢
  rw [hi, hn]
  exact h

variable {s t : State}

/-- What a change at one printer does to the count of a pack's held serials. -/
theorem State.held_update {p : PrinterId} {q : Printer}
    (hq : ∀ r : PrinterId, t.printers[r] = if r = p then q else s.printers[r]) (id : Nat) :
    t.held id + s.printers[p].holds id = s.held id + q.holds id := by
  have hs : ∀ u : State, u.held id = ∑ r : PrinterId, u.printers[r].holds id := by
    intro u
    unfold State.held
    rw [show allPrinters = List.finRange 8 from by decide, ← List.ofFn_eq_map, List.sum_ofFn]
  have hc : ∑ r ∈ Finset.univ.erase p, t.printers[r].holds id = ∑ r ∈ Finset.univ.erase p, s.printers[r].holds id :=
    Finset.sum_congr rfl fun r hr => by rw [hq r, if_neg (Finset.ne_of_mem_erase hr)]
  have ht := Finset.add_sum_erase _ (fun r => t.printers[r].holds id) (Finset.mem_univ p)
  have hu := Finset.add_sum_erase _ (fun r => s.printers[r].holds id) (Finset.mem_univ p)
  simp only [hq p, if_pos] at ht
  rw [hs, hs]
  omega

/-- A printer that holds as much of its pack as before. -/
structure Printer.Keeps (a b : Printer) : Prop where
  loaded : b.loaded = a.loaded
  linked : a.Linked → b.Linked
  vacant : a.Vacant → b.Vacant
  holding : ∀ k, a.holdingSound k → b.holdingSound k ∧ b.count = a.count

theorem Printer.Keeps.refl (a : Printer) : a.Keeps a := ⟨rfl, id, id, fun _ h => ⟨h, rfl⟩⟩

/-- What of a pack the balance of R4 reads. -/
def Pack.counts (k : Pack) : Nat × Nat × Nat × Nat × Nat × Nat := (k.id, k.first, k.last, k.next, k.issued, k.spoiled)

/-- The balance is kept where no count of a pack moves and every printer keeps what it holds. -/
theorem State.StockSound.keep (h : s.StockSound) (sound : t.PacksSound)
    (hpacks : t.packs.map Pack.counts = s.packs.map Pack.counts)
    (hq : ∀ p : PrinterId, (s.printers[p]).Keeps t.printers[p]) : t.StockSound := by
  have to_s : ∀ k ∈ t.packs, ∃ x ∈ s.packs, x.counts = k.counts := fun k => exists_mem_of_map_eq hpacks
  have hheld : ∀ id, t.held id = s.held id := by
    intro id
    unfold State.held
    congr 1
    refine List.map_congr_left fun p _ => ?_
    cases hl : s.printers[p].loaded with
    | none =>
      have hv : (s.printers[p]).Vacant := h.empty p hl
      rw [hv.holds, ((hq p).vacant hv).holds]
    | some x =>
      obtain ⟨k, hk, rfl, -⟩ := h.packs.loaded p x hl
      have hs := h.holding p k hk hl
      obtain ⟨ht, hc⟩ := (hq p).holding k hs
      rw [hs.holds, ht.holds, hc]
  refine ⟨sound, fun k hk => ?_, fun k hk => ?_, fun p => (hq p).linked (h.linked p), fun p hl => ?_,
    fun p k hk hl => ?_⟩
  · obtain ⟨x, hx, he⟩ := to_s k hk
    simp only [Pack.counts, Prod.mk.injEq] at he
    have := h.bounds x hx
    omega
  · obtain ⟨x, hx, he⟩ := to_s k hk
    simp only [Pack.counts, Prod.mk.injEq] at he
    have := h.balance x hx
    rw [hheld, ← he.1]
    unfold Pack.unused Pack.size at this ⊢
    omega
  · rw [(hq p).loaded] at hl
    exact (hq p).vacant (h.empty p hl)
  · obtain ⟨x, hx, he⟩ := to_s k hk
    simp only [Pack.counts, Prod.mk.injEq] at he
    rw [(hq p).loaded, ← he.1] at hl
    exact ((hq p).holding x (h.holding p x hx hl)).1.congr he.1.symm he.2.2.2.1.symm

/-- The balance is kept where one pack and the one printer that may hold of it change, their sum staying. -/
theorem State.StockSound.update (h : s.StockSound) (sound : t.PacksSound) {p : PrinterId} {k : Pack}
    (hk : k ∈ s.packs) {g : Pack → Pack} {q : Printer}
    (hpacks : t.packs = s.packs.map fun x => if x.id = k.id then g x else x)
    (hq : ∀ r : PrinterId, t.printers[r] = if r = p then q else s.printers[r])
    (free : ∀ r : PrinterId, r ≠ p → s.printers[r].loaded ≠ some k.id)
    (hid : (g k).id = k.id ∧ (g k).first = k.first ∧ (g k).last = k.last)
    (bounds : k.first ≤ (g k).next ∧ (g k).next ≤ k.last + 1)
    (balance : (g k).issued + (g k).spoiled + q.holds k.id + (g k).unused
      = k.issued + k.spoiled + s.printers[p].holds k.id + k.unused)
    (others : ∀ id, id ≠ k.id → q.holds id = s.printers[p].holds id) (linked : q.Linked)
    (empty : q.loaded = none → q.Vacant)
    (holding : ∀ id, q.loaded = some id → id = k.id ∧ q.holdingSound (g k)
      ∨ id ≠ k.id ∧ q = s.printers[p]) : t.StockSound := by
  obtain ⟨hi, hfirst, hlast⟩ := hid
  have hmem : ∀ x ∈ t.packs, x = g k ∨ (x ∈ s.packs ∧ x.id ≠ k.id) := by
    intro x hx
    rw [hpacks, List.mem_map] at hx
    obtain ⟨y, hy, rfl⟩ := hx
    split
    · rename_i he
      exact Or.inl (by rw [h.packs.eq_of_id hy hk he])
    · rename_i he
      exact Or.inr ⟨hy, he⟩
  have hp : t.printers[p] = q := by rw [hq, if_pos rfl]
  have hr : ∀ r : PrinterId, r ≠ p → t.printers[r] = s.printers[r] := fun r hr => by rw [hq, if_neg hr]
  refine ⟨sound, fun x hx => ?_, fun x hx => ?_, fun r => ?_, fun r hl => ?_, fun r x hx hl => ?_⟩
  · rcases hmem x hx with rfl | ⟨hx, -⟩
    · have := h.bounds k hk
      omega
    · exact h.bounds x hx
  · have hu := State.held_update hq x.id
    rcases hmem x hx with rfl | ⟨hx, hn⟩
    · have hb := h.balance k hk
      rw [hi] at hu ⊢
      unfold Pack.size at hb ⊢
      omega
    · have hb := h.balance x hx
      have ho := others x.id hn
      omega
  · by_cases he : r = p
    · subst he; rw [hp]; exact linked
    · rw [hr r he]; exact h.linked r
  · by_cases he : r = p
    · subst he; rw [hp] at hl ⊢; exact empty hl
    · rw [hr r he] at hl ⊢; exact h.empty r hl
  · rcases hmem x hx with rfl | ⟨hx, hn⟩
    · by_cases he : r = p
      · subst he
        rw [hp] at hl ⊢
        rcases holding _ hl with ⟨-, hs⟩ | ⟨hn, -⟩
        · exact hs
        · exact absurd hi hn
      · rw [hr r he, hi] at hl
        exact absurd hl (free r he)
    · by_cases he : r = p
      · subst he
        rw [hp] at hl ⊢
        rcases holding _ hl with ⟨he, -⟩ | ⟨-, he⟩
        · exact absurd he hn
        · rw [he] at hl ⊢; exact h.holding r x hx hl
      · rw [hr r he] at hl ⊢; exact h.holding r x hx hl

/-- The balance is kept where a printer and its loaded pack change, their sum staying. -/
theorem State.StockSound.work (h : s.StockSound) {p : PrinterId} {k : Pack}
    (hk : k ∈ s.packs) (hl : s.printers[p].loaded = some k.id) {g : Pack → Pack} {q : Printer}
    (hpacks : t.packs = s.packs.map fun x => if x.id = k.id then g x else x)
    (hq : ∀ r : PrinterId, t.printers[r] = if r = p then q else s.printers[r])
    (home : ∀ x, (g x).home = x.home) (qhome : q.home = s.printers[p].home)
    (hfirst : (g k).first = k.first) (hlast : (g k).last = k.last)
    (bounds : k.first ≤ (g k).next ∧ (g k).next ≤ k.last + 1)
    (balance : (g k).issued + (g k).spoiled + q.count + (g k).unused
      = k.issued + k.spoiled + s.printers[p].count + k.unused)
    (linked : q.Linked) (holding : q.holdingSound (g k)) : t.StockSound := by
  have hi : (g k).id = k.id := congrArg (·.1) (home k)
  have hql : q.loaded = some k.id := (congrArg (·.1) qhome).trans hl
  have hs := h.holding p k hk hl
  refine h.update ?_ hk hpacks hq (h.packs.alone_of_loaded hk hl).loaded ⟨hi, hfirst, hlast⟩ bounds ?_ (fun id hn => ?_)
    linked (fun hn => absurd (hql.symm.trans hn) (by simp)) fun id hid => ?_
  · refine h.packs.congr ?_ fun r => ?_
    · rw [hpacks, List.map_map]
      refine List.map_congr_left fun x _ => ?_
      simp only [Function.comp_apply]
      split
      · exact home x
      · rfl
    · rw [hq]
      split
      · subst_vars; exact qhome
      · rfl
  · rw [holding.holds, hs.holds, hi, if_pos rfl, if_pos rfl]
    exact balance
  · rw [holding.holds, hs.holds, hi, if_neg hn, if_neg hn]
  · exact Or.inl ⟨Option.some.inj (hid.symm.trans hql), holding⟩

@[simp] theorem Printer.blanks_count (a : Printer) : a.blanks.count = a.count := by
  unfold Printer.count Printer.tickets
  have length_map (o : Option Ticket) : (o.map Ticket.blanks).toList.length = o.toList.length := by cases o <;> rfl
  cases hr : a.range <;> simp [Printer.blanks, Range.blanks, hr, length_map]

theorem Printer.blanks_vacant (a : Printer) : a.blanks.Vacant ↔ a.Vacant := by
  simp [Printer.Vacant, Printer.blanks]

theorem Printer.blanks_linked (a : Printer) : a.blanks.Linked ↔ a.Linked := by
  unfold Printer.Linked Printer.blanks
  by_cases h : a.link = .up <;> simp [h]

theorem Printer.blanks_holdingSound (a : Printer) (k : Pack) : a.blanks.holdingSound k ↔ a.holdingSound k := by
  unfold Printer.holdingSound
  cases hr : a.range with
  | some g => simp [Printer.blanks, Range.blanks, hr]
  | none =>
    cases hp : a.printing <;> cases hs : a.staged <;> simp [Printer.blanks, Ticket.blanks, hr, hp, hs]

/-- What has the stock of a printer holds as much of its pack. -/
theorem Printer.keeps_of_blanks {a b : Printer} (h : b.blanks = a.blanks) : a.Keeps b where
  loaded := congrArg (·.loaded) h
  linked := fun hl => by rwa [← b.blanks_linked, h, a.blanks_linked]
  vacant := fun hv => by rwa [← b.blanks_vacant, h, a.blanks_vacant]
  holding := fun k hk => by rwa [← b.blanks_holdingSound, h, a.blanks_holdingSound, ← b.blanks_count, h, a.blanks_count,
    and_iff_left rfl]

/-- The law of R4 reads the stock alone. -/
theorem State.StockSound.of_blanks (h : s.StockSound) (e : t.blanks = s.blanks) : t.StockSound := by
  refine h.keep (h.packs.of_blanks e) ?_ fun p => Printer.keeps_of_blanks (State.blanks_printer e p)
  have := congrArg (List.map Pack.counts) (State.blanks_packs e)
  rwa [List.map_map, List.map_map, show Pack.counts ∘ Pack.blanks = Pack.counts from rfl] at this

end Sys2Proof.Machine
end

section
/-!
Every change that a step can make to the blank stock, named once; that each keeps the laws of R3 and R4.
-/

namespace Sys2Proof.Machine

/-- One change to the blank stock, as its rule makes it: of packs in the safe (R12, R19, R20), of the checks and
the pack of a printer (R13 to R18), of its tickets (R33, R34, R38, R58, R74, R75, R82), and of its uncertain range
(R7, R18, R40, R42), of the link (R24), and of the whole office (R93, R186, R187). -/
inductive State.Change (s : State) : State → Prop
  | received (id : Nat) (stock : StockType) (first last : Nat) : first ≤ last → (∀ x ∈ s.packs, x.id ≠ id) →
      s.packs.length < 64 → s.Change { s with packs := s.packs ++ [newPack id stock first last s.clock] }
  | retired (k : Pack) : s.pack? k.id = some k → s.canRetire k = true →
      s.Change { s with packs := s.packs.eraseP (·.id == k.id) }
  | writtenOff (k : Pack) : s.pack? k.id = some k → k.location = .safe ∨ k.location = .compromised →
      k.loadCheck = none → s.hold = false → s.Change (s.writeOff k)
  | checkBegun (p : PrinterId) (k : Pack) (tag : Tag) : s.pack? k.id = some k → k.location = .safe →
      k.loadCheck = none → s.hold = false → s.printers[p].loaded = none → s.printers[p].loadCheck = none →
      s.Change ((s.modPack k.id fun x => { x with loadCheck := some p }).modPrinter p fun pr =>
        { pr with loadCheck := some { pack := k.id, tag := tag, attempt := .first } })
  | checkEnded (p : PrinterId) (c : LoadCheck) : s.printers[p].loadCheck = some c →
      s.Change ((s.modPack c.pack fun x => { x with loadCheck := none }).modPrinter p fun pr =>
        { pr with loadCheck := none })
  | loaded (p : PrinterId) (c : LoadCheck) : s.printers[p].loadCheck = some c →
      s.Change ((s.modPack c.pack fun x => { x with location := .loaded p, loadCheck := none }).modPrinter p fun pr =>
        { pr with loaded := some c.pack, loadCheck := none })
  | unloadBegun (p : PrinterId) (c : UnloadCheck) : s.printers[p].Vacant → s.spoils.length < 256 →
      s.Change (s.modPrinter p fun pr => { pr with unloadCheck := some c })
  | unloadEnded (p : PrinterId) : s.Change (s.modPrinter p fun pr => { pr with unloadCheck := none })
  | unloaded (p : PrinterId) (k : Pack) (n : Nat) : s.printers[p].loaded = some k.id → s.pack? k.id = some k →
      s.printers[p].unloadCheck.isSome = true → n = 0 ∨ k.next + n ≤ k.last + 1 →
      s.Change (((if n = 0 then s else s.writeRun k.id k.next n .missing (some p) none).makeSafe k.id).modPrinter p
        fun pr => { pr with loaded := none, unloadCheck := none })
  | compromised (p : PrinterId) (id : Nat) : s.printers[p].loaded = some id →
      s.printers[p].unloadCheck.isSome = true
        ∨ (s.printers[p].link = .up → s.printers[p].tickets = []) ∧ s.printers[p].range = none →
      s.Change ((s.modPack id fun x => { x with location := .compromised, compromisedAt := some p }).modPrinter p
        fun pr => { pr with loaded := none, unloadCheck := none })
  | granted (p : PrinterId) (k : Pack) (f : Ticket) (fields : List (List Byte)) : s.canTake p = true →
      s.loadedPack p = some k → f.pack = k.id → f.serial = k.next →
      s.Change ((s.assign k).modPrinter p fun pr => pr.place f k.stock fields)
  | issued (p : PrinterId) (t : Ticket) : s.printers[p].printing = some t →
      s.Change ((s.issueBlank t.pack).modPrinter p Printer.finishPrinting)
  | testPrinted (p : PrinterId) (t : Ticket) : s.printers[p].printing = some t →
      s.Change ((s.writeRun t.pack t.serial 1 .test (some p) none).modPrinter p Printer.finishPrinting)
  | jammed (p : PrinterId) (t : Ticket) (n : Nat) (cause : Cause) (f : Option Ticket) :
      s.printers[p].printing = some t → s.printers[p].staged = f →
      s.Change ((f.elim (s.writeRun t.pack t.serial (s.jamRun t n) cause (some p) t.owner) fun f =>
        if 2 ≤ s.jamRun t n then s.writeRun t.pack t.serial (s.jamRun t n) cause (some p) t.owner
        else (s.writeRun t.pack t.serial (s.jamRun t n) cause (some p) t.owner).returnBlank f.pack f.serial).modPrinter p
          fun pr => { pr with printing := none, staged := none })
  | withdrawn (p : PrinterId) (f : Ticket) : s.printers[p].staged = some f →
      s.Change ((s.returnBlank f.pack f.serial).modPrinter p fun pr => { pr with staged := none })
  | promoted (p : PrinterId) : s.printers[p].printing = none → s.Change (s.modPrinter p Printer.promote)
  | lost (p : PrinterId) : s.Change (s.modPrinter p Printer.moveToRange)
  | settled (p : PrinterId) (g : Range) (n : Nat) : s.printers[p].range = some g → g.first ≤ n →
      n ≤ g.first + g.charges.length → s.Change (s.settleRange p g n)
  | spoiledOut (p : PrinterId) (g : Range) : s.printers[p].range = some g →
      s.Change ((s.spoilRange p g.pack g.first g.charges).modPrinter p fun pr => { pr with range := none })
  | relinked (p : PrinterId) (link : Link) : (s.printers[p].link = .up → s.printers[p].tickets = []) →
      s.Change (s.modPrinter p fun pr => { pr with link := link })
  | emptied : s.Change { s with spoils := [] }
  | restarted : s.Change { s with
      packs := s.packs.map fun k => { k with loadCheck := none }, printers := s.printers.map Printer.restart }
  | reset : s.Change State.reset

variable {s t : State}

/-! ## What the operations on blanks write -/

theorem State.writeRun_packs (pack first count : Nat) (cause : Cause) (printer : Option PrinterId)
    (charged : Option JobRef) : (s.writeRun pack first count cause printer charged).packs = s.packs.map fun k =>
      if k.id = pack then { k with spoiled := k.spoiled + count, next := max k.next (first + count) } else k := by
  cases charged <;> rfl

theorem State.writeRun_printers (pack first count : Nat) (cause : Cause) (printer : Option PrinterId)
    (charged : Option JobRef) : (s.writeRun pack first count cause printer charged).printers = s.printers := by
  cases charged <;> rfl

/-- Two updates of one pack are one. -/
theorem map_ite_map_ite {l : List Pack} {id : Nat} {f g : Pack → Pack} (hf : ∀ k, (f k).id = k.id) :
    (l.map fun k => if k.id = id then f k else k).map (fun k => if k.id = id then g k else k)
      = l.map fun k => if k.id = id then g (f k) else k := by
  rw [List.map_map]
  refine List.map_congr_left fun k _ => ?_
  by_cases h : k.id = id <;> simp [h, hf]

/-- R7, R18: a range spoiled from its first serial on counts every serial. -/
theorem State.spoilRange_packs (p : PrinterId) (pack first : Nat) (charges : List (Option JobRef)) :
    (s.spoilRange p pack first charges).packs = s.packs.map fun k =>
      if k.id = pack then
        { k with spoiled := k.spoiled + charges.length
                 next := if charges = [] then k.next else max k.next (first + charges.length) }
      else k := by
  unfold State.spoilRange
  induction charges generalizing s first with
  | nil => simp [runsOf]
  | cons c rest ih =>
    unfold runsOf
    split
    · simp [State.writeRun_packs]
    · rw [List.foldl_cons, ih, State.writeRun_packs]
      refine (map_ite_map_ite (by intro k; rfl)).trans (List.map_congr_left fun k _ => ?_)
      split
      · simp only [List.length_cons, Pack.mk.injEq, reduceCtorEq, if_false, and_true, true_and]
        split
        · subst_vars; simp
        · constructor <;> omega
      · rfl

theorem State.spoilRange_printers (p : PrinterId) (pack first : Nat) (charges : List (Option JobRef)) :
    (s.spoilRange p pack first charges).printers = s.printers := by
  unfold State.spoilRange
  generalize runsOf first charges = runs
  induction runs generalizing s with
  | nil => rfl
  | cons r runs ih => rw [List.foldl_cons, ih, State.writeRun_printers]

/-! ## R3 -/

/-- A change that moves no pack and no check keeps the law of R3. -/
theorem State.PacksSound.modify (h : s.PacksSound) {id : Nat} {g : Pack → Pack} (home : ∀ k, (g k).home = k.home)
    (hk : t.packs = s.packs.map fun k => if k.id = id then g k else k)
    (hp : ∀ r : PrinterId, t.printers[r].home = s.printers[r].home) : t.PacksSound := by
  refine h.congr ?_ hp
  rw [hk, List.map_map]
  refine List.map_congr_left fun k _ => ?_
  simp only [Function.comp_apply]
  split
  · exact home k
  · rfl

theorem State.modPrinter_home {p : PrinterId} {f : Printer → Printer} (h : (f s.printers[p]).home = s.printers[p].home)
    (r : PrinterId) : (s.modPrinter p f).printers[r].home = s.printers[r].home := by
  rw [State.modPrinter_get]
  split
  · subst_vars; exact h
  · rfl

theorem Printer.promote_home (pr : Printer) : pr.promote.home = pr.home := by
  unfold Printer.promote; split <;> rfl

theorem Printer.finishPrinting_home (pr : Printer) : pr.finishPrinting.home = pr.home := by
  unfold Printer.finishPrinting
  split
  · rfl
  · exact Printer.promote_home _

theorem Printer.place_home (pr : Printer) (f : Ticket) (stock : StockType) (fields : List (List Byte)) :
    (pr.place f stock fields).home = pr.home := by
  unfold Printer.place
  dsimp only
  split <;> rfl

theorem State.modPack_packsSound (h : s.PacksSound) {id : Nat} {g : Pack → Pack} (home : ∀ k, (g k).home = k.home) :
    (s.modPack id g).PacksSound := h.modify home rfl fun _ => rfl

theorem State.writeRun_packsSound (h : s.PacksSound) (pack first count : Nat) (cause : Cause)
    (printer : Option PrinterId) (charged : Option JobRef) :
    (s.writeRun pack first count cause printer charged).PacksSound :=
  h.modify (by intro k; rfl) (s.writeRun_packs _ _ _ _ _ _) fun r => by rw [State.writeRun_printers]

theorem State.spoilRange_packsSound (h : s.PacksSound) (p : PrinterId) (pack first : Nat)
    (charges : List (Option JobRef)) : (s.spoilRange p pack first charges).PacksSound :=
  h.modify (by intro k; rfl) (s.spoilRange_packs _ _ _ _) fun r => by rw [State.spoilRange_printers]

theorem State.returnBlank_packsSound (h : s.PacksSound) (pack serial : Nat) : (s.returnBlank pack serial).PacksSound :=
  State.modPack_packsSound h fun _ => rfl

theorem State.issueBlank_packsSound (h : s.PacksSound) (pack : Nat) : (s.issueBlank pack).PacksSound :=
  State.modPack_packsSound h fun _ => rfl

theorem State.assign_packsSound (h : s.PacksSound) (k : Pack) : (s.assign k).PacksSound :=
  State.modPack_packsSound h fun _ => rfl

theorem State.modPrinter_packsSound (h : s.PacksSound) {p : PrinterId} {f : Printer → Printer}
    (hf : (f s.printers[p]).home = s.printers[p].home) : (s.modPrinter p f).PacksSound :=
  h.congr rfl (State.modPrinter_home hf)

theorem State.received_packsSound (h : s.PacksSound) (id : Nat) (stock : StockType) (first last : Nat) (now : Stamp)
    (hid : ∀ x ∈ s.packs, x.id ≠ id) (hlen : s.packs.length < 64) :
    ({ s with packs := s.packs ++ [newPack id stock first last now] } : State).PacksSound where
  size := by simpa using hlen
  ids := by
    simp only [List.map_append, List.map_cons, List.map_nil]
    refine List.Nodup.append h.ids (List.nodup_singleton _) ?_
    simp only [newPack, List.disjoint_singleton, List.mem_map, not_exists, not_and]
    exact hid
  loaded := fun p x hx => by
    obtain ⟨k, hk, hr⟩ := h.loaded p x hx
    exact ⟨k, List.mem_append_left _ hk, hr⟩
  located := fun k hk p hl => by
    rcases List.mem_append.1 hk with hk | hk
    · exact h.located k hk p hl
    · cases List.mem_singleton.1 hk; cases hl
  checking := fun p c hc => by
    obtain ⟨hn, k, hk, hr⟩ := h.checking p c hc
    exact ⟨hn, k, List.mem_append_left _ hk, hr⟩
  checked := fun k hk p hl => by
    rcases List.mem_append.1 hk with hk | hk
    · exact h.checked k hk p hl
    · cases List.mem_singleton.1 hk; cases hl
  compromised := fun k hk => by
    rcases List.mem_append.1 hk with hk | hk
    · exact h.compromised k hk
    · cases List.mem_singleton.1 hk; simp [newPack]

/-- What is left of a table without one record. -/
theorem State.PacksSound.mem_eraseP (h : s.PacksSound) {k x : Pack} (hk : k ∈ s.packs) :
    x ∈ s.packs.eraseP (·.id == k.id) ↔ x ∈ s.packs ∧ x.id ≠ k.id := by
  constructor
  · intro hx
    have hm := List.mem_of_mem_eraseP hx
    refine ⟨hm, fun he => ?_⟩
    obtain ⟨a, l₁, l₂, hn, ha, hs, he'⟩ := List.exists_of_eraseP hk (p := (·.id == k.id)) (by simp)
    have hnd := h.ids
    rw [he'] at hx
    rw [hs] at hnd
    simp only [List.map_append, List.map_cons, List.nodup_append, List.nodup_cons, List.mem_map,
      List.mem_cons] at hnd
    have hai : a.id = k.id := by simpa using ha
    rcases List.mem_append.1 hx with hx | hx
    · exact hn x hx (by simpa using he)
    · exact hnd.2.1.1 ⟨x, hx, he.trans hai.symm⟩
  · rintro ⟨hx, hn⟩
    exact (List.mem_eraseP_of_neg (by simpa using hn)).2 hx

theorem State.retired_packsSound (h : s.PacksSound) {k : Pack} (hk : k ∈ s.packs) (hloc : k.location = .safe)
    (hkc : k.loadCheck = none) :
    ({ s with packs := s.packs.eraseP (·.id == k.id) } : State).PacksSound := by
  have hun := h.unnamed hk (by simp [hloc]) hkc
  refine ⟨(List.length_eraseP_le).trans h.size, (List.eraseP_sublist.map _).nodup h.ids, fun p x hx => ?_,
    fun x hx => h.located x (List.mem_of_mem_eraseP hx), fun p c hc => ?_,
    fun x hx => h.checked x (List.mem_of_mem_eraseP hx), fun x hx => h.compromised x (List.mem_of_mem_eraseP hx)⟩
  · obtain ⟨y, hy, hyi, hr⟩ := h.loaded p x hx
    exact ⟨y, (h.mem_eraseP hk).2 ⟨hy, fun e => (hun p).1 (by rw [hx, ← hyi, e])⟩, hyi, hr⟩
  · obtain ⟨hn, y, hy, hyi, hr⟩ := h.checking p c hc
    exact ⟨hn, y, (h.mem_eraseP hk).2 ⟨hy, fun e => (hun p).2 c hc (by rw [← hyi, e])⟩, hyi, hr⟩

/-- A pack that no printer names may change so that it still names none. -/
theorem State.PacksSound.update_unnamed (h : s.PacksSound) {k : Pack} (hk : k ∈ s.packs)
    (hloc : ∀ r, k.location ≠ .loaded r) (hkc : k.loadCheck = none) {g : Pack → Pack}
    (hpacks : t.packs = s.packs.map fun x => if x.id = k.id then g x else x) (hprinters : t.printers = s.printers)
    (hid : ∀ x, (g x).id = x.id) (hgloc : (g k).location = .safe) (hgc : (g k).loadCheck = none)
    (hga : (g k).compromisedAt = none) : t.PacksSound := by
  have hun := h.unnamed hk hloc hkc
  have to_s : ∀ x ∈ t.packs, x = g k ∨ x ∈ s.packs := by
    intro x hx
    rw [hpacks, List.mem_map] at hx
    obtain ⟨y, hy, rfl⟩ := hx
    split
    · rename_i he
      exact Or.inl (by rw [h.eq_of_id hy hk he])
    · exact Or.inr hy
  have to_t : ∀ x ∈ s.packs, x.id ≠ k.id → x ∈ t.packs := fun x hx hn => by
    rw [hpacks]
    exact List.mem_map.2 ⟨x, hx, if_neg hn⟩
  constructor
  case size => rw [hpacks, List.length_map]; exact h.size
  case ids =>
    have : t.packs.map (·.id) = s.packs.map (·.id) := by
      rw [hpacks, List.map_map]
      refine List.map_congr_left fun x _ => ?_
      simp only [Function.comp_apply]
      split
      · exact hid x
      · rfl
    rw [this]; exact h.ids
  all_goals try rw [hprinters]
  case loaded =>
    intro p id hl
    obtain ⟨y, hy, rfl, hr⟩ := h.loaded p id hl
    exact ⟨y, to_t y hy fun e => (hun p).1 (by rw [hl, e]), rfl, hr⟩
  case located =>
    intro x hx p hl
    rcases to_s x hx with rfl | hx
    · rw [hgloc] at hl; cases hl
    · exact h.located x hx p hl
  case checking =>
    intro p c hc
    obtain ⟨hn, y, hy, hyi, hr⟩ := h.checking p c hc
    exact ⟨hn, y, to_t y hy fun e => (hun p).2 c hc (by rw [← hyi, e]), hyi, hr⟩
  case checked =>
    intro x hx p hl
    rcases to_s x hx with rfl | hx
    · rw [hgc] at hl; cases hl
    · exact h.checked x hx p hl
  case compromised =>
    intro x hx
    rcases to_s x hx with rfl | hx
    · simp [hgloc, hga]
    · exact h.compromised x hx

theorem State.writeOff_packs (k : Pack) : (s.writeOff k).packs = s.packs.map fun x =>
    if x.id = k.id then
      { x with
        spoiled := x.spoiled + k.unused, next := x.last + 1, location := .safe, compromisedAt := none
        dayMark := if s.dayOpen then x.dayMark else x.last + 1 }
    else x := by
  unfold State.writeOff
  split
  · refine (congrArg _ (s.writeRun_packs _ _ _ _ _ _)).trans ?_
    exact map_ite_map_ite (by intro k; rfl)
  · rename_i hn
    obtain h0 : k.unused = 0 := by omega
    simp only [h0]
    rfl

theorem State.writeOff_printers (k : Pack) : (s.writeOff k).printers = s.printers := by
  unfold State.writeOff
  split
  · exact s.writeRun_printers _ _ _ _ _ _
  · rfl

/-- R16: the packs when one is unloaded, `n` blanks at its top missing. -/
theorem State.missing_packs (q : PrinterId) (id first n : Nat) :
    ((if n = 0 then s else s.writeRun id first n .missing (some q) none).makeSafe id).packs
      = s.packs.map fun x => if x.id = id then
          { x with
            spoiled := x.spoiled + n, next := if n = 0 then x.next else max x.next (first + n)
            location := .safe, compromisedAt := none }
        else x := by
  split
  · subst_vars; rfl
  · refine (congrArg _ (s.writeRun_packs _ _ _ _ _ _)).trans ?_
    exact map_ite_map_ite (by intro k; rfl)

theorem State.missing_printers (q : PrinterId) (id first n : Nat) :
    ((if n = 0 then s else s.writeRun id first n .missing (some q) none).makeSafe id).printers = s.printers := by
  unfold State.makeSafe
  split
  · rfl
  · exact s.writeRun_printers _ _ _ _ _ _

/-- R187: a warm start ends every load check. -/
theorem State.restarted_packsSound (h : s.PacksSound) : ({ s with
    packs := s.packs.map fun k => { k with loadCheck := none }
    printers := s.printers.map Printer.restart } : State).PacksSound := by
  have hp : ∀ p : PrinterId, (s.printers.map Printer.restart)[p] = (s.printers[p]).restart :=
    fun p => vecGet_map _ _ p
  refine ⟨by simpa using h.size, by simpa [Function.comp_def] using h.ids, fun p id hl => ?_, fun k hk p hl => ?_,
    fun p c hc => ?_, fun k hk p hc => ?_, fun k hk => ?_⟩
  · rw [hp] at hl
    obtain ⟨k, hk, hr⟩ := h.loaded p id hl
    exact ⟨_, List.mem_map_of_mem hk, hr⟩
  · obtain ⟨x, hx, rfl⟩ := List.mem_map.1 hk
    rw [hp]
    exact h.located x hx p hl
  · rw [hp] at hc
    cases hc
  · obtain ⟨x, hx, rfl⟩ := List.mem_map.1 hk
    cases hc
  · obtain ⟨x, hx, rfl⟩ := List.mem_map.1 hk
    exact h.compromised x hx

theorem State.reset_printer (p : PrinterId) : State.reset.printers[p] = Printer.start := by
  simp [State.reset]

theorem State.reset_packsSound : State.reset.PacksSound where
  size := Nat.zero_le _
  ids := List.nodup_nil
  loaded := fun p id hl => by rw [State.reset_printer] at hl; cases hl
  located := fun k hk => by cases hk
  checking := fun p c hc => by rw [State.reset_printer] at hc; cases hc
  checked := fun k hk => by cases hk
  compromised := fun k hk => by cases hk

/-- Every change keeps the law of R3. -/
theorem State.Change.packsSound (hc : s.Change t) (h : s.PacksSound) : t.PacksSound := by
  cases hc with
  | received id stock first last _ hid hlen => exact State.received_packsSound h _ _ _ _ _ hid hlen
  | retired k hk hr =>
    simp only [State.canRetire, Bool.and_eq_true, beq_iff_eq, Option.isNone_iff_eq_none] at hr
    obtain ⟨⟨⟨⟨hloc, hkc⟩, -⟩, -⟩, -⟩ := hr
    exact State.retired_packsSound h (State.pack?_mem hk).1 hloc hkc
  | writtenOff k hk hloc hkc _ =>
    refine h.update_unnamed (State.pack?_mem hk).1 ?_ hkc (s.writeOff_packs k) (s.writeOff_printers k) (by intro x; rfl)
      rfl hkc rfl
    intro r hr
    rw [hr] at hloc
    simp at hloc
  | checkBegun p k tag hk hloc hkc _ hl hn =>
    have hm := (State.pack?_mem hk).1
    refine h.updateAt hm (h.alone_of_vacant hm (by simp [hloc]) hkc hl hn) rfl rfl (by intro x; rfl)
      ⟨?_, ?_, ?_, ?_, h.compromised k hm⟩
    · exact fun id hid => absurd (hl.symm.trans hid) (by simp)
    · simp [hloc]
    · rintro c ⟨⟩
      exact ⟨hl, rfl, rfl, hloc⟩
    · rintro r ⟨⟩
      exact ⟨rfl, _, rfl, rfl⟩
  | checkEnded p c hc =>
    obtain ⟨hn, k, hk, hki, hkc, hks⟩ := h.checking p c hc
    obtain ⟨ha, -⟩ := h.alone_of_checking hk hc hki.symm
    rw [← hki]
    refine h.updateAt hk ha rfl rfl (by intro x; rfl) ⟨?_, ?_, ?_, ?_, h.compromised k hk⟩
    · exact fun id hid => absurd (hn.symm.trans hid) (by simp)
    · simp [hks]
    · simp
    · simp
  | loaded p c hc =>
    obtain ⟨hn, k, hk, hki, hkc, hks⟩ := h.checking p c hc
    obtain ⟨ha, -⟩ := h.alone_of_checking hk hc hki.symm
    have hcomp := h.compromised k hk
    rw [hks] at hcomp
    rw [← hki]
    refine h.updateAt hk ha rfl rfl (by intro x; rfl) ⟨?_, ?_, ?_, ?_, ?_⟩
    · rintro x ⟨⟩
      exact ⟨rfl, rfl⟩
    · rintro r ⟨⟩
      exact ⟨rfl, rfl⟩
    · simp
    · simp
    · simpa using hcomp
  | unloadBegun p c _ _ => exact State.modPrinter_packsSound h rfl
  | unloadEnded p => exact State.modPrinter_packsSound h rfl
  | unloaded p k n hl hk _ _ =>
    have hm := (State.pack?_mem hk).1
    obtain ⟨-, hpc, hkc⟩ := h.of_loaded hm hl
    exact h.updateAt hm (h.alone_of_loaded hm hl) (s.missing_printers p k.id k.next n)
      (s.missing_packs p k.id k.next n) (by intro x; rfl) ⟨by rintro _ ⟨⟩, by rintro _ ⟨⟩, fun c hc => absurd (hpc.symm.trans hc) (by simp),
        fun r hr => absurd (hkc.symm.trans hr) (by simp), by simp⟩
  | compromised p id hl _ =>
    obtain ⟨k, hk, rfl, -⟩ := h.loaded p id hl
    obtain ⟨hloc, hpc, hkc⟩ := h.of_loaded hk hl
    exact h.updateAt hk (h.alone_of_loaded hk hl) rfl rfl (by intro x; rfl)
      ⟨by rintro _ ⟨⟩, by rintro _ ⟨⟩, fun c hc => absurd (hpc.symm.trans hc) (by simp),
        fun r hr => absurd (hkc.symm.trans hr) (by simp), by simp⟩
  | granted p k f fields _ _ _ _ =>
    exact State.modPrinter_packsSound (State.assign_packsSound h k) (Printer.place_home _ _ _ _)
  | issued p t _ =>
    exact State.modPrinter_packsSound (State.issueBlank_packsSound h _) (Printer.finishPrinting_home _)
  | testPrinted p t _ =>
    exact State.modPrinter_packsSound (State.writeRun_packsSound h _ _ _ _ _ _) (Printer.finishPrinting_home _)
  | jammed p t n cause f _ _ =>
    refine State.modPrinter_packsSound ?_ rfl
    have hw := State.writeRun_packsSound h t.pack t.serial (s.jamRun t n) cause (some p) t.owner
    cases f with
    | none => exact hw
    | some f =>
      rw [Option.elim_some]
      split
      · exact hw
      · exact State.returnBlank_packsSound hw _ _
  | withdrawn p f _ => exact State.modPrinter_packsSound (State.returnBlank_packsSound h _ _) rfl
  | promoted p _ => exact State.modPrinter_packsSound h (Printer.promote_home _)
  | lost p => exact State.modPrinter_packsSound h rfl
  | settled p g n _ _ _ =>
    exact State.modPrinter_packsSound (State.returnBlank_packsSound (State.spoilRange_packsSound h _ _ _ _) _ _) rfl
  | spoiledOut p g _ => exact State.modPrinter_packsSound (State.spoilRange_packsSound h _ _ _ _) rfl
  | relinked p link _ => exact State.modPrinter_packsSound h rfl
  | emptied => exact h.congr rfl fun _ => rfl
  | restarted => exact State.restarted_packsSound h
  | reset => exact State.reset_packsSound

/-! ## R4 -/

/-- The pack of a printer that holds something, with what it holds. -/
theorem State.StockSound.working (h : s.StockSound) {p : PrinterId} (hv : ¬(s.printers[p]).Vacant) :
    ∃ k ∈ s.packs, s.printers[p].loaded = some k.id ∧ s.pack? k.id = some k ∧ (s.printers[p]).holdingSound k := by
  cases hl : s.printers[p].loaded with
  | none => exact absurd (h.empty p hl) hv
  | some id =>
    obtain ⟨k, hk, rfl, -⟩ := h.packs.loaded p id hl
    exact ⟨k, hk, rfl, h.packs.pack? hk, h.holding p k hk hl⟩

/-- A printer with a ticket in PRINTING: its ticket is its pack's, the last assigned or the last but one. -/
theorem Printer.holdingSound.of_printing {pr : Printer} {k : Pack} (h : pr.holdingSound k) {t : Ticket}
    (hp : pr.printing = some t) : pr.range = none ∧ pr.unloadCheck = none ∧ t.pack = k.id
      ∧ (pr.staged = none ∧ t.serial + 1 = k.next
        ∨ ∃ f, pr.staged = some f ∧ f.pack = k.id ∧ t.serial + 1 = f.serial ∧ f.serial + 1 = k.next) := by
  unfold Printer.holdingSound at h
  cases hr : pr.range with
  | some g =>
    rw [hr] at h
    exact absurd (h.1.symm.trans hp) (by simp)
  | none =>
    rw [hr, hp] at h
    cases hs : pr.staged with
    | none =>
      rw [hs] at h
      obtain ⟨hu, ht, hn⟩ := h
      exact ⟨rfl, hu, ht, Or.inl ⟨rfl, hn⟩⟩
    | some f =>
      rw [hs] at h
      obtain ⟨hu, ht, hf, htn, hn⟩ := h
      exact ⟨rfl, hu, ht, Or.inr ⟨f, rfl, hf, htn, hn⟩⟩

/-- A printer with a ticket in STAGED: its ticket is the last assigned of its pack. -/
theorem Printer.holdingSound.of_staged {pr : Printer} {k : Pack} (h : pr.holdingSound k) {f : Ticket}
    (hs : pr.staged = some f) : pr.range = none ∧ pr.unloadCheck = none ∧ f.pack = k.id ∧ f.serial + 1 = k.next
      ∧ ∀ t, pr.printing = some t → t.pack = k.id ∧ t.serial + 1 = f.serial := by
  cases hp : pr.printing with
  | some t =>
    obtain ⟨hr, hu, ht, ⟨hn, -⟩ | ⟨f', hf', hfp, htn, hn⟩⟩ := h.of_printing hp
    · exact absurd (hn.symm.trans hs) (by simp)
    · obtain rfl := Option.some.inj (hf'.symm.trans hs)
      refine ⟨hr, hu, hfp, hn, ?_⟩
      rintro t' ⟨⟩
      exact ⟨ht, htn⟩
  | none =>
    unfold Printer.holdingSound at h
    cases hr : pr.range with
    | some g =>
      rw [hr] at h
      exact absurd (h.2.1.symm.trans hs) (by simp)
    | none =>
      rw [hr, hp, hs] at h
      obtain ⟨hu, hf, hn⟩ := h
      exact ⟨rfl, hu, hf, hn, by simp⟩

/-- A printer with an uncertain range: it holds nothing else, and the range ends where the pack's unused blanks
begin. -/
theorem Printer.holdingSound.of_range {pr : Printer} {k : Pack} (h : pr.holdingSound k) {g : Range}
    (hr : pr.range = some g) : pr.printing = none ∧ pr.staged = none ∧ pr.unloadCheck = none ∧ g.pack = k.id
      ∧ 1 ≤ g.charges.length ∧ g.charges.length ≤ 2 ∧ g.first + g.charges.length = k.next := by
  unfold Printer.holdingSound at h
  rw [hr] at h
  exact h

/-- A printer that holds nothing holds it rightly. -/
theorem Printer.Vacant.holdingSound {pr : Printer} (h : pr.Vacant) (k : Pack) : pr.holdingSound k := by
  obtain ⟨hp, hs, hr⟩ := h
  simp only [Printer.holdingSound, hp, hs, hr]

theorem Printer.Vacant.count {pr : Printer} (h : pr.Vacant) : pr.count = 0 := by
  obtain ⟨hp, hs, hr⟩ := h
  simp [Printer.count, Printer.tickets, hp, hs, hr]

/-- A printer under an unload check holds nothing. -/
theorem Printer.holdingSound.vacant_of_unload {pr : Printer} {k : Pack} (h : pr.holdingSound k)
    (hu : pr.unloadCheck.isSome = true) : pr.Vacant := by
  have hn : pr.unloadCheck ≠ none := fun e => by simp [e] at hu
  refine ⟨?_, ?_, ?_⟩
  · cases hp : pr.printing with
    | none => rfl
    | some t => exact absurd (h.of_printing hp).2.1 hn
  · cases hp : pr.staged with
    | none => rfl
    | some t => exact absurd (h.of_staged hp).2.1 hn
  · cases hp : pr.range with
    | none => rfl
    | some t => exact absurd (h.of_range hp).2.2.1 hn

/-- A held serial is a serial of its pack's. -/
theorem State.StockSound.held_eq_zero (h : s.StockSound) {id : Nat} (hid : ∀ p : PrinterId, s.printers[p].loaded ≠ some id) :
    s.held id = 0 := by
  unfold State.held
  refine List.sum_eq_zero fun n hn => ?_
  obtain ⟨p, -, rfl⟩ := List.mem_map.1 hn
  by_cases hv : (s.printers[p]).Vacant
  · exact hv.holds id
  · obtain ⟨k, hk, hl, -, hs⟩ := h.working hv
    rw [hs.holds, if_neg]
    rintro rfl
    exact hid p hl

/-- A printer that changes and keeps what it holds keeps the balance. -/
theorem State.StockSound.modPrinter (h : s.StockSound) {p : PrinterId} {f : Printer → Printer}
    (hf : (f s.printers[p]).home = s.printers[p].home) (hk : (s.printers[p]).Keeps (f s.printers[p])) :
    (s.modPrinter p f).StockSound := by
  refine h.keep (State.modPrinter_packsSound h.packs hf) rfl fun r => ?_
  rw [State.modPrinter_get]
  split
  · subst_vars; exact hk
  · exact .refl _

theorem Printer.promote_keeps (pr : Printer) (hp : pr.printing = none) : pr.Keeps pr.promote := by
  unfold Printer.promote
  cases hs : pr.staged with
  | none => exact .refl pr
  | some f =>
    refine ⟨rfl, fun hl hn => ?_, fun hv => ?_, fun k h => ⟨?_, ?_⟩⟩
    · exact absurd ((hl hn).2.symm.trans hs) (by simp)
    · exact absurd (hv.2.1.symm.trans hs) (by simp)
    · obtain ⟨hr, hu, hf, hn, -⟩ := h.of_staged hs
      simp only [Printer.holdingSound, hr]
      exact ⟨hu, hf, hn⟩
    · simp [Printer.count, Printer.tickets, hp, hs]

theorem Printer.moveToRange_keeps (pr : Printer) : pr.Keeps pr.moveToRange := by
  refine ⟨rfl, fun _ _ => ⟨rfl, rfl⟩, fun ⟨hp, hs, hr⟩ => ⟨rfl, rfl, ?_⟩, fun k h => ?_⟩
  · simp [Printer.moveToRange, Printer.tickets, hp, hs, hr, rangeOf]
  · cases hp : pr.printing with
    | some t =>
      obtain ⟨hr, hu, ht, ⟨hs, hn⟩ | ⟨f, hs, hf, htn, hn⟩⟩ := h.of_printing hp
      · simp [Printer.holdingSound, Printer.moveToRange, Printer.count, Printer.tickets, rangeOf, hp, hs, hr, hu, ht, hn]
      · simp [Printer.holdingSound, Printer.moveToRange, Printer.count, Printer.tickets, rangeOf, hp, hs, hr, hu, ht]
        omega
    | none =>
      cases hs : pr.staged with
      | some f =>
        obtain ⟨hr, hu, hf, hn, -⟩ := h.of_staged hs
        simp [Printer.holdingSound, Printer.moveToRange, Printer.count, Printer.tickets, rangeOf, hp, hs, hr, hu, hf, hn]
      | none =>
        have : pr.moveToRange = { pr with printTimer := false } := by
          simp [Printer.moveToRange, Printer.tickets, hp, hs, rangeOf]
        rw [this]
        exact ⟨h, rfl⟩

end Sys2Proof.Machine
end

section
/-!
R4: every change to the blank stock keeps the balance of every pack, tickets and ranges lying where they may.
-/

namespace Sys2Proof.Machine

variable {s t : State}

/-- What a printer holds are serials of its pack below the unused ones. -/
theorem State.StockSound.first_add_count (h : s.StockSound) {p : PrinterId} {k : Pack} (hk : k ∈ s.packs)
    (hl : s.printers[p].loaded = some k.id) : k.first + s.printers[p].count ≤ k.next := by
  have hle : s.printers[p].holds k.id ≤ s.held k.id :=
    List.le_sum_of_mem (List.mem_map_of_mem (f := fun q : PrinterId => s.printers[q].holds k.id) (mem_allPrinters p))
  rw [(h.holding p k hk hl).holds, if_pos rfl] at hle
  have hb := h.balance k hk
  have := h.bounds k hk
  unfold Pack.unused Pack.size at hb
  omega

/-- Without a range a printer holds what is in its slots. -/
theorem Printer.count_of_range {pr : Printer} (hr : pr.range = none) : pr.count = pr.tickets.length := by
  rw [Printer.count, hr, Option.elim_none, Nat.add_zero]

/-- A ticket is in flight on an UP link. -/
theorem State.StockSound.up_of_printing (h : s.StockSound) {p : PrinterId} {f : Ticket}
    (hp : s.printers[p].printing = some f) : s.printers[p].link = .up := by
  by_contra hn
  exact absurd ((h.linked p hn).1.symm.trans hp) (by simp)

theorem Printer.linked_of_up {pr : Printer} (h : pr.link = .up) : pr.Linked := fun hn => absurd h hn

theorem Printer.promote_link (pr : Printer) : pr.promote.link = pr.link := by
  unfold Printer.promote; split <;> rfl

theorem Printer.finishPrinting_link (pr : Printer) : pr.finishPrinting.link = pr.link := by
  unfold Printer.finishPrinting
  split
  · rfl
  · exact Printer.promote_link _

/-- R34: a printed ticket leaves the slots, and the other moves up or stays. -/
theorem Printer.holdingSound.finishPrinting {pr : Printer} {k : Pack} (h : pr.holdingSound k) {f : Ticket}
    (hp : pr.printing = some f) : pr.finishPrinting.holdingSound k ∧ pr.finishPrinting.count + 1 = pr.count := by
  have hq : ({ pr with printing := none, printTimer := false } : Printer).holdingSound k
      ∧ ({ pr with printing := none, printTimer := false } : Printer).count + 1 = pr.count := by
    obtain ⟨hr, hu, -, ⟨hs, -⟩ | ⟨f', hs, hf, -, hn⟩⟩ := h.of_printing hp
    · simp [Printer.holdingSound, Printer.count, Printer.tickets, hp, hs, hr]
    · simp [Printer.holdingSound, Printer.count, Printer.tickets, hp, hs, hr, hu, hf, hn]
  unfold Printer.finishPrinting
  dsimp only
  split
  · exact hq
  · obtain ⟨hk, hc⟩ := (Printer.promote_keeps { pr with printing := none, printTimer := false } rfl).holding k hq.1
    exact ⟨hk, by rw [hc]; exact hq.2⟩

/-- R33: a ticket with the pack's next serial is placed behind what the printer holds. -/
theorem Printer.holdingSound.place {pr : Printer} {k k' : Pack} (h : pr.holdingSound k) {f : Ticket}
    {stock : StockType} {fields : List (List Byte)} (hr : pr.range = none) (hs : pr.staged = none)
    (hu : pr.unloadCheck = none) (hf : f.pack = k.id) (hn : f.serial = k.next) (hk : k'.id = k.id)
    (hk' : k'.next = k.next + 1) :
    (pr.place f stock fields).holdingSound k' ∧ (pr.place f stock fields).count = pr.count + 1 := by
  cases hp : pr.printing with
  | none =>
    simp [Printer.place, Printer.holdingSound, Printer.count, Printer.tickets, hp, hr, hs, hu, hf, hn, hk, hk']
  | some a =>
    obtain ⟨-, -, ha, ⟨-, han⟩ | ⟨b, hb, -⟩⟩ := h.of_printing hp
    · simp [Printer.place, Printer.holdingSound, Printer.count, Printer.tickets, hp, hr, hs, hu, hf, hn, hk, hk', ha, han]
    · exact absurd (hs.symm.trans hb) (by simp)

theorem Printer.place_link (pr : Printer) (f : Ticket) (stock : StockType) (fields : List (List Byte)) :
    (pr.place f stock fields).link = pr.link := by
  unfold Printer.place
  dsimp only
  split <;> rfl

/-- What R33 asks of a printer that takes a ticket. -/
theorem State.canTake_iff {p : PrinterId} : s.canTake p = true ↔
    s.printers[p].link = .up ∧ s.printers[p].service = .ready ∧ s.hold = false ∧ s.printers[p].range = none
      ∧ ((s.loadedPack p).any fun k => 1 ≤ k.unused) = true ∧ s.printers[p].unloadCheck = none
      ∧ s.printers[p].withdrawal = false ∧ s.printers[p].staged = none
      ∧ (s.printers[p].printing.isNone || s.printers[p].capability.any (·.staging)) = true := by
  simp only [State.canTake, State.canServe, Printer.slotOpen, Bool.and_eq_true, beq_iff_eq, Bool.not_eq_true',
    Option.isNone_iff_eq_none, and_assoc]

/-- The balance is kept where the update of a printer and that of its loaded pack keep their sum. -/
theorem State.StockSound.workAt (h : s.StockSound) {u : State} {p : PrinterId} {k : Pack} {g : Pack → Pack}
    {f : Printer → Printer} (hk : k ∈ s.packs) (hl : s.printers[p].loaded = some k.id)
    (hprinters : u.printers = s.printers) (hpacks : u.packs = s.packs.map fun x => if x.id = k.id then g x else x)
    (home : ∀ x, (g x).home = x.home) (fhome : (f s.printers[p]).home = s.printers[p].home)
    (ends : (g k).first = k.first ∧ (g k).last = k.last) (bounds : k.first ≤ (g k).next ∧ (g k).next ≤ k.last + 1)
    (balance : (g k).issued + (g k).spoiled + (f s.printers[p]).count + (g k).unused
      = k.issued + k.spoiled + s.printers[p].count + k.unused)
    (linked : (f s.printers[p]).Linked) (holding : (f s.printers[p]).holdingSound (g k)) :
    (u.modPrinter p f).StockSound :=
  h.work (q := f s.printers[p]) hk hl hpacks (fun r => by rw [State.modPrinter_get, hprinters]) home fhome ends.1
    ends.2 bounds balance linked holding

theorem State.issued_stockSound (h : s.StockSound) {p : PrinterId} {f : Ticket}
    (hp : s.printers[p].printing = some f) :
    ((s.issueBlank f.pack).modPrinter p Printer.finishPrinting).StockSound := by
  obtain ⟨k, hk, hl, -, hs⟩ := h.working (p := p) fun hv => absurd (hv.1.symm.trans hp) (by simp)
  obtain ⟨hq, hc⟩ := hs.finishPrinting hp
  rw [(hs.of_printing hp).2.2.1]
  refine h.workAt hk hl (g := fun k => { k with issued := k.issued + 1 }) rfl rfl (fun _ => rfl)
    (Printer.finishPrinting_home _) ⟨rfl, rfl⟩ (h.bounds k hk).2 ?_
    (Printer.linked_of_up ((Printer.finishPrinting_link _).trans (h.up_of_printing hp))) (hq.congr rfl rfl)
  simp only [Pack.unused]
  omega

theorem State.testPrinted_stockSound (h : s.StockSound) {p : PrinterId} {f : Ticket}
    (hp : s.printers[p].printing = some f) :
    ((s.writeRun f.pack f.serial 1 .test (some p) none).modPrinter p Printer.finishPrinting).StockSound := by
  obtain ⟨k, hk, hl, -, hs⟩ := h.working (p := p) fun hv => absurd (hv.1.symm.trans hp) (by simp)
  obtain ⟨hq, hc⟩ := hs.finishPrinting hp
  obtain ⟨-, -, hfp, hserial⟩ := hs.of_printing hp
  have hn : max k.next (f.serial + 1) = k.next := by
    rcases hserial with ⟨-, hn⟩ | ⟨_, -, -, h1, h2⟩ <;> omega
  rw [hfp]
  refine h.workAt hk hl (g := fun k => { k with spoiled := k.spoiled + 1, next := max k.next (f.serial + 1) }) rfl rfl
    (fun _ => rfl) (Printer.finishPrinting_home _) ⟨rfl, rfl⟩ ?_ ?_
    (Printer.linked_of_up ((Printer.finishPrinting_link _).trans (h.up_of_printing hp))) (hq.congr rfl hn)
  · dsimp only
    rw [hn]
    exact (h.bounds k hk).2
  · simp only [Pack.unused, hn]
    omega

/-- R82: the run of a jam starts at the printing ticket and stays in its pack. -/
theorem State.jamRun_bounds {k : Pack} {f : Ticket} (hk : s.pack? f.pack = some k) (hn : f.serial ≤ k.last) (n : Nat) :
    1 ≤ s.jamRun f n ∧ f.serial + s.jamRun f n ≤ k.last + 1 := by
  have hc : 1 ≤ jamCount n := Nat.le_max_left _ _
  unfold State.jamRun
  rw [hk, Option.elim_some]
  omega

/-- R82: a jam empties both slots. -/
theorem Printer.vacant_of_jam {pr : Printer} (hr : pr.range = none) :
    Printer.Vacant { pr with printing := none, staged := none } := ⟨rfl, rfl, hr⟩

theorem State.jammed_stockSound (h : s.StockSound) {p : PrinterId} {f : Ticket} (n : Nat) (cause : Cause)
    (hp : s.printers[p].printing = some f) :
    ((s.printers[p].staged.elim (s.writeRun f.pack f.serial (s.jamRun f n) cause (some p) f.owner) fun x =>
        if 2 ≤ s.jamRun f n then s.writeRun f.pack f.serial (s.jamRun f n) cause (some p) f.owner
        else (s.writeRun f.pack f.serial (s.jamRun f n) cause (some p) f.owner).returnBlank x.pack x.serial).modPrinter p
          fun pr => { pr with printing := none, staged := none }).StockSound := by
  obtain ⟨k, hk, hl, hfind, hs⟩ := h.working (p := p) fun hv => absurd (hv.1.symm.trans hp) (by simp)
  obtain ⟨hr, -, hfp, hserial⟩ := hs.of_printing hp
  have hb := h.bounds k hk
  have hlast : f.serial ≤ k.last := by
    rcases hserial with ⟨-, hn⟩ | ⟨_, -, -, h1, h2⟩ <;> omega
  obtain ⟨h1, hjl⟩ := State.jamRun_bounds (s := s) (by rw [hfp]; exact hfind) hlast n
  generalize s.jamRun f n = j at h1 hjl ⊢
  have hvac := Printer.vacant_of_jam hr
  have hcount : s.printers[p].count = 1 + s.printers[p].staged.toList.length := by
    rw [Printer.count_of_range hr, Printer.tickets, hp, List.length_append]; rfl
  have hfirst := h.first_add_count hk hl
  have hrun := s.writeRun_packs k.id f.serial j cause (some p) f.owner
  have hprinters := s.writeRun_printers k.id f.serial j cause (some p) f.owner
  rcases hserial with ⟨hst, hn⟩ | ⟨x, hst, hxp, htn, hxn⟩
  · rw [hst] at hcount
    rw [hst, Option.elim_none, hfp]
    refine h.workAt hk hl hprinters hrun (by intro x; rfl) rfl ⟨rfl, rfl⟩ ?_ ?_ (fun _ => ⟨rfl, rfl⟩)
      (hvac.holdingSound _)
    · dsimp only; omega
    · rw [hvac.count, hcount]
      simp only [Pack.unused, Option.toList_none, List.length_nil]
      omega
  · rw [hst] at hcount
    simp only [Option.toList_some, List.length_singleton] at hcount
    rw [hst, Option.elim_some, hfp, hxp]
    by_cases h2 : 2 ≤ j
    · rw [if_pos h2]
      refine h.workAt hk hl hprinters hrun (by intro x; rfl) rfl ⟨rfl, rfl⟩ ?_ ?_ (fun _ => ⟨rfl, rfl⟩)
        (hvac.holdingSound _)
      · dsimp only; omega
      · rw [hvac.count, hcount]
        simp only [Pack.unused]
        omega
    · rw [if_neg h2]
      refine h.workAt hk hl (g := fun k => { k with spoiled := k.spoiled + j, next := x.serial }) hprinters ?_
        (by intro x; rfl) rfl ⟨rfl, rfl⟩ ?_ ?_ (fun _ => ⟨rfl, rfl⟩) (hvac.holdingSound _)
      · exact (congrArg _ hrun).trans (map_ite_map_ite (by intro k; rfl))
      · dsimp only; omega
      · rw [hvac.count, hcount]
        simp only [Pack.unused]
        omega

/-- R38: the withdrawn ticket leaves its slot, the other stays. -/
theorem Printer.holdingSound.withdraw {pr : Printer} {k : Pack} (h : pr.holdingSound k) {f : Ticket}
    (hst : pr.staged = some f) :
    ({ pr with staged := none } : Printer).holdingSound { k with next := f.serial }
      ∧ ({ pr with staged := none } : Printer).count + 1 = pr.count := by
  obtain ⟨hr, hu, -, -, hprinting⟩ := h.of_staged hst
  cases hp : pr.printing with
  | none => simp [Printer.holdingSound, Printer.count, Printer.tickets, hr, hp, hst]
  | some x =>
    obtain ⟨hxp, hxn⟩ := hprinting x hp
    simp [Printer.holdingSound, Printer.count, Printer.tickets, hr, hp, hst, hu, hxp, hxn]

theorem State.withdrawn_stockSound (h : s.StockSound) {p : PrinterId} {f : Ticket}
    (hst : s.printers[p].staged = some f) :
    ((s.returnBlank f.pack f.serial).modPrinter p fun pr => { pr with staged := none }).StockSound := by
  obtain ⟨k, hk, hl, -, hs⟩ := h.working (p := p) fun hv => absurd (hv.2.1.symm.trans hst) (by simp)
  obtain ⟨-, -, hfp, hn, -⟩ := hs.of_staged hst
  obtain ⟨hq, hc⟩ := hs.withdraw hst
  have hb := h.bounds k hk
  have hfirst := h.first_add_count hk hl
  have hup : s.printers[p].link = .up := by
    by_contra hn
    exact absurd ((h.linked p hn).2.symm.trans hst) (by simp)
  rw [hfp]
  refine h.workAt hk hl (g := fun k => { k with next := f.serial }) rfl rfl (fun _ => rfl) rfl ⟨rfl, rfl⟩ ?_ ?_
    (Printer.linked_of_up hup) hq
  · dsimp only; omega
  · simp only [Pack.unused]
    omega

theorem State.granted_stockSound (h : s.StockSound) {p : PrinterId} {k : Pack} {f : Ticket}
    {fields : List (List Byte)} (hc : s.canTake p = true) (hl : s.loadedPack p = some k) (hf : f.pack = k.id)
    (hn : f.serial = k.next) : ((s.assign k).modPrinter p fun pr => pr.place f k.stock fields).StockSound := by
  obtain ⟨hup, -, -, hr, hany, hu, -, hst, -⟩ := State.canTake_iff.1 hc
  obtain ⟨id, hid, hfind⟩ := Option.bind_eq_some_iff.1 hl
  obtain ⟨hk, rfl⟩ := State.pack?_mem hfind
  rw [hl] at hany
  have hunused : 1 ≤ k.unused := by simpa using hany
  obtain ⟨hq, hcount⟩ := (h.holding p k hk hid).place (k' := { k with next := k.next + 1 }) (stock := k.stock)
    (fields := fields) hr hst hu hf hn rfl rfl
  have hb := h.bounds k hk
  unfold Pack.unused at hunused
  refine h.workAt hk hid (g := fun k => { k with next := k.next + 1 }) rfl rfl (fun _ => rfl)
    (Printer.place_home _ _ _ _) ⟨rfl, rfl⟩ ?_ ?_ (Printer.linked_of_up ((Printer.place_link _ _ _ _).trans hup)) hq
  · dsimp only; omega
  · rw [hcount]
    simp only [Pack.unused]
    omega

/-- R7: the uncertain range settled at its top serial. -/
theorem State.settled_stockSound (h : s.StockSound) {p : PrinterId} {g : Range} {n : Nat}
    (hr : s.printers[p].range = some g) (hn : g.first ≤ n) (hn' : n ≤ g.first + g.charges.length) :
    (s.settleRange p g n).StockSound := by
  obtain ⟨k, hk, hl, -, hs⟩ := h.working (p := p) fun hv => absurd (hv.2.2.symm.trans hr) (by simp)
  obtain ⟨hp, hst, hu, hg, -, -, hnext⟩ := hs.of_range hr
  have hcount : s.printers[p].count = g.charges.length := by
    rw [Printer.count, Printer.tickets, hp, hst, hr]; exact Nat.zero_add _
  have hfirst := h.first_add_count hk hl
  have hb := h.bounds k hk
  have hvac (pr : Printer) (hp : pr.printing = none) (hst : pr.staged = none) :
      Printer.Vacant { pr with range := none, query := none, printTimeout := false } := ⟨hp, hst, rfl⟩
  have hlen : (g.charges.take (n - g.first)).length = n - g.first := by rw [List.length_take]; omega
  unfold State.settleRange
  rw [hg]
  refine h.workAt hk hl (g := fun k => { k with spoiled := k.spoiled + (n - g.first), next := n })
    (s.spoilRange_printers _ _ _ _) ?_ (by intro x; rfl) rfl ⟨rfl, rfl⟩ ?_ ?_ (fun _ => ⟨hp, hst⟩)
    ((hvac _ hp hst).holdingSound _)
  · refine (congrArg _ (s.spoilRange_packs _ _ _ _)).trans ?_
    rw [hlen]
    exact map_ite_map_ite (by intro k; rfl)
  · dsimp only; omega
  · rw [(hvac _ hp hst).count, hcount]
    simp only [Pack.unused]
    omega

/-- R18: the whole uncertain range spoiled. -/
theorem State.spoiledOut_stockSound (h : s.StockSound) {p : PrinterId} {g : Range}
    (hr : s.printers[p].range = some g) :
    ((s.spoilRange p g.pack g.first g.charges).modPrinter p fun pr => { pr with range := none }).StockSound := by
  obtain ⟨k, hk, hl, -, hs⟩ := h.working (p := p) fun hv => absurd (hv.2.2.symm.trans hr) (by simp)
  obtain ⟨hp, hst, hu, hg, h1, -, hnext⟩ := hs.of_range hr
  have hcount : s.printers[p].count = g.charges.length := by
    rw [Printer.count, Printer.tickets, hp, hst, hr]; exact Nat.zero_add _
  have hvac (pr : Printer) (hp : pr.printing = none) (hst : pr.staged = none) :
      Printer.Vacant { pr with range := none } := ⟨hp, hst, rfl⟩
  have hne : g.charges ≠ [] := fun e => by simp [e] at h1
  rw [hg]
  refine h.workAt hk hl (s.spoilRange_printers _ _ _ _) (s.spoilRange_packs _ _ _ _) (by intro x; rfl) rfl
    ⟨rfl, rfl⟩ ?_ ?_ (fun _ => ⟨hp, hst⟩) ((hvac _ hp hst).holdingSound _)
  · simp only [hne, if_false, hnext, max_self]
    exact (h.bounds k hk).2
  · rw [(hvac _ hp hst).count, hcount]
    simp only [Pack.unused, hne, if_false, hnext, max_self]
    omega

/-- A pack and a printer that holds nothing, as they change where nothing is spoiled but unused blanks. -/
theorem State.StockSound.rehome (h : s.StockSound) {u : State} {p : PrinterId} {k : Pack} {g : Pack → Pack}
    {f : Printer → Printer} (sound : (u.modPrinter p f).PacksSound) (hk : k ∈ s.packs) (ha : s.Alone k p)
    (hv : (s.printers[p]).Vacant) (hprinters : u.printers = s.printers)
    (hpacks : u.packs = s.packs.map fun x => if x.id = k.id then g x else x)
    (hid : (g k).id = k.id ∧ (g k).first = k.first ∧ (g k).last = k.last)
    (hkeep : (g k).issued = k.issued ∧ k.next ≤ (g k).next ∧ (g k).next ≤ k.last + 1
      ∧ (g k).spoiled + k.next = k.spoiled + (g k).next) (hqv : (f s.printers[p]).Vacant)
    (hloaded : ∀ id, (f s.printers[p]).loaded = some id → id = k.id) : (u.modPrinter p f).StockSound := by
  obtain ⟨hi, hle, hlast, hsp⟩ := hkeep
  have hb := h.bounds k hk
  refine h.update (q := f s.printers[p]) sound hk hpacks (fun r => by rw [State.modPrinter_get, hprinters]) ha.loaded hid
    ⟨by omega, hlast⟩ ?_ (fun id _ => by rw [hqv.holds, hv.holds]) (fun _ => ⟨hqv.1, hqv.2.1⟩) (fun _ => hqv)
    fun id he => Or.inl ⟨hloaded id he, hqv.holdingSound _⟩
  rw [hqv.holds, hv.holds, hi]
  unfold Pack.unused
  rw [hid.2.2]
  omega

/-! ## Packs in the safe -/

theorem State.received_stockSound (h : s.StockSound) (id : Nat) (stock : StockType) (first last : Nat) (now : Stamp)
    (hle : first ≤ last) (hid : ∀ x ∈ s.packs, x.id ≠ id) (hlen : s.packs.length < 64) :
    ({ s with packs := s.packs ++ [newPack id stock first last now] } : State).StockSound where
  packs := State.received_packsSound h.packs id stock first last now hid hlen
  bounds := fun k hk => by
    rcases List.mem_append.1 hk with hk | hk
    · exact h.bounds k hk
    · cases List.mem_singleton.1 hk
      exact ⟨hle, le_refl _, by dsimp only [newPack]; omega⟩
  balance := fun k hk => by
    rcases List.mem_append.1 hk with hk | hk
    · exact h.balance k hk
    · cases List.mem_singleton.1 hk
      have h0 : s.held id = 0 := h.held_eq_zero fun p hl => by
        obtain ⟨x, hx, hxi, -⟩ := h.packs.loaded p id hl
        exact hid x hx hxi
      change 0 + 0 + s.held id + (last + 1 - first) = last + 1 - first
      omega
  linked := h.linked
  empty := h.empty
  holding := fun p k hk hl => by
    rcases List.mem_append.1 hk with hk | hk
    · exact h.holding p k hk hl
    · cases List.mem_singleton.1 hk
      obtain ⟨x, hx, hxi, -⟩ := h.packs.loaded p id hl
      exact absurd hxi (hid x hx)

theorem State.retired_stockSound (h : s.StockSound) {k : Pack} (hk : k ∈ s.packs) (hloc : k.location = .safe)
    (hkc : k.loadCheck = none) :
    ({ s with packs := s.packs.eraseP (·.id == k.id) } : State).StockSound where
  packs := State.retired_packsSound h.packs hk hloc hkc
  bounds := fun x hx => h.bounds x (List.mem_of_mem_eraseP hx)
  balance := fun x hx => h.balance x (List.mem_of_mem_eraseP hx)
  linked := h.linked
  empty := h.empty
  holding := fun p x hx => h.holding p x (List.mem_of_mem_eraseP hx)

/-- R19: what is unused of a pack that no printer names is spoiled. -/
theorem State.writeOff_stockSound (h : s.StockSound) {k : Pack} (sound : (s.writeOff k).PacksSound) (hk : k ∈ s.packs)
    (hloc : ∀ r, k.location ≠ .loaded r) (hkc : k.loadCheck = none) : (s.writeOff k).StockSound := by
  have hun := fun r => (h.packs.unnamed hk hloc hkc r).1
  have hb := h.bounds k hk
  let p : PrinterId := 0
  refine h.update (p := p) (q := s.printers[p]) sound hk (s.writeOff_packs k) (fun r => ?_) (fun r _ => hun r)
    ⟨rfl, rfl, rfl⟩ ?_ ?_ (fun _ _ => rfl) (h.linked p) (h.empty p) fun id hid => Or.inr ⟨?_, rfl⟩
  · rw [State.writeOff_printers]
    split
    · subst_vars; rfl
    · rfl
  · dsimp only; omega
  · simp only [Pack.unused]
    omega
  · rintro rfl
    exact hun p hid

/-! ## Checks and the whole office -/

/-- Printers with empty slots keep what they hold where the range stays. -/
theorem Printer.keeps_of_empty {a b : Printer} (hl : b.loaded = a.loaded) (hr : b.range = a.range)
    (ha : a.printing = none ∧ a.staged = none) (hb : b.printing = none ∧ b.staged = none)
    (hu : b.unloadCheck = none ∨ b.unloadCheck = a.unloadCheck ∨ a.range = none) : a.Keeps b := by
  refine ⟨hl, fun _ _ => hb, fun hv => ⟨hb.1, hb.2, hr.trans hv.2.2⟩, fun k h => ⟨?_, ?_⟩⟩
  · cases hg : a.range with
    | none => exact Printer.Vacant.holdingSound ⟨hb.1, hb.2, hr.trans hg⟩ k
    | some g =>
      obtain ⟨-, -, hau, hrest⟩ := h.of_range hg
      have hbu : b.unloadCheck = none := by
        rcases hu with hu | hu | hu
        · exact hu
        · exact hu.trans hau
        · exact absurd (hg.symm.trans hu) (by simp)
      simp only [Printer.holdingSound, hr, hg]
      exact ⟨hb.1, hb.2, hbu, hrest⟩
  · simp [Printer.count, Printer.tickets, hr, ha, hb]

theorem Printer.Keeps.trans {a b c : Printer} (h : a.Keeps b) (h' : b.Keeps c) : a.Keeps c where
  loaded := h'.loaded.trans h.loaded
  linked := fun hl => h'.linked (h.linked hl)
  vacant := fun hv => h'.vacant (h.vacant hv)
  holding := fun k hk => by
    obtain ⟨hb, hbc⟩ := h.holding k hk
    obtain ⟨hc, hcc⟩ := h'.holding k hb
    exact ⟨hc, hcc.trans hbc⟩

theorem Printer.unloadEnded_keeps (pr : Printer) : pr.Keeps { pr with unloadCheck := none } := by
  refine ⟨rfl, fun h => h, fun h => h, fun k h => ⟨?_, rfl⟩⟩
  unfold Printer.holdingSound at h ⊢
  dsimp only
  split <;> simp_all
  split <;> simp_all

theorem Printer.checkEnded_keeps (pr : Printer) (c : Option LoadCheck) : pr.Keeps { pr with loadCheck := c } :=
  ⟨rfl, fun h => h, fun h => h, fun _ h => ⟨h, rfl⟩⟩

theorem Printer.restart_keeps (pr : Printer) : pr.Keeps pr.restart :=
  pr.moveToRange_keeps.trans (Printer.keeps_of_empty rfl rfl ⟨rfl, rfl⟩ ⟨rfl, rfl⟩ (Or.inl rfl))

theorem State.checkBegun_stockSound (h : s.StockSound) {p : PrinterId} {id : Nat} {o : Option PrinterId}
    {c : Option LoadCheck} (sound : ((s.modPack id fun x => { x with loadCheck := o }).modPrinter p fun pr =>
      { pr with loadCheck := c }).PacksSound) :
    ((s.modPack id fun x => { x with loadCheck := o }).modPrinter p fun pr => { pr with loadCheck := c }).StockSound := by
  refine h.keep sound ?_ fun r => ?_
  · refine (List.map_map ..).trans (List.map_congr_left fun x _ => ?_)
    simp only [Function.comp_apply]
    split <;> rfl
  · rw [State.modPrinter_get]
    split
    · subst_vars; exact Printer.checkEnded_keeps _ _
    · exact .refl _

theorem State.restarted_stockSound (h : s.StockSound) : ({ s with
    packs := s.packs.map fun k => { k with loadCheck := none }
    printers := s.printers.map Printer.restart } : State).StockSound := by
  refine h.keep (State.restarted_packsSound h.packs) ?_ fun p => ?_
  · exact (List.map_map ..).trans (List.map_congr_left fun x _ => rfl)
  · have hp : (s.printers.map Printer.restart)[p] = (s.printers[p]).restart := vecGet_map _ _ p
    rw [hp]
    exact Printer.restart_keeps _

theorem State.reset_stockSound : State.reset.StockSound where
  packs := State.reset_packsSound
  bounds := fun k hk => by cases hk
  balance := fun k hk => by cases hk
  linked := fun p _ => by rw [State.reset_printer]; exact ⟨rfl, rfl⟩
  empty := fun p _ => by rw [State.reset_printer]; exact ⟨rfl, rfl, rfl⟩
  holding := fun p k hk => by cases hk

/-- A printer with no ticket in flight while its link is UP has none. -/
theorem State.StockSound.slots_of_tickets (h : s.StockSound) {p : PrinterId}
    (ht : s.printers[p].link = .up → s.printers[p].tickets = []) :
    s.printers[p].printing = none ∧ s.printers[p].staged = none := by
  by_cases hl : s.printers[p].link = .up
  · simpa [Printer.tickets] using ht hl
  · exact h.linked p hl

/-- Every change keeps the balance of R4. -/
theorem State.Change.stockSound (hc : s.Change t) (h : s.StockSound) : t.StockSound := by
  have sound := hc.packsSound h.packs
  cases hc with
  | received id stock first last hle hid hlen => exact State.received_stockSound h _ _ _ _ _ hle hid hlen
  | retired k hk hr =>
    simp only [State.canRetire, Bool.and_eq_true, beq_iff_eq, Option.isNone_iff_eq_none] at hr
    obtain ⟨⟨⟨⟨hloc, hkc⟩, -⟩, -⟩, -⟩ := hr
    exact State.retired_stockSound h (State.pack?_mem hk).1 hloc hkc
  | writtenOff k hk hloc hkc _ =>
    exact State.writeOff_stockSound h sound (State.pack?_mem hk).1 (by intro r hr; rw [hr] at hloc; simp at hloc) hkc
  | checkBegun p k tag hk hloc hkc _ hl hn => exact State.checkBegun_stockSound h sound
  | checkEnded p c hc => exact State.checkBegun_stockSound h sound
  | loaded p c hc =>
    obtain ⟨hn, k, hk, hki, -, -⟩ := h.packs.checking p c hc
    have hb := h.bounds k hk
    have hv : (s.printers[p]).Vacant := h.empty p hn
    rw [← hki] at sound ⊢
    refine h.rehome sound hk (h.packs.alone_of_checking hk hc hki.symm).1 hv rfl rfl ⟨rfl, rfl, rfl⟩
      ⟨rfl, le_refl _, hb.2.2, rfl⟩ hv ?_
    rintro x ⟨⟩
    rfl
  | unloadBegun p c hv _ =>
    exact h.modPrinter rfl (Printer.keeps_of_empty rfl rfl ⟨hv.1, hv.2.1⟩ ⟨hv.1, hv.2.1⟩ (Or.inr (Or.inr hv.2.2)))
  | unloadEnded p => exact h.modPrinter rfl (Printer.unloadEnded_keeps _)
  | unloaded p k n hl hk hu hn =>
    have hm := (State.pack?_mem hk).1
    have hv := (h.holding p k hm hl).vacant_of_unload hu
    have hb := h.bounds k hm
    refine h.rehome sound hm (h.packs.alone_of_loaded hm hl) hv (s.missing_printers _ _ _ _)
      (s.missing_packs _ _ _ _) ⟨rfl, rfl, rfl⟩ ⟨rfl, ?_, ?_, ?_⟩ hv (by rintro _ ⟨⟩)
    all_goals dsimp only; split <;> omega
  | compromised p id hl hempty =>
    obtain ⟨k, hk, rfl, -⟩ := h.packs.loaded p id hl
    have hb := h.bounds k hk
    have hv : (s.printers[p]).Vacant := by
      rcases hempty with hu | ⟨ht, hr⟩
      · exact (h.holding p k hk hl).vacant_of_unload hu
      · obtain ⟨hp, hs⟩ := h.slots_of_tickets ht
        exact ⟨hp, hs, hr⟩
    exact h.rehome sound hk (h.packs.alone_of_loaded hk hl) hv rfl rfl ⟨rfl, rfl, rfl⟩
      ⟨rfl, le_refl _, hb.2.2, rfl⟩ hv (by rintro _ ⟨⟩)
  | granted p k f fields hc hl hf hn => exact State.granted_stockSound h hc hl hf hn
  | issued p t ht => exact State.issued_stockSound h ht
  | testPrinted p t ht => exact State.testPrinted_stockSound h ht
  | jammed p t n cause f ht hf => subst hf; exact State.jammed_stockSound h n cause ht
  | withdrawn p f hf => exact State.withdrawn_stockSound h hf
  | promoted p hp => exact h.modPrinter (Printer.promote_home _) (Printer.promote_keeps _ hp)
  | lost p => exact h.modPrinter rfl (Printer.moveToRange_keeps _)
  | settled p g n hr hn hn' => exact State.settled_stockSound h hr hn hn'
  | spoiledOut p g hr => exact State.spoiledOut_stockSound h hr
  | relinked p link htickets =>
    have he := h.slots_of_tickets htickets
    exact h.modPrinter rfl (Printer.keeps_of_empty rfl rfl he he (Or.inr (Or.inl rfl)))
  | emptied => exact h.keep sound rfl fun p => .refl _
  | restarted => exact State.restarted_stockSound h
  | reset => exact State.reset_stockSound

end Sys2Proof.Machine
end

section
/-!
What a step does to the blank stock: a run of changes, each one of those named. From it the laws of R3 and R4.
-/

namespace Sys2Proof.Machine

/-- A run of changes to the blank stock, all else being free. -/
def State.Moves (s t : State) : Prop := Relation.ReflTransGen (fun a b => b.blanks = a.blanks ∨ a.Change b) s t

variable {s t u : State}

theorem State.Moves.refl : s.Moves s := Relation.ReflTransGen.refl

theorem State.Moves.trans (h : s.Moves t) (h' : t.Moves u) : s.Moves u := Relation.ReflTransGen.trans h h'

theorem State.Moves.of_blanks (h : t.blanks = s.blanks) : s.Moves t := Relation.ReflTransGen.single (Or.inl h)

theorem State.Moves.blanks (h : s.Moves t) (e : u.blanks = t.blanks) : s.Moves u := h.tail (Or.inl e)

theorem State.Moves.change (h : s.Moves t) (c : t.Change u) : s.Moves u := h.tail (Or.inr c)

theorem State.Change.moves (c : s.Change t) : s.Moves t := Relation.ReflTransGen.single (Or.inr c)

theorem State.Moves.packsSound (m : s.Moves t) (h : s.PacksSound) : t.PacksSound := by
  induction m with
  | refl => exact h
  | tail _ hab ih =>
    rcases hab with e | c
    · exact ih.of_blanks e
    · exact c.packsSound ih

theorem State.Moves.stockSound (m : s.Moves t) (h : s.StockSound) : t.StockSound := by
  induction m with
  | refl => exact h
  | tail _ hab ih =>
    rcases hab with e | c
    · exact ih.of_blanks e
    · exact c.stockSound ih

/-- Whatever an answer leads to is reached by changes to the stock. -/
def State.Turns (s : State) (a : Answer) : Prop := ∀ t, a = .next t → s.Moves t

theorem State.Turns.next (h : s.Moves t) : s.Turns (.next t) := by
  rintro _ ⟨⟩
  exact h

theorem State.Turns.fault (f : Fault) : s.Turns (.fault f) := by rintro _ ⟨⟩

/-! ## What a checked command needs -/

theorem need_eq_ok {α : Type} {b : Bool} {c : Code} {k : Unit → Except Code α} {a : α} :
    (need b c >>= k) = .ok a ↔ b = true ∧ k () = .ok a := by
  cases b with
  | true => rw [need_bind rfl]; simp
  | false => rw [need_fails rfl]; simp

theorem want_eq_ok {α β : Type} {o : Option α} {c : Code} {k : α → Except Code β} {b : β} :
    (want o c >>= k) = .ok b ↔ ∃ a, o = some a ∧ k a = .ok b := by
  cases o with
  | none => rw [want_fails rfl]; simp
  | some a => rw [want_bind rfl]; simp

theorem pure_eq_ok {α : Type} {a b : α} : (pure a : Except Code α) = .ok b ↔ a = b := by
  constructor
  · rintro ⟨⟩; rfl
  · rintro ⟨⟩; rfl

theorem bind_eq_ok {α β : Type} {x : Except Code α} {k : α → Except Code β} {b : β} :
    (x >>= k) = .ok b ↔ ∃ a, x = .ok a ∧ k a = .ok b := by
  cases x with
  | error c =>
    constructor
    · rintro ⟨⟩
    · rintro ⟨_, ⟨⟩, _⟩
  | ok a =>
    constructor
    · exact fun h => ⟨a, rfl, h⟩
    · rintro ⟨_, ⟨⟩, hk⟩
      exact hk

theorem windowCommand_turns {kind : Byte} {lo hi : Nat} {port : Port} {tag : Tag} {body : List Byte}
    {act : Window → State → Except Code State} (h : ∀ w a b, act w a = .ok b → a.Moves b) :
    s.Turns (windowCommand kind lo hi port tag body s act) := by
  refine .next ?_
  split
  · refine State.Moves.trans (.of_blanks (s.blanks_sound port)) ?_
    unfold State.answer
    dsimp only
    split
    · exact .of_blanks (State.blanks_refuse ..)
    · rename_i v hv
      cases port with
      | supervisor => cases hv
      | window w =>
        dsimp only at hv
        split at hv
        · exact h w _ _ hv
        · cases hv
  · exact .refl

theorem supervisorCommand_turns {kind : Byte} {lo hi : Nat} {port : Port} {tag : Tag} {body : List Byte}
    {act : State → Except Code State} (h : ∀ a b, act a = .ok b → a.Moves b) :
    s.Turns (supervisorCommand kind lo hi port tag body s act) := by
  refine .next ?_
  split
  · refine State.Moves.trans (.of_blanks (s.blanks_sound port)) ?_
    unfold State.answer
    dsimp only
    split
    · exact .of_blanks (State.blanks_refuse ..)
    · rename_i v hv
      cases port with
      | window w => cases hv
      | supervisor =>
        dsimp only at hv
        split at hv
        · exact h _ _ hv
        · cases hv
  · exact .refl

theorem printerFrame_turns {p : PrinterId} {n : Nat} {body : List Byte} {act : State → Option State}
    (h : ∀ b, act s = some b → s.Moves b) : s.Turns (printerFrame p n body s act) := by
  refine .next ?_
  split
  · split
    · cases ha : act s with
      | none => exact .of_blanks (s.blanks_protocol p)
      | some b => exact h b ha
    · exact .of_blanks (s.blanks_protocol p)
  · exact .refl

theorem event_turns {occurs : Bool} {act : State → State} (h : occurs = true → s.Moves (act s)) :
    s.Turns (event s occurs act) := by
  refine .next ?_
  split
  · rename_i hc
    rw [Bool.and_eq_true] at hc
    exact h hc.2
  · exact .refl

theorem event_never_turns {act : State → State} : s.Turns (event s false act) := event_turns (by simp)

end Sys2Proof.Machine
end

section
/-! The commands and events that leave the blank stock alone. -/

namespace Sys2Proof.Machine

variable {s : State}

/-- A link that is not UP moves between its other states. -/
theorem Printer.blanks_link {pr : Printer} {link : Link} {quiet : Bool} (h : pr.link ≠ .up) (h' : link ≠ .up) :
    ({ pr with link := link, quiet := quiet } : Printer).blanks = pr.blanks := by
  simp [Printer.blanks, h, h']

/-! ## Commands on the terminal ports -/

theorem execOpenShift_turns (port : Port) (tag : Tag) (body : List Byte) : s.Turns (execOpenShift port tag body s) :=
  windowCommand_turns fun w a b h => by
    simp only [need_eq_ok, pure_eq_ok] at h
    obtain ⟨-, -, rfl⟩ := h
    exact .of_blanks (State.blanks_accept ..)

theorem execIssue_turns (port : Port) (tag : Tag) (body : List Byte) : s.Turns (execIssue port tag body s) :=
  windowCommand_turns fun w a b h => by
    simp only [bind_eq_ok, pure_eq_ok] at h
    obtain ⟨job, -, rfl⟩ := h
    exact .of_blanks (State.blanks_accept ..)

theorem execCancel_turns (port : Port) (tag : Tag) (body : List Byte) : s.Turns (execCancel port tag body s) :=
  windowCommand_turns fun w a b h => by
    simp only [need_eq_ok, pure_eq_ok] at h
    obtain ⟨-, rfl⟩ := h
    exact .of_blanks (by simp)

theorem execVoid_turns (port : Port) (tag : Tag) (body : List Byte) : s.Turns (execVoid port tag body s) :=
  windowCommand_turns fun w a b h => by
    simp only [need_eq_ok, want_eq_ok, pure_eq_ok] at h
    obtain ⟨-, _, -, _, -, _, -, -, -, -, rfl⟩ := h
    exact .of_blanks (by simp)

theorem execRefund_turns (port : Port) (tag : Tag) (body : List Byte) : s.Turns (execRefund port tag body s) :=
  windowCommand_turns fun w a b h => by
    simp only [need_eq_ok, want_eq_ok, pure_eq_ok] at h
    obtain ⟨-, -, _, -, _, -, -, rfl⟩ := h
    exact .of_blanks (by simp)

theorem execCloseShift_turns (port : Port) (tag : Tag) (body : List Byte) : s.Turns (execCloseShift port tag body s) :=
  windowCommand_turns fun w a b h => by
    simp only [need_eq_ok, pure_eq_ok] at h
    obtain ⟨-, rfl⟩ := h
    exact .of_blanks (by simp)

theorem execDeclare_turns (port : Port) (tag : Tag) (body : List Byte) : s.Turns (execDeclare port tag body s) :=
  windowCommand_turns fun w a b h => by
    simp only [need_eq_ok, pure_eq_ok] at h
    obtain ⟨-, rfl⟩ := h
    exact .of_blanks (by simp)

theorem execQueryShift_turns (port : Port) (tag : Tag) (body : List Byte) : s.Turns (execQueryShift port tag body s) :=
  windowCommand_turns fun w a b h => by
    simp only [pure_eq_ok] at h
    subst h
    exact .of_blanks (by simp)

theorem execReadShift_turns (port : Port) (tag : Tag) (body : List Byte) : s.Turns (execReadShift port tag body s) :=
  supervisorCommand_turns fun a b h => by
    simp only [want_eq_ok, pure_eq_ok] at h
    obtain ⟨_, -, rfl⟩ := h
    exact .of_blanks (by simp)

theorem execReadEntries_turns (port : Port) (tag : Tag) (body : List Byte) :
    s.Turns (execReadEntries port tag body s) :=
  supervisorCommand_turns fun a b h => by
    simp only [need_eq_ok, want_eq_ok, pure_eq_ok] at h
    obtain ⟨-, _, -, -, -, rfl⟩ := h
    exact .of_blanks (by simp)

theorem execReopenCount_turns (port : Port) (tag : Tag) (body : List Byte) :
    s.Turns (execReopenCount port tag body s) :=
  supervisorCommand_turns fun a b h => by
    simp only [need_eq_ok, want_eq_ok, pure_eq_ok] at h
    obtain ⟨_, -, -, rfl⟩ := h
    exact .of_blanks (by simp [State.sendShiftState, State.flagShift])

theorem execSignOff_turns (port : Port) (tag : Tag) (body : List Byte) : s.Turns (execSignOff port tag body s) :=
  supervisorCommand_turns fun a b h => by
    simp only [need_eq_ok, want_eq_ok, pure_eq_ok] at h
    obtain ⟨_, -, -, -, rfl⟩ := h
    exact .of_blanks (by simp [State.sendShiftState, State.flagShift])

theorem execOpenDay_turns (port : Port) (tag : Tag) (body : List Byte) : s.Turns (execOpenDay port tag body s) :=
  supervisorCommand_turns fun a b h => by
    simp only [need_eq_ok, pure_eq_ok] at h
    obtain ⟨-, rfl⟩ := h
    exact .of_blanks ((State.blanks_accept ..).trans a.blanks_markDay)

theorem execNextFault_turns (port : Port) (tag : Tag) (body : List Byte) : s.Turns (execNextFault port tag body s) :=
  supervisorCommand_turns fun a b h => by
    simp only [pure_eq_ok] at h
    subst h
    exact .of_blanks (by simp)

theorem execReadFault_turns (port : Port) (tag : Tag) (body : List Byte) : s.Turns (execReadFault port tag body s) :=
  supervisorCommand_turns fun a b h => by
    simp only [want_eq_ok, pure_eq_ok] at h
    obtain ⟨_, -, rfl⟩ := h
    exact .of_blanks (by simp)

theorem execAckFault_turns (port : Port) (tag : Tag) (body : List Byte) : s.Turns (execAckFault port tag body s) :=
  supervisorCommand_turns fun a b h => by
    simp only [want_eq_ok, pure_eq_ok] at h
    obtain ⟨_, -, rfl⟩ := h
    exact .of_blanks ((State.blanks_outputs _).trans (State.blanks_accept ..))

theorem execReadChanges_turns (port : Port) (tag : Tag) (body : List Byte) :
    s.Turns (execReadChanges port tag body s) :=
  supervisorCommand_turns fun a b h => by
    simp only [pure_eq_ok] at h
    subst h
    exact .of_blanks (by simp)

theorem execSilenceAlarm_turns (port : Port) (tag : Tag) (body : List Byte) :
    s.Turns (execSilenceAlarm port tag body s) :=
  supervisorCommand_turns fun a b h => by
    simp only [pure_eq_ok] at h
    subst h
    exact .of_blanks ((State.blanks_outputs _).trans (State.blanks_accept ..))

theorem execSelectEntry_turns (port : Port) (tag : Tag) (body : List Byte) :
    s.Turns (execSelectEntry port tag body s) :=
  supervisorCommand_turns fun a b h => by
    simp only [want_eq_ok, pure_eq_ok] at h
    obtain ⟨_, -, rfl⟩ := h
    exact .of_blanks (State.blanks_accept ..)

theorem execReadEntry_turns (port : Port) (tag : Tag) (body : List Byte) : s.Turns (execReadEntry port tag body s) :=
  supervisorCommand_turns fun a b h => by
    simp only [pure_eq_ok] at h
    subst h
    exact .of_blanks (by simp)

theorem State.blanks_settleQuiet (s : State) : s.settleQuiet.blanks = s.blanks :=
  s.blanks_mapPrinters fun p => by
    split
    · rename_i h
      simp only [Bool.and_eq_true, beq_iff_eq] at h
      exact Printer.blanks_link (by rw [h.1.1]; decide) (by decide)
    · rfl

/-- No table of the settings touches the stock. -/
theorem State.writeEntry_blanks {a b : State} {body : List Byte} (h : a.writeEntry body = .ok b) :
    b.blanks = a.blanks := by
  unfold State.writeEntry at h
  split at h
  · simp only [State.writeConcession, need_eq_ok, pure_eq_ok] at h
    obtain ⟨-, -, rfl⟩ := h
    rfl
  · simp only [State.writeSplit, need_eq_ok, want_eq_ok, pure_eq_ok] at h
    obtain ⟨-, -, _, -, -, rfl⟩ := h
    rfl
  · simp only [State.writeRouting, want_eq_ok, pure_eq_ok] at h
    obtain ⟨_, -, rfl⟩ := h
    rfl
  · unfold State.writeFallback at h
    split at h
    · rw [pure_eq_ok] at h
      subst h
      rfl
    · simp only [need_eq_ok, want_eq_ok, pure_eq_ok] at h
      obtain ⟨_, -, -, rfl⟩ := h
      rfl
  · simp only [State.writeTolerance, pure_eq_ok] at h
    subst h
    rfl
  · simp only [State.writeLimits, pure_eq_ok] at h
    subst h
    exact State.blanks_settleQuiet _

theorem execWriteEntry_turns (port : Port) (tag : Tag) (body : List Byte) : s.Turns (execWriteEntry port tag body s) :=
  supervisorCommand_turns fun a b h => by
    simp only [bind_eq_ok, pure_eq_ok] at h
    obtain ⟨t, ht, rfl⟩ := h
    exact .of_blanks (by simpa using State.writeEntry_blanks ht)

theorem execSetClock_turns (port : Port) (tag : Tag) (body : List Byte) : s.Turns (execSetClock port tag body s) :=
  supervisorCommand_turns fun a b h => by
    simp only [need_eq_ok, pure_eq_ok] at h
    obtain ⟨-, rfl⟩ := h
    exact .of_blanks (State.blanks_accept ..)

theorem execReadOffice_turns (port : Port) (tag : Tag) (body : List Byte) : s.Turns (execReadOffice port tag body s) :=
  supervisorCommand_turns fun a b h => by
    simp only [pure_eq_ok] at h
    subst h
    exact .of_blanks (by simp)

theorem execReadPack_turns (port : Port) (tag : Tag) (body : List Byte) : s.Turns (execReadPack port tag body s) :=
  supervisorCommand_turns fun a b h => by
    simp only [bind_eq_ok, pure_eq_ok] at h
    obtain ⟨_, -, rfl⟩ := h
    exact .of_blanks (by simp)

theorem execReadSpoils_turns (port : Port) (tag : Tag) (body : List Byte) : s.Turns (execReadSpoils port tag body s) :=
  supervisorCommand_turns fun a b h => by
    simp only [need_eq_ok, pure_eq_ok] at h
    obtain ⟨-, rfl⟩ := h
    exact .of_blanks (by simp)

theorem execTestPrint_turns (port : Port) (tag : Tag) (body : List Byte) : s.Turns (execTestPrint port tag body s) :=
  supervisorCommand_turns fun a b h => by
    simp only [need_eq_ok, want_eq_ok, pure_eq_ok] at h
    obtain ⟨p, -, _, -, -, -, -, rfl⟩ := h
    exact .of_blanks ((State.blanks_accept ..).trans (a.blanks_modPrinter rfl))

theorem execSetService_turns (port : Port) (tag : Tag) (body : List Byte) : s.Turns (execSetService port tag body s) :=
  supervisorCommand_turns fun a b h => by
    simp only [need_eq_ok, want_eq_ok, pure_eq_ok] at h
    obtain ⟨p, -, -, -, rfl⟩ := h
    exact .of_blanks ((State.blanks_commit ..).trans ((State.blanks_accept ..).trans (a.blanks_modPrinter rfl)))

/-! ## Events of the terminal ports -/

theorem execUnknownKind_turns (port : Port) (kind : Byte) (tag : Tag) : s.Turns (execUnknownKind port kind tag s) := by
  unfold execUnknownKind
  split
  · exact .fault _
  · refine .next (.of_blanks ?_)
    split
    · simp
    · rfl

theorem execFrameError_turns (port : Port) (cause : FramingFault) : s.Turns (execFrameError port cause s) := by
  unfold execFrameError
  split
  · exact .fault _
  · refine .next (.of_blanks ?_)
    split
    · split
      · split
        · exact s.blanks_framingFault _ _
        · rfl
      · exact s.blanks_framingFault _ _
      · exact s.blanks_framingFault _ _
    · rfl

theorem execFrameGap_turns (port : Port) : s.Turns (execFrameGap port s) :=
  event_turns fun _ => .of_blanks (s.blanks_framingFault _ _)

theorem execLineBreak_turns (port : Port) : s.Turns (execLineBreak port s) :=
  event_turns fun _ => .of_blanks (by cases port <;> simp)

theorem execAttach_turns (port : Port) : s.Turns (execAttach port s) :=
  event_turns fun _ => .of_blanks (by cases port <;> simp)

theorem execFrameSent_turns (port : Port) : s.Turns (execFrameSent port s) :=
  event_turns fun _ => .of_blanks (s.blanks_modPort _ _)

/-! ## Events of the printer lines -/

theorem execCapability_turns (p : PrinterId) (tag : Tag) (body : List Byte) : s.Turns (execCapability p tag body s) :=
  printerFrame_turns fun b h => by
    obtain rfl := Option.some.inj h
    refine .of_blanks ((State.blanks_commit ..).trans ?_)
    split
    · exact s.blanks_endCapabilityWait _ _
    · exact (State.blanks_compareCapability ..).trans (s.blanks_modPrinter rfl)

theorem execPrinterFrameError_turns (p : PrinterId) (cause : FramingFault) :
    s.Turns (execPrinterFrameError p cause s) := by
  unfold execPrinterFrameError
  split
  · exact .fault _
  · exact event_turns fun _ => .of_blanks (s.blanks_protocol p)

theorem execPrinterFrameGap_turns (p : PrinterId) : s.Turns (execPrinterFrameGap p s) :=
  event_turns fun _ => .of_blanks (s.blanks_protocol p)

theorem execPrinterUnknownKind_turns (p : PrinterId) (kind : Byte) : s.Turns (execPrinterUnknownKind p kind s) := by
  unfold execPrinterUnknownKind
  split
  · exact .fault _
  · exact event_turns fun _ => .of_blanks (s.blanks_protocol p)

theorem execIdleMark_turns (p : PrinterId) : s.Turns (execIdleMark p s) :=
  event_turns fun h => by
    have hl : s.printers[p].link = .down := by simpa using h
    exact .of_blanks ((State.blanks_commit ..).trans
      (s.blanks_modPrinter (Printer.blanks_link (by rw [hl]; decide) (by decide))))

theorem execLinkGap_turns (p : PrinterId) (cause : GapCause) : s.Turns (execLinkGap p cause s) := by
  unfold execLinkGap
  split
  · rename_i hl
    exact event_turns fun _ => .of_blanks ((State.blanks_commit ..).trans
      (s.blanks_modPrinter (Printer.blanks_link (by rw [hl]; decide) (by decide))))
  · exact event_turns fun _ => .of_blanks (s.blanks_modPrinter rfl)
  · exact event_never_turns
  · exact event_never_turns

theorem execJabberQuiet_turns (p : PrinterId) : s.Turns (execJabberQuiet p s) :=
  event_turns fun h => by
    have hl : s.printers[p].link = .jabber := by simpa using h
    refine .of_blanks ((State.blanks_commit ..).trans (s.blanks_modPrinter ?_))
    split
    · rfl
    · exact Printer.blanks_link (by rw [hl]; decide) (by decide)

theorem execCapabilityWait_turns (p : PrinterId) : s.Turns (execCapabilityWait p s) :=
  event_turns fun _ => .of_blanks (by simp)

theorem execPauseTimer_turns (p : PrinterId) : s.Turns (execPauseTimer p s) := by
  unfold execPauseTimer
  split
  · exact event_turns fun _ => .of_blanks ((State.blanks_commit ..).trans
      (s.blanks_modPrinter (Printer.askWithdrawal_blanks _)))
  · exact event_never_turns

theorem execQueryTimer_turns (p : PrinterId) : s.Turns (execQueryTimer p s) := by
  unfold execQueryTimer
  split
  · exact event_turns fun _ => .of_blanks ((State.blanks_sendLine ..).trans (s.blanks_modPrinter rfl))
  · exact event_turns fun _ => .of_blanks ((State.blanks_commit ..).trans (s.blanks_modPrinter rfl))
  · exact event_never_turns

/-! ## Jobs, clock, contact, lamps, and the retention control -/

theorem execJobWait_turns (w : Window) (tag : Tag) : s.Turns (execJobWait w tag s) := by
  unfold execJobWait
  dsimp only
  split
  · exact event_turns fun _ => .of_blanks ((State.blanks_commit ..).trans (State.blanks_send ..))
  · exact event_never_turns

theorem execRouteWait_turns (w : Window) (tag : Tag) : s.Turns (execRouteWait w tag s) := by
  unfold execRouteWait
  dsimp only
  split
  · exact event_turns fun _ => .of_blanks (s.blanks_modJob _ _)
  · exact event_never_turns

theorem execClockPulse_turns : s.Turns (execClockPulse s) := .next (.of_blanks rfl)

theorem execAlarmIn_turns (active : Bool) : s.Turns (execAlarmIn active s) :=
  event_turns fun _ => .of_blanks (State.blanks_commit ..)

theorem execActivityPulse_turns (p : PrinterId) : s.Turns (execActivityPulse p s) :=
  event_turns fun _ => .of_blanks (s.blanks_modPrinter rfl)

theorem execFlash_turns (p : PrinterId) : s.Turns (execFlash p s) :=
  event_turns fun _ => .of_blanks (s.blanks_modPrinter rfl)

theorem State.blanks_stop (s : State) (phase : Phase) : (s.stop phase).blanks = s.blanks :=
  State.blanks_eq rfl rfl fun p => (congrArg Printer.blanks (vecGet_map _ _ p)).trans rfl

theorem execResetAsserted_turns : s.Turns (execResetAsserted s) := by
  refine .next ?_
  dsimp only
  split
  · exact .of_blanks (State.blanks_stop _ _)
  · exact .of_blanks rfl

theorem execPowerFail_turns : s.Turns (execPowerFail s) := by
  refine .next ?_
  split
  · exact .refl
  · exact .of_blanks (State.blanks_stop _ _)

end Sys2Proof.Machine
end

section
/-! The commands and events that change the blank stock, each a run of the changes named before. -/

namespace Sys2Proof.Machine

variable {s t : State}

/-! ## The stock of an updated state -/

theorem State.modPrinter_modPrinter (s : State) (p : PrinterId) (f g : Printer → Printer) :
    (s.modPrinter p f).modPrinter p g = s.modPrinter p (g ∘ f) := by
  unfold State.modPrinter
  simp only [Function.comp_apply, State.mk.injEq, and_true, true_and, vecGet_set, if_pos]
  exact Vector.set_set ..

theorem State.blanks_modPrinter_congr (h : t.blanks = s.blanks) {p : PrinterId} {f g : Printer → Printer}
    (hp : (f t.printers[p]).blanks = (g s.printers[p]).blanks) :
    (t.modPrinter p f).blanks = (s.modPrinter p g).blanks := by
  refine State.blanks_eq (t := t.modPrinter p f) (State.blanks_packs h :) (congrArg (·.spoils) h :) fun q => ?_
  rw [State.modPrinter_get, State.modPrinter_get]
  split
  · exact hp
  · exact State.blanks_printer h q

theorem State.blanks_modPack_congr (h : t.blanks = s.blanks) {id : Nat} {g : Pack → Pack}
    (hg : ∀ k, (g k).blanks = (g k.blanks).blanks) : (t.modPack id g).blanks = (s.modPack id g).blanks := by
  have hmap (u : State) : (u.modPack id g).packs.map Pack.blanks
      = (u.packs.map Pack.blanks).map fun k => if k.id = id then (g k).blanks else k := by
    simp only [State.modPack, List.map_map]
    refine List.map_congr_left fun k _ => ?_
    show (if k.id = id then g k else k).blanks = if k.id = id then _ else k.blanks
    split
    · exact hg k
    · rfl
  refine State.blanks_eq ?_ (congrArg (·.spoils) h :) (State.blanks_printer h :)
  rw [hmap, hmap, State.blanks_packs h]

theorem State.blanks_returnBlank_congr (h : t.blanks = s.blanks) (pack serial : Nat) :
    (t.returnBlank pack serial).blanks = (s.returnBlank pack serial).blanks :=
  State.blanks_modPack_congr h fun _ => rfl

theorem State.modPrinter_writeRun (s : State) (p : PrinterId) (f : Printer → Printer) (pack first count : Nat)
    (cause : Cause) (printer : Option PrinterId) (charged : Option JobRef) :
    (s.modPrinter p f).writeRun pack first count cause printer charged
      = (s.writeRun pack first count cause printer charged).modPrinter p f := by
  cases charged <;> rfl

theorem State.modPrinter_returnBlank (s : State) (p : PrinterId) (f : Printer → Printer) (pack serial : Nat) :
    (s.modPrinter p f).returnBlank pack serial = (s.returnBlank pack serial).modPrinter p f := rfl

theorem State.modPrinter_issueBlank (s : State) (p : PrinterId) (f : Printer → Printer) (pack : Nat) :
    (s.modPrinter p f).issueBlank pack = (s.issueBlank pack).modPrinter p f := rfl

/-! ## Link loss -/

theorem State.blanks_foldl_loseTicket (p : PrinterId) (l : List Ticket) (s : State) :
    (l.foldl (fun s t => s.loseTicket p t) s).blanks = s.blanks := by
  induction l generalizing s with
  | nil => rfl
  | cons t l ih => rw [List.foldl_cons, ih, State.blanks_loseTicket]

theorem State.blanks_loseTickets (s : State) (p : PrinterId) :
    (s.loseTickets p).blanks = (s.modPrinter p Printer.moveToRange).blanks := State.blanks_foldl_loseTicket _ _ _

theorem State.loseTickets_moves (s : State) (p : PrinterId) : s.Moves (s.loseTickets p) :=
  (State.Change.moves (.lost p)).blanks (s.blanks_loseTickets p)

/-- The slots are empty once their tickets are lost. -/
theorem State.loseTickets_tickets (s : State) (p : PrinterId) : (s.loseTickets p).printers[p].tickets = [] := by
  have h := State.blanks_printer (s.blanks_loseTickets p) p
  rw [State.modPrinter_get, if_pos rfl] at h
  have hp : (s.loseTickets p).printers[p].printing.map Ticket.blanks = none := congrArg (·.printing) h
  have hs : (s.loseTickets p).printers[p].staged.map Ticket.blanks = none := congrArg (·.staged) h
  rw [Option.map_eq_none_iff] at hp hs
  rw [Printer.tickets, hp, hs]
  rfl

theorem State.endLoadCheck_moves {p : PrinterId} {c : LoadCheck} (h : s.printers[p].loadCheck = some c)
    (o : LoadOutcome) : s.Moves (s.endLoadCheck p c o) :=
  (State.Change.moves (.checkEnded p c h)).blanks (State.blanks_send ..)

theorem State.endUnloadCheck_moves (p : PrinterId) (c : UnloadCheck) (pack : Option Nat) (o : UnloadOutcome) :
    s.Moves (s.endUnloadCheck p c pack o) :=
  (State.Change.moves (.unloadEnded p)).blanks (State.blanks_send ..)

theorem State.endChecks_moves (s : State) (p : PrinterId) : s.Moves (s.endChecks p) := by
  have hunload (a : State) : a.Moves (match a.printers[p].unloadCheck with
      | some c => a.endUnloadCheck p c a.printers[p].loaded .linkLost
      | none => a) := by
    split
    · exact State.endUnloadCheck_moves _ _ _ _
    · exact .refl
  refine State.Moves.trans ?_ (hunload _)
  split
  · exact State.endLoadCheck_moves ‹_› _
  · exact .refl

/-- R25: the line forgets what it forgets once its tickets are lost. -/
theorem State.linkLoss_moves (s : State) (p : PrinterId) (link : Link) : s.Moves (s.linkLoss p link) := by
  have hlost := s.loseTickets_moves p
  have hlink := hlost.change (.relinked p link fun _ => s.loseTickets_tickets p)
  exact (hlink.blanks (State.blanks_modPrinter_congr rfl rfl)).trans (State.endChecks_moves _ p)

theorem State.forceDown_moves (s : State) (p : PrinterId) : s.Moves (s.forceDown p) := by
  unfold State.forceDown
  split
  · exact s.linkLoss_moves p _
  · rename_i hl
    exact .of_blanks (s.blanks_modPrinter (Printer.blanks_link (by rw [hl]; decide) (by decide)))
  · rename_i hl
    exact .of_blanks (s.blanks_modPrinter (Printer.blanks_link (by rw [hl]; decide) (by decide)))
  · exact .refl

theorem execResetLine_turns (port : Port) (tag : Tag) (body : List Byte) : s.Turns (execResetLine port tag body s) :=
  supervisorCommand_turns fun a b h => by
    simp only [want_eq_ok, pure_eq_ok] at h
    obtain ⟨p, -, rfl⟩ := h
    exact ((State.Moves.of_blanks (State.blanks_accept ..)).trans (State.forceDown_moves _ p)).blanks
      (State.blanks_commit ..)

theorem execSilenceTimer_turns (p : PrinterId) : s.Turns (execSilenceTimer p s) :=
  event_turns fun _ => (s.linkLoss_moves p _).blanks (State.blanks_commit ..)

theorem execJabber_turns (p : PrinterId) : s.Turns (execJabber p s) :=
  event_turns fun _ => (s.linkLoss_moves p _).blanks (State.blanks_commit ..)

/-! ## The link and the timers -/

theorem execSettleTimer_turns (p : PrinterId) : s.Turns (execSettleTimer p s) :=
  event_turns fun h => by
    have hl : s.printers[p].link = .settling := by simpa using h
    have hup : s.printers[p].link = .up → s.printers[p].tickets = [] := fun e =>
      absurd (hl.symm.trans e) (by decide)
    refine (State.Change.moves (.relinked p .up hup)).blanks ?_
    exact (State.blanks_commit ..).trans ((State.blanks_endCondition ..).trans (State.blanks_modPrinter_congr rfl rfl))

theorem execPrintTimer_turns (p : PrinterId) : s.Turns (execPrintTimer p s) := by
  unfold execPrintTimer
  split
  · exact event_turns fun _ => (s.loseTickets_moves p).blanks
      ((State.blanks_commit ..).trans (State.blanks_modPrinter _ rfl))
  · exact event_never_turns

theorem Printer.blanks_inj {a b : Printer} : a.blanks = b.blanks ↔
    (a.link = .up ↔ b.link = .up) ∧ a.loaded = b.loaded ∧ a.printing.map Ticket.blanks = b.printing.map Ticket.blanks
      ∧ a.staged.map Ticket.blanks = b.staged.map Ticket.blanks ∧ a.range.map Range.blanks = b.range.map Range.blanks
      ∧ a.loadCheck.map (·.pack) = b.loadCheck.map (·.pack) ∧ a.unloadCheck.isSome = b.unloadCheck.isSome := by
  have hlink : ((if a.link = .up then .up else .down : Link) = if b.link = .up then .up else .down)
      ↔ (a.link = .up ↔ b.link = .up) := by
    by_cases ha : a.link = .up <;> by_cases hb : b.link = .up <;> simp [ha, hb]
  have hload : ((a.loadCheck.map fun c => ({ pack := c.pack, tag := 0#8, attempt := .first } : LoadCheck))
      = b.loadCheck.map fun c => { pack := c.pack, tag := 0#8, attempt := .first })
      ↔ a.loadCheck.map (·.pack) = b.loadCheck.map (·.pack) := by
    cases a.loadCheck <;> cases b.loadCheck <;> simp
  have hunload : ((a.unloadCheck.map fun _ => ({ tag := 0#8, attempt := .first } : UnloadCheck))
      = b.unloadCheck.map fun _ => { tag := 0#8, attempt := .first })
      ↔ a.unloadCheck.isSome = b.unloadCheck.isSome := by
    cases a.unloadCheck <;> cases b.unloadCheck <;> simp
  simp only [Printer.blanks, Printer.mk.injEq, hlink, hload, hunload, true_and, and_true]

/-- R34: a promotion moves the staged blank, whatever else of the printer. -/
theorem Printer.promote_blanks_congr {a b : Printer} (h : a.blanks = b.blanks) :
    a.promote.blanks = b.promote.blanks := by
  obtain ⟨hlink, hloaded, hprinting, hstaged, hrange, hload, hunload⟩ := Printer.blanks_inj.1 h
  unfold Printer.promote
  cases ha : a.staged with
  | none =>
    cases hb : b.staged with
    | none => exact h
    | some g => rw [ha, hb] at hstaged; cases hstaged
  | some f =>
    cases hb : b.staged with
    | none => rw [ha, hb] at hstaged; cases hstaged
    | some g =>
      rw [ha, hb] at hstaged
      exact Printer.blanks_inj.2 ⟨hlink, hloaded, hstaged, rfl, hrange, hload, hunload⟩

theorem Printer.endWithdrawal_blanks (pr : Printer) :
    pr.endWithdrawal.blanks = (if pr.printing.isNone then pr.promote else pr).blanks := by
  unfold Printer.endWithdrawal
  dsimp only
  split
  · exact Printer.promote_blanks_congr rfl
  · rfl

theorem State.endWithdrawal_moves (s : State) (p : PrinterId) : s.Moves (s.modPrinter p (·.endWithdrawal)) := by
  have hq := (s.printers[p]).endWithdrawal_blanks
  split at hq
  · rename_i hp
    exact (State.Change.moves (.promoted p (Option.isNone_iff_eq_none.1 hp))).blanks
      (State.blanks_modPrinter_congr rfl hq)
  · exact .of_blanks (s.blanks_modPrinter hq)

theorem execWithdrawalTimer_turns (p : PrinterId) : s.Turns (execWithdrawalTimer p s) :=
  event_turns fun _ => (s.endWithdrawal_moves p).blanks (State.blanks_commit ..)

theorem execLoadAnswerTimer_turns (p : PrinterId) : s.Turns (execLoadAnswerTimer p s) := by
  unfold execLoadAnswerTimer
  split
  · rename_i c hc
    refine event_turns fun _ => ?_
    split
    · refine .of_blanks ((State.blanks_sendLine ..).trans (s.blanks_modPrinter ?_))
      simp only [Printer.blanks, hc, Option.map_some]
    · exact (State.endLoadCheck_moves hc _).blanks (State.blanks_commit ..)
  · exact event_never_turns

theorem execUnloadAnswerTimer_turns (p : PrinterId) : s.Turns (execUnloadAnswerTimer p s) := by
  unfold execUnloadAnswerTimer
  split
  · rename_i c hc
    refine event_turns fun _ => ?_
    split
    · refine .of_blanks ((State.blanks_sendLine ..).trans (s.blanks_modPrinter ?_))
      simp only [Printer.blanks, hc, Option.map_some]
    · exact (State.endUnloadCheck_moves p c _ _).blanks (State.blanks_commit ..)
  · exact event_never_turns

/-! ## Frames of the printers -/

theorem Printer.askWithdrawal_or_not_blanks (pr : Printer) (b : Bool) :
    (if b then pr.askWithdrawal else pr).blanks = pr.blanks := by
  split
  · exact Printer.askWithdrawal_blanks pr
  · rfl

/-- R31, R34: of the stock a STATUS moves a staged ticket at most, into an empty PRINTING. -/
theorem Printer.takeStatus_blanks (pr : Printer) (c : Conditions) : (pr.takeStatus c).blanks = pr.blanks
    ∨ pr.printing = none ∧ (pr.takeStatus c).blanks = pr.promote.blanks := by
  unfold Printer.takeStatus
  dsimp only
  rw [Printer.askWithdrawal_or_not_blanks]
  split
  · rename_i hrel
    simp only [Bool.and_eq_true, Option.isNone_iff_eq_none] at hrel
    exact Or.inr ⟨hrel.1.2, Printer.promote_blanks_congr rfl⟩
  · exact Or.inl rfl

theorem State.takeStatus_moves (s : State) (p : PrinterId) (c : Conditions) :
    s.Moves (s.modPrinter p (·.takeStatus c)) := by
  rcases (s.printers[p]).takeStatus_blanks c with hq | ⟨hp, hq⟩
  · exact .of_blanks (s.blanks_modPrinter hq)
  · exact (State.Change.moves (.promoted p hp)).blanks (State.blanks_modPrinter_congr rfl hq)

theorem execStatus_turns (p : PrinterId) (tag : Tag) (body : List Byte) : s.Turns (execStatus p tag body s) :=
  printerFrame_turns fun b h => by
    obtain rfl := Option.some.inj h
    exact (s.takeStatus_moves p _).blanks (State.blanks_commit ..)

/-- R34: finishing a print reads nothing of a printer but its stock, its pause and its withdrawal. -/
theorem Printer.finishPrinting_blanks_congr {a b : Printer} (h : a.blanks = b.blanks)
    (hp : a.conditions.paused = b.conditions.paused) (hw : a.withdrawal = b.withdrawal) :
    a.finishPrinting.blanks = b.finishPrinting.blanks := by
  obtain ⟨hlink, hloaded, hprinting, hrest⟩ := Printer.blanks_inj.1 h
  have hq : ({ a with printing := none, printTimer := false } : Printer).blanks
      = ({ b with printing := none, printTimer := false } : Printer).blanks :=
    Printer.blanks_inj.2 ⟨hlink, hloaded, rfl, hrest⟩
  unfold Printer.finishPrinting
  dsimp only
  rw [hp, hw]
  split
  · exact hq
  · exact Printer.promote_blanks_congr hq

theorem Printer.passReservation_blanks (pr : Printer) (f : Ticket) : (pr.passReservation f).blanks = pr.blanks := by
  unfold Printer.passReservation
  split
  · simp only [Printer.blanks_inj, Option.map_map, and_true, true_and]
    rfl
  · rfl

theorem Printer.passReservation_paused (pr : Printer) (f : Ticket) :
    (pr.passReservation f).conditions.paused = pr.conditions.paused := by
  unfold Printer.passReservation; split <;> rfl

theorem Printer.passReservation_withdrawal (pr : Printer) (f : Ticket) :
    (pr.passReservation f).withdrawal = pr.withdrawal := by
  unfold Printer.passReservation; split <;> rfl

theorem State.printedJob_moves {p : PrinterId} {f : Ticket} (h : s.printers[p].printing = some f) (ref : JobRef)
    (read : Option Nat) : s.Moves (s.printedJob p f ref read) := by
  refine (State.Change.moves (.issued p f h)).blanks ?_
  have hprinter (b : Bool) (pr : Printer) :
      ((if b then pr.passReservation f else pr).finishPrinting).pulse.blanks = pr.finishPrinting.blanks := by
    cases b
    case false => rfl
    case true =>
      exact Printer.finishPrinting_blanks_congr (pr.passReservation_blanks f) (pr.passReservation_paused f)
        (pr.passReservation_withdrawal f)
  have hticket : ((s.modPrinter p fun pr =>
      ((if read != some f.serial then pr.passReservation f else pr).finishPrinting).pulse).issueBlank f.pack).blanks
        = ((s.issueBlank f.pack).modPrinter p Printer.finishPrinting).blanks := by
    rw [State.modPrinter_issueBlank]
    exact State.blanks_modPrinter_congr rfl (hprinter _ _)
  unfold State.printedJob
  dsimp only
  rw [State.blanks_holdIf]
  split
  · rw [State.blanks_settleJobTicket]; exact hticket
  · exact hticket

theorem State.printedTest_moves {p : PrinterId} {f : Ticket} (h : s.printers[p].printing = some f)
    (read : Option Nat) : s.Moves (s.printedTest p f read) := by
  refine (State.Change.moves (.testPrinted p f h)).blanks ?_
  unfold State.printedTest
  dsimp only
  rw [State.blanks_holdIf, State.blanks_ticketEnds, State.modPrinter_writeRun]
  exact State.blanks_modPrinter_congr rfl rfl

theorem execPrinted_turns (p : PrinterId) (tag : Tag) (body : List Byte) : s.Turns (execPrinted p tag body s) :=
  printerFrame_turns fun b h => by
    dsimp only at h
    split at h
    · rename_i f hf
      split at h
      · split at h
        · obtain rfl := Option.some.inj h
          exact (State.printedJob_moves hf _ _).blanks (State.blanks_commit ..)
        · obtain rfl := Option.some.inj h
          exact (State.printedTest_moves hf _).blanks (State.blanks_commit ..)
      · cases h
    · cases h

theorem State.blanks_jamTicket (s : State) (p : PrinterId) (f : Ticket) (k : Nat) :
    ((((s.countJam f.owner k).releaseTicket f).backOff p f.owner).ticketEnds p f (.jammed k) (.jammed k)).blanks
      = s.blanks := by
  simp

theorem State.jam_moves {p : PrinterId} {f : Ticket} (h : s.printers[p].printing = some f) (n : Nat) :
    s.Moves (s.jam p f (s.jamRun f n)) := by
  refine (State.Change.moves (.jammed p f n (if f.owner.isSome then .jam else .test) _ h rfl)).blanks ?_
  unfold State.jam
  dsimp only
  rw [State.modPrinter_writeRun]
  cases s.printers[p].staged with
  | none => exact (State.blanks_jamTicket ..).trans (State.blanks_modPrinter_congr rfl rfl)
  | some g =>
    unfold State.discardStaged
    simp only [State.blanks_ticketEnds _ _ g, State.blanks_backOff _ _ g.owner, State.blanks_releaseTicket _ g,
      Option.elim_some]
    by_cases h2 : 2 ≤ s.jamRun f n
    · simp only [h2, decide_true, if_true]
      exact (State.blanks_jamTicket ..).trans (State.blanks_modPrinter_congr rfl rfl)
    · simp only [h2, decide_false, Bool.false_eq_true, if_false]
      refine (State.blanks_returnBlank_congr (State.blanks_jamTicket ..) _ _).trans ?_
      rw [State.modPrinter_returnBlank]
      exact State.blanks_modPrinter_congr rfl rfl

theorem execJammed_turns (p : PrinterId) (tag : Tag) (body : List Byte) : s.Turns (execJammed p tag body s) :=
  printerFrame_turns fun b h => by
    split at h
    · rename_i f hf
      split at h
      · obtain rfl := Option.some.inj h
        exact (State.jam_moves hf _).blanks (State.blanks_commit ..)
      · cases h
    · cases h

theorem State.withdrawStaged_moves {p : PrinterId} {f : Ticket} (h : s.printers[p].staged = some f) :
    s.Moves (s.withdrawStaged p f) := by
  refine (State.Change.moves (.withdrawn p f h)).blanks ?_
  unfold State.withdrawStaged
  rw [State.blanks_ticketEnds, State.blanks_backOff, State.blanks_releaseTicket]
  rw [State.modPrinter_returnBlank]
  exact State.blanks_modPrinter_congr rfl rfl

theorem execWithdrawn_turns (p : PrinterId) (tag : Tag) (body : List Byte) : s.Turns (execWithdrawn p tag body s) :=
  printerFrame_turns fun b h => by
    split at h
    · split at h
      · rename_i f hf
        split at h
        · obtain rfl := Option.some.inj h
          exact (State.withdrawStaged_moves hf).blanks (State.blanks_commit ..)
        · cases h
      · obtain rfl := Option.some.inj h
        exact .of_blanks ((State.blanks_commit ..).trans (s.blanks_modPrinter rfl))
    · cases h

theorem execTooLate_turns (p : PrinterId) (tag : Tag) (body : List Byte) : s.Turns (execTooLate p tag body s) :=
  printerFrame_turns fun b h => by
    dsimp only at h
    split at h
    · split at h
      · split at h
        · obtain rfl := Option.some.inj h
          exact (s.endWithdrawal_moves p).blanks (State.blanks_commit ..)
        · cases h
      · obtain rfl := Option.some.inj h
        exact .of_blanks ((State.blanks_commit ..).trans (s.blanks_modPrinter rfl))
    · cases h

end Sys2Proof.Machine
end

section
/-! The rest of the commands that change the blank stock; the laws of R3 and R4 over every step. -/

namespace Sys2Proof.Machine

variable {s t : State}

/-! ## TOP -/

theorem State.modPrinter_modPack (s : State) (p : PrinterId) (f : Printer → Printer) (id : Nat) (g : Pack → Pack) :
    (s.modPrinter p f).modPack id g = (s.modPack id g).modPrinter p f := rfl

theorem State.modPack_modPack (s : State) (id : Nat) {f : Pack → Pack} (hf : ∀ k, (f k).id = k.id)
    (g : Pack → Pack) : (s.modPack id f).modPack id g = s.modPack id (g ∘ f) := by
  unfold State.modPack
  dsimp only
  rw [map_ite_map_ite hf]
  rfl

theorem State.blanks_modPrinter_of_blanks (h : t.blanks = s.blanks) (p : PrinterId) {f : Printer → Printer}
    (hf : ∀ a b : Printer, a.blanks = b.blanks → (f a).blanks = (f b).blanks) :
    (t.modPrinter p f).blanks = (s.modPrinter p f).blanks :=
  State.blanks_modPrinter_congr h (hf _ _ (State.blanks_printer h p))

/-- R14: the pack loaded, its check ended. -/
theorem State.load_moves {p : PrinterId} {c : LoadCheck} (h : s.printers[p].loadCheck = some c) :
    s.Moves ((s.load p c).endLoadCheck p c .loaded) := by
  refine (State.Change.moves (.loaded p c h)).blanks ?_
  have hload : (s.load p c).blanks = ((s.modPack c.pack fun k => { k with location := .loaded p }).modPrinter p
      fun pr => { pr with loaded := some c.pack }).blanks := State.blanks_compareCapability ..
  have hpack := State.blanks_modPack_congr hload (id := c.pack) (g := fun k => { k with loadCheck := none })
    (by intro k; rfl)
  have hprinter := State.blanks_modPrinter_of_blanks hpack p (f := fun pr => { pr with loadCheck := none })
    fun a b h => by
      obtain ⟨hlink, hloaded, hprinting, hstaged, hrange, -, hunload⟩ := Printer.blanks_inj.1 h
      exact Printer.blanks_inj.2 ⟨hlink, hloaded, hprinting, hstaged, hrange, rfl, hunload⟩
  refine (State.blanks_send ..).trans (hprinter.trans ?_)
  rw [State.modPrinter_modPack, State.modPack_modPack _ _ (by intro k; rfl), State.modPrinter_modPrinter]
  exact State.blanks_modPrinter_congr rfl rfl

theorem State.topLoad_moves {p : PrinterId} {c : LoadCheck} (h : s.printers[p].loadCheck = some c) (k : Pack)
    (n : Nat) : s.Moves (s.topLoad p c k n) := by
  unfold State.topLoad
  split
  · exact (State.load_moves h).blanks (State.blanks_commit ..)
  · exact (State.endLoadCheck_moves h _).blanks (State.blanks_commit ..)

theorem State.emptied_blanks (u : State) (p : PrinterId) (c : UnloadCheck) (pack : Option Nat) (o : UnloadOutcome) :
    ((u.emptyPrinter p).endUnloadCheck p c pack o).blanks
      = (u.modPrinter p fun pr => { pr with loaded := none, unloadCheck := none }).blanks := by
  unfold State.endUnloadCheck State.emptyPrinter
  rw [State.blanks_send, State.modPrinter_modPrinter]
  exact State.blanks_modPrinter_congr rfl rfl

theorem State.loadedPack_eq_some {p : PrinterId} {k : Pack} (h : s.loadedPack p = some k) :
    s.printers[p].loaded = some k.id ∧ s.pack? k.id = some k := by
  obtain ⟨id, hid, hk⟩ := Option.bind_eq_some_iff.1 h
  obtain rfl := (State.pack?_mem hk).2
  exact ⟨hid, hk⟩

theorem State.topUnload_moves {p : PrinterId} {c : UnloadCheck} {k : Pack}
    (hu : s.printers[p].unloadCheck = some c) (hk : s.loadedPack p = some k) (n : Nat) :
    s.Moves (s.topUnload p c k n) := by
  obtain ⟨hl, hfind⟩ := State.loadedPack_eq_some hk
  have hcheck : s.printers[p].unloadCheck.isSome = true := by rw [hu]; rfl
  unfold State.topUnload
  split
  · have m := State.Change.moves (.unloaded p k 0 hl hfind hcheck (Or.inl rfl))
    rw [if_pos rfl] at m
    exact m.blanks ((State.blanks_commit ..).trans (State.emptied_blanks ..))
  · split
    · rename_i hne hn
      have hrun : n - k.next = 0 ∨ k.next + (n - k.next) ≤ k.last + 1 := by omega
      have hpos : n - k.next ≠ 0 := by omega
      have m := State.Change.moves (.unloaded p k (n - k.next) hl hfind hcheck hrun)
      rw [if_neg hpos] at m
      exact m.blanks ((State.blanks_commit ..).trans (State.emptied_blanks ..))
    · have m := State.Change.moves (.compromised p k.id hl (Or.inl hcheck))
      exact m.blanks ((State.blanks_commit ..).trans (State.emptied_blanks ..))

theorem State.topRecover_moves {p : PrinterId} {g : Range} (h : s.printers[p].range = some g) (n : Nat) :
    s.Moves (s.topRecover p g n) := by
  unfold State.topRecover
  split
  · rename_i hn
    exact (State.Change.moves (.settled p g n h hn.1 hn.2)).blanks (State.blanks_commit ..)
  · refine .of_blanks ((State.blanks_commit ..).trans (s.blanks_modPrinter ?_))
    simp only [Printer.blanks_inj, h, and_true, true_and]
    rfl

theorem execTop_turns (p : PrinterId) (tag : Tag) (body : List Byte) : s.Turns (execTop p tag body s) :=
  printerFrame_turns fun b h => by
    unfold State.takeTop at h
    dsimp only at h
    split at h
    · rename_i c hc
      obtain ⟨k, -, rfl⟩ := Option.map_eq_some_iff.1 h
      exact State.topLoad_moves hc _ _
    · split at h
      · rename_i c hc
        obtain ⟨k, hk, rfl⟩ := Option.map_eq_some_iff.1 h
        exact State.topUnload_moves hc hk _
      · split at h
        · obtain ⟨g, hg, hk⟩ := Option.bind_eq_some_iff.1 h
          obtain ⟨k, -, rfl⟩ := Option.map_eq_some_iff.1 hk
          exact State.topRecover_moves hg _
        · cases h

/-! ## GRANT -/

theorem State.grantOne_moves {p : PrinterId} {k : Pack} (hc : s.canTake p = true) (hk : s.loadedPack p = some k) :
    s.Moves (s.grantOne p k) := by
  have hjob (j : Job) : s.Moves (s.sendJob p k j) :=
    (State.Change.moves (.granted p k
      { owner := some j.ref, pack := k.id, serial := k.next, reserved := (s.ticketClass p j).reserves } j.fields
      hc hk rfl rfl)).blanks ((State.blanks_modJob ..).trans (State.blanks_modPrinter_congr rfl rfl))
  have htest (x : TestPrint) : s.Moves (s.sendTest p k x) :=
    (State.Change.moves (.granted p k { owner := none, pack := k.id, serial := k.next, reserved := false } x.fields
      hc hk rfl rfl)).blanks (State.blanks_modPrinter_congr rfl rfl)
  unfold State.grantOne
  dsimp only
  refine State.Moves.blanks ?_ (State.blanks_modPrinter _ rfl)
  split
  · exact .refl
  · exact htest _
  · exact hjob _
  · exact hjob _

theorem execGrant_turns (p : PrinterId) : s.Turns (execGrant p s) :=
  event_turns fun hc => by
    split
    · rename_i k hk
      have hk' : (s.endRecordFull p).loadedPack p = some k := hk
      have hc' : (s.endRecordFull p).canTake p = true := hc
      exact ((State.Moves.of_blanks (s.blanks_endRecordFull p)).trans (State.grantOne_moves hc' hk')).blanks
        (State.blanks_commit ..)
    · exact .refl

/-! ## The supervisor's stock commands -/

theorem execReceivePack_turns (port : Port) (tag : Tag) (body : List Byte) :
    s.Turns (execReceivePack port tag body s) :=
  supervisorCommand_turns fun a b h => by
    simp only [need_eq_ok, want_eq_ok, pure_eq_ok] at h
    obtain ⟨hrange, stock, -, hid, -, hlen, rfl⟩ := h
    simp only [packInRange, Bool.and_eq_true, decide_eq_true_eq] at hrange
    obtain ⟨⟨-, hle⟩, -⟩ := hrange
    have hnew : ∀ x ∈ a.packs, x.id ≠ num body 0 2 := by
      simpa [State.pack?, List.find?_eq_none] using hid
    exact (State.Change.moves (.received _ stock _ _ hle hnew (of_decide_eq_true hlen))).blanks (State.blanks_accept ..)

theorem Printer.service_empty {pr : Printer} (h : pr.service = .empty) : pr.loaded = none := by
  unfold Printer.service at h
  split_ifs at h
  simp_all

theorem execLoadPack_turns (port : Port) (tag : Tag) (body : List Byte) : s.Turns (execLoadPack port tag body s) :=
  supervisorCommand_turns fun a b h => by
    simp only [need_eq_ok, want_eq_ok, pure_eq_ok] at h
    obtain ⟨p, -, k, hk, hhold, hstate, hprinter, -, rfl⟩ := h
    simp only [Bool.and_eq_true, beq_iff_eq, Option.isNone_iff_eq_none] at hstate
    obtain ⟨⟨hloc, hcheck⟩, -⟩ := hstate
    simp only [Bool.and_eq_true, beq_iff_eq, Printer.occupied, Bool.not_eq_true', Bool.or_eq_false_iff,
      Option.isSome_eq_false_iff, Option.isNone_iff_eq_none] at hprinter
    obtain ⟨hempty, ⟨hload, -⟩, -⟩ := hprinter
    obtain ⟨-, hid⟩ := State.pack?_mem hk
    rw [← hid] at hk ⊢
    exact (State.Change.moves (.checkBegun p k tag hk hloc hcheck (by simpa using hhold)
      (Printer.service_empty hempty) hload)).blanks (by simp)

theorem execUnloadPack_turns (port : Port) (tag : Tag) (body : List Byte) :
    s.Turns (execUnloadPack port tag body s) :=
  supervisorCommand_turns fun a b h => by
    simp only [need_eq_ok, want_eq_ok, pure_eq_ok] at h
    obtain ⟨p, -, hprinter, hroom, rfl⟩ := h
    have hv : (a.printers[p]).Vacant := by
      simp only [Printer.canUnload, Bool.and_eq_true, Option.isNone_iff_eq_none] at hprinter
      obtain ⟨⟨⟨-, ht⟩, hr⟩, -⟩ := hprinter
      have ht : a.printers[p].printing = none ∧ a.printers[p].staged = none := by simpa [Printer.tickets] using ht
      exact ⟨ht.1, ht.2, hr⟩
    have hlen : a.spoils.length < 256 := by
      have : 1 ≤ 256 - a.spoils.length := of_decide_eq_true hroom
      omega
    exact (State.Change.moves (.unloadBegun p { tag := tag, attempt := .first } hv hlen)).blanks (by simp)

theorem State.spoilOut_moves (s : State) (p : PrinterId) : s.Moves (s.spoilOut p) := by
  unfold State.spoilOut
  split
  · rename_i g hg
    exact (State.Change.moves (.spoiledOut p g hg)).blanks (State.blanks_modPrinter_congr rfl rfl)
  · exact .refl

theorem State.spoilOut_printer (s : State) (p : PrinterId) :
    (s.spoilOut p).printers[p].blanks = ({ s.printers[p] with range := none } : Printer).blanks := by
  unfold State.spoilOut
  split
  · rw [State.modPrinter_get, if_pos rfl, State.spoilRange_printers]
    rfl
  · rename_i hg
    simp only [Printer.blanks_inj, hg, and_true]

/-- R18: the pack is forced out once the range is spoiled. -/
theorem State.compromise_moves {p : PrinterId} (h : (s.printers[p]).canForce = true) :
    (s.spoilOut p).Moves ((s.spoilOut p).compromise p) := by
  simp only [Printer.canForce, Printer.occupied, Bool.and_eq_true, Bool.not_eq_true', Bool.or_eq_false_iff,
    Option.isSome_eq_false_iff, Option.isNone_iff_eq_none] at h
  obtain ⟨⟨hsome, ⟨-, hcheck⟩, -⟩, hfree⟩ := h
  obtain ⟨id, hid⟩ := Option.isSome_iff_exists.1 hsome
  obtain ⟨hlink, hloaded, hprinting, hstaged, hrange, -, hunload⟩ := Printer.blanks_inj.1 (s.spoilOut_printer p)
  dsimp only at hlink hloaded hprinting hstaged hrange hunload
  rw [hid] at hloaded
  have hslots : (s.spoilOut p).printers[p].link = .up → (s.spoilOut p).printers[p].tickets = [] := by
    intro hup
    have hempty : s.printers[p].link = .up → s.printers[p].tickets = [] := by simpa using hfree
    have := hempty (hlink.1 hup)
    have hnone : s.printers[p].printing = none ∧ s.printers[p].staged = none := by simpa [Printer.tickets] using this
    rw [hnone.1, Option.map_none, Option.map_eq_none_iff] at hprinting
    rw [hnone.2, Option.map_none, Option.map_eq_none_iff] at hstaged
    rw [Printer.tickets, hprinting, hstaged]
    rfl
  refine (State.Change.moves (.compromised p id hloaded (Or.inr ⟨hslots, by simpa using hrange⟩))).blanks ?_
  unfold State.compromise State.emptyPrinter
  rw [hloaded]
  refine State.blanks_modPrinter_congr rfl (Printer.blanks_inj.2 ⟨Iff.rfl, rfl, rfl, rfl, rfl, rfl, ?_⟩)
  rw [hcheck] at hunload
  exact hunload

theorem execForceUnload_turns (port : Port) (tag : Tag) (body : List Byte) :
    s.Turns (execForceUnload port tag body s) :=
  supervisorCommand_turns fun a b h => by
    simp only [need_eq_ok, want_eq_ok, pure_eq_ok] at h
    obtain ⟨p, -, hprinter, -, rfl⟩ := h
    exact ((State.Moves.of_blanks (State.blanks_accept ..)).trans
      ((State.spoilOut_moves _ p).trans (State.compromise_moves
        (by rw [State.accept, State.send, State.modPort_printers]; exact hprinter)))).blanks
        (State.blanks_commit ..)

theorem execWriteOffPack_turns (port : Port) (tag : Tag) (body : List Byte) :
    s.Turns (execWriteOffPack port tag body s) :=
  supervisorCommand_turns fun a b h => by
    simp only [need_eq_ok, want_eq_ok, pure_eq_ok] at h
    obtain ⟨k, hk, hhold, hstate, rfl⟩ := h
    simp only [Bool.and_eq_true, Bool.or_eq_true, beq_iff_eq, Option.isNone_iff_eq_none] at hstate
    obtain ⟨hloc, hcheck⟩ := hstate
    rw [← (State.pack?_mem hk).2] at hk
    exact (State.Change.moves (.writtenOff k hk hloc hcheck (by simpa using hhold))).blanks (by simp)

theorem execRetirePack_turns (port : Port) (tag : Tag) (body : List Byte) :
    s.Turns (execRetirePack port tag body s) :=
  supervisorCommand_turns fun a b h => by
    simp only [need_eq_ok, want_eq_ok, pure_eq_ok] at h
    obtain ⟨k, hk, hretire, rfl⟩ := h
    obtain ⟨-, hid⟩ := State.pack?_mem hk
    rw [← hid] at hk ⊢
    exact (State.Change.moves (.retired k hk hretire)).blanks (State.blanks_accept ..)

theorem execResolveDispute_turns (port : Port) (tag : Tag) (body : List Byte) :
    s.Turns (execResolveDispute port tag body s) :=
  supervisorCommand_turns fun a b h => by
    simp only [need_eq_ok, want_eq_ok] at h
    obtain ⟨w, -, -, -, e, -, -, h⟩ := h
    simp only [bind_eq_ok, pure_eq_ok] at h
    obtain ⟨pack, hpack, rfl⟩ := h
    have hmod := State.Moves.of_blanks (a.blanks_modShift w (·.resolveEntry (num body 1 1) (num body 2 1 == 1)))
    unfold State.disputedPack at hpack
    split at hpack
    · simp only [need_eq_ok, want_eq_ok, pure_eq_ok] at hpack
      obtain ⟨hhold, k, hk, hstate, rfl⟩ := hpack
      simp only [Bool.and_eq_true, Bool.or_eq_true, beq_iff_eq, Option.isNone_iff_eq_none] at hstate
      obtain ⟨hloc, hcheck⟩ := hstate
      rw [← (State.pack?_mem hk).2] at hk
      have hhold : a.hold = false := by simpa using hhold
      exact (hmod.change (.writtenOff k hk hloc hcheck hhold)).blanks (by simp)
    · rw [pure_eq_ok] at hpack
      subst hpack
      exact hmod.blanks (by simp)

/-! ## The office day and the starts -/

theorem State.blanks_emptyShifts (s : State) : s.emptyShifts.blanks = s.blanks := by
  unfold State.emptyShifts
  dsimp only
  rw [State.blanks_endConditions]
  exact State.blanks_of_eq (by simp) (by simp) (by simp)

theorem State.blanks_removeCleared (s : State) : s.removeCleared.blanks = s.blanks := rfl

/-- R146: the spoil list emptied, the packs and printers staying. -/
theorem State.blanks_emptySpoils (h : t.blanks = s.blanks) :
    t.emptySpoils.blanks = ({ s with spoils := [] } : State).blanks :=
  State.blanks_eq (t := t.emptySpoils) (State.blanks_packs h :) rfl (State.blanks_printer h :)

theorem execCloseDay_turns (port : Port) (tag : Tag) (body : List Byte) : s.Turns (execCloseDay port tag body s) :=
  supervisorCommand_turns fun a b h => by
    simp only [need_eq_ok, pure_eq_ok] at h
    obtain ⟨-, rfl⟩ := h
    have hopen (u : State) (b : Bool) : ({ u with dayOpen := b } : State).blanks = u.blanks := rfl
    refine (State.Change.moves .emptied).blanks ?_
    rw [State.blanks_commit, State.blanks_accept, hopen, State.blanks_markDay, State.blanks_removeCleared]
    exact State.blanks_emptySpoils a.blanks_emptyShifts

theorem State.startAs_moves (s : State) (kind : StartKind) (straps : Straps) : s.Moves (s.startAs kind straps) := by
  cases kind with
  | cold => exact (State.Change.moves .reset).blanks (State.blanks_of_eq rfl rfl rfl)
  | warm => exact (State.Change.moves .restarted).blanks ((State.blanks_outputs _).trans (State.blanks_of_eq rfl rfl rfl))

theorem execResetReleased_turns (straps : Straps) : s.Turns (execResetReleased straps s) := by
  refine .next ?_
  dsimp only
  split
  · exact State.Moves.trans (.of_blanks (t := { s with resetPin := false }) rfl) (State.startAs_moves _ _ _)
  · exact .of_blanks rfl
  · exact .of_blanks rfl

theorem execPowerUp_turns (backupGood : Bool) (straps : Straps) : s.Turns (execPowerUp backupGood straps s) := by
  refine .next ?_
  split
  · split
    · exact .of_blanks rfl
    · exact State.startAs_moves _ _ _
  · exact .refl

/-! ## Every command, every step -/

theorem exec_turns (i : Instr) : s.Turns (exec i s) := by
  cases i with
  | openShift port tag body => exact execOpenShift_turns port tag body
  | issue port tag body => exact execIssue_turns port tag body
  | cancel port tag body => exact execCancel_turns port tag body
  | void port tag body => exact execVoid_turns port tag body
  | refund port tag body => exact execRefund_turns port tag body
  | closeShift port tag body => exact execCloseShift_turns port tag body
  | declare port tag body => exact execDeclare_turns port tag body
  | queryShift port tag body => exact execQueryShift_turns port tag body
  | receivePack port tag body => exact execReceivePack_turns port tag body
  | loadPack port tag body => exact execLoadPack_turns port tag body
  | unloadPack port tag body => exact execUnloadPack_turns port tag body
  | forceUnload port tag body => exact execForceUnload_turns port tag body
  | writeOffPack port tag body => exact execWriteOffPack_turns port tag body
  | retirePack port tag body => exact execRetirePack_turns port tag body
  | readPack port tag body => exact execReadPack_turns port tag body
  | testPrint port tag body => exact execTestPrint_turns port tag body
  | setService port tag body => exact execSetService_turns port tag body
  | resetLine port tag body => exact execResetLine_turns port tag body
  | resolveDispute port tag body => exact execResolveDispute_turns port tag body
  | readSpoils port tag body => exact execReadSpoils_turns port tag body
  | readEntries port tag body => exact execReadEntries_turns port tag body
  | readShift port tag body => exact execReadShift_turns port tag body
  | reopenCount port tag body => exact execReopenCount_turns port tag body
  | signOff port tag body => exact execSignOff_turns port tag body
  | openDay port tag body => exact execOpenDay_turns port tag body
  | closeDay port tag body => exact execCloseDay_turns port tag body
  | nextFault port tag body => exact execNextFault_turns port tag body
  | readFault port tag body => exact execReadFault_turns port tag body
  | ackFault port tag body => exact execAckFault_turns port tag body
  | readChanges port tag body => exact execReadChanges_turns port tag body
  | silenceAlarm port tag body => exact execSilenceAlarm_turns port tag body
  | selectEntry port tag body => exact execSelectEntry_turns port tag body
  | readEntry port tag body => exact execReadEntry_turns port tag body
  | writeEntry port tag body => exact execWriteEntry_turns port tag body
  | setClock port tag body => exact execSetClock_turns port tag body
  | readOffice port tag body => exact execReadOffice_turns port tag body
  | unknownKind port kind tag => exact execUnknownKind_turns port kind tag
  | frameError port cause => exact execFrameError_turns port cause
  | frameGap port => exact execFrameGap_turns port
  | lineBreak port => exact execLineBreak_turns port
  | attach port => exact execAttach_turns port
  | capability printer tag body => exact execCapability_turns printer tag body
  | status printer tag body => exact execStatus_turns printer tag body
  | printed printer tag body => exact execPrinted_turns printer tag body
  | jammed printer tag body => exact execJammed_turns printer tag body
  | withdrawn printer tag body => exact execWithdrawn_turns printer tag body
  | tooLate printer tag body => exact execTooLate_turns printer tag body
  | top printer tag body => exact execTop_turns printer tag body
  | printerFrameError printer cause => exact execPrinterFrameError_turns printer cause
  | printerFrameGap printer => exact execPrinterFrameGap_turns printer
  | idleMark printer => exact execIdleMark_turns printer
  | linkGap printer cause => exact execLinkGap_turns printer cause
  | settleTimer printer => exact execSettleTimer_turns printer
  | silenceTimer printer => exact execSilenceTimer_turns printer
  | jabber printer => exact execJabber_turns printer
  | jabberQuiet printer => exact execJabberQuiet_turns printer
  | capabilityWait printer => exact execCapabilityWait_turns printer
  | printTimer printer => exact execPrintTimer_turns printer
  | pauseTimer printer => exact execPauseTimer_turns printer
  | withdrawalTimer printer => exact execWithdrawalTimer_turns printer
  | queryTimer printer => exact execQueryTimer_turns printer
  | loadAnswerTimer printer => exact execLoadAnswerTimer_turns printer
  | unloadAnswerTimer printer => exact execUnloadAnswerTimer_turns printer
  | grant printer => exact execGrant_turns printer
  | jobWait window tag => exact execJobWait_turns window tag
  | routeWait window tag => exact execRouteWait_turns window tag
  | clockPulse => exact execClockPulse_turns
  | alarmIn active => exact execAlarmIn_turns active
  | activityPulse printer => exact execActivityPulse_turns printer
  | flash printer => exact execFlash_turns printer
  | resetAsserted => exact execResetAsserted_turns
  | resetReleased straps => exact execResetReleased_turns straps
  | powerUp backupGood straps => exact execPowerUp_turns backupGood straps
  | powerFail => exact execPowerFail_turns
  | printerUnknownKind printer kind => exact execPrinterUnknownKind_turns printer kind
  | frameSent port => exact execFrameSent_turns port

theorem step_moves (h : step s = .next t) : s.Moves t := by
  unfold step at h
  cases hp : s.pending with
  | nil =>
    rw [hp] at h
    cases h
    exact .refl
  | cons c rest =>
    rw [hp] at h
    exact State.Moves.trans (.of_blanks (t := { s with pending := rest }) rfl) (exec_turns c t h)

/-- Settles O10, by the run of changes to the blank stock that a step makes, each keeping the law of R3. -/
theorem stepKeepsPacksAndPrinters : Obligations.StepKeepsPacksAndPrinters := by
  intro s t hs h
  exact (step_moves h).packsSound hs

/-- Settles O11, by the same run of changes, each keeping the balance of R4 with the premises it rests on. -/
theorem stepKeepsPackBalance : Obligations.StepKeepsPackBalance := by
  intro s t hs h
  exact (step_moves h).stockSound hs

end Sys2Proof.Machine
end

section
/-! The supervisor's stock commands: what each leaves, where its checks hold. -/

namespace Sys2Proof.Machine

variable {s t : State}

/-! ## Taking a command -/

theorem State.Hears.listens {port : Port} (h : s.Hears port) : s.listens port = true := by
  obtain ⟨hr, ha⟩ := h
  simp [State.listens, State.running, hr, ha]

/-- A supervisor command whose rule succeeds. -/
theorem supervisorCommand_ok {kind : Byte} {lo hi : Nat} {tag : Tag} {body : List Byte}
    {act : State → Except Code State} (h : s.Hears .supervisor) (hf : fits lo hi body = true)
    (ha : act (s.sound .supervisor) = .ok t) : supervisorCommand kind lo hi .supervisor tag body s act = .next t := by
  rw [supervisorCommand_takes h.listens hf, ha]
  rfl

theorem windowCommand_ok {kind : Byte} {lo hi : Nat} {w : Window} {tag : Tag} {body : List Byte}
    {act : Window → State → Except Code State} (h : s.Hears (.window w)) (hf : fits lo hi body = true)
    (ha : act w (s.sound (.window w)) = .ok t) : windowCommand kind lo hi (.window w) tag body s act = .next t := by
  rw [windowCommand_takes h.listens hf, ha]
  rfl

/-- ACCEPTED sent from a state whose port has just taken a sound frame. -/
theorem accept_answered {u v : State} {kind : Byte} {tag : Tag} {fields : List Byte}
    (h : v.listens .supervisor = true) (e : u = v.sound .supervisor) :
    (pure (u.accept .supervisor kind tag fields) : Except Code State)
      = .ok (v.answered .supervisor (acceptedFrame kind tag fields)) := by
  subst e
  exact congrArg Except.ok (State.sound_send h _)

/-- A field in the middle of a body. -/
theorem num_be_mid {before after : List Byte} {off width n : Nat} (ho : before.length = off)
    (hn : n < 256 ^ width) : num (before ++ be width n ++ after) off width = n := by
  rw [List.append_assoc]
  exact num_be_of_lt ho hn

/-- The last field of a body. -/
theorem num_be_last {before : List Byte} {off width n : Nat} (ho : before.length = off) (hn : n < 256 ^ width) :
    num (before ++ be width n) off width = n := by
  have := num_be_mid (after := []) ho hn
  rwa [List.append_nil] at this

/-- A place in a list of places is read back from its byte. -/
theorem named_val {k : Nat} (i : Fin k) : named k i.val = some i := by
  simp [named]

/-! ## SpoilRunWritten -/

/-- Settles O35, by the charge of the run. -/
theorem spoilRunWritten : Obligations.SpoilRunWritten := by
  intro s pack first count cause printer charged
  cases charged with
  | none => rfl
  | some ref => rfl

/-! ## RECEIVE PACK and RETIRE PACK -/

theorem execReceivePack_ok {tag : Tag} {id first last : Nat} {stock : StockType} (h : s.Hears .supervisor)
    (hid : 1 ≤ id) (hid' : id ≤ 65535) (hlast : last ≤ 9999999) (hle : first ≤ last) (hsize : last - first + 1 ≤ 2000)
    (hnew : ∀ k ∈ s.packs, k.id ≠ id) (hfree : ∀ k ∈ s.packs, k.stock = stock → k.last < first ∨ last < k.first)
    (hroom : s.packs.length < 64) :
    execReceivePack .supervisor tag (be 2 id ++ be 1 stock.val ++ be 3 first ++ be 3 last) s
      = .next (({ s with packs := s.packs ++ [newPack id stock first last s.clock] } : State).answered .supervisor
          (acceptedFrame Cmd.receivePack tag (be 2 id ++ be 1 s.packs.length))) := by
  have hstock : stock.val < 4 := stock.isLt
  refine supervisorCommand_ok h (by simp [fits]) ?_
  dsimp only
  have hn0 : num (be 2 id ++ be 1 stock.val ++ be 3 first ++ be 3 last) 0 2 = id := by
    rw [List.append_assoc, List.append_assoc]
    exact num_be_head (by omega)
  have hn2 : num (be 2 id ++ be 1 stock.val ++ be 3 first ++ be 3 last) 2 1 = stock.val := by
    rw [List.append_assoc]
    exact num_be_mid (by simp) (by omega)
  have hn3 : num (be 2 id ++ be 1 stock.val ++ be 3 first ++ be 3 last) 3 3 = first :=
    num_be_mid (by simp) (by omega)
  have hn6 : num (be 2 id ++ be 1 stock.val ++ be 3 first ++ be 3 last) 6 3 = last :=
    num_be_last (by simp) (by omega)
  have hrange : packInRange id stock.val first last = true := by
    simp only [packInRange, Bool.and_eq_true, decide_eq_true_eq, show Config.maxSerial = 9999999 from rfl,
      show Config.maxPackSize = 2000 from rfl]
    omega
  have hnone : ((s.sound .supervisor).pack? id).isNone = true := by
    rw [Option.isNone_iff_eq_none]
    exact List.find?_eq_none.2 fun k hk => by simpa using hnew k hk
  have hover : (s.sound .supervisor).overlaps stock first last = false := by
    refine List.any_eq_false.2 fun k hk => ?_
    intro hc
    simp only [Bool.and_eq_true, beq_iff_eq, decide_eq_true_eq] at hc
    have := hfree k hk hc.1.1
    omega
  rw [hn0, hn2, hn3, hn6, need_bind hrange, want_bind (named_val stock), need_bind hnone, need_bind (by rw [hover]; rfl)]
  refine (need_bind (decide_eq_true hroom)).trans ?_
  exact accept_answered (v := { s with packs := s.packs ++ [newPack id stock first last s.clock] }) h.listens rfl

theorem execRetirePack_ok {tag : Tag} {before after : List Pack} {k : Pack} (h : s.Hears .supervisor)
    (hpacks : s.packs = before ++ k :: after) (hbefore : ∀ x ∈ before, x.id ≠ k.id) (hid : k.id ≤ 65535)
    (hretire : s.canRetire k = true) :
    execRetirePack .supervisor tag (be 2 k.id) s
      = .next (({ s with packs := before ++ after } : State).answered .supervisor
          (acceptedFrame Cmd.retirePack tag (be 2 k.id))) := by
  refine supervisorCommand_ok h (by simp [fits]) ?_
  dsimp only
  have hne : ∀ x ∈ before, ¬(x.id == k.id) = true := fun x hx => by simpa using hbefore x hx
  have hfind : (s.sound .supervisor).pack? k.id = some k := by
    show s.packs.find? (·.id == k.id) = some k
    rw [hpacks, List.find?_append, List.find?_eq_none.2 hne]
    simp
  have herase : s.packs.eraseP (·.id == k.id) = before ++ after := by
    rw [hpacks, List.eraseP_append_right _ hne]
    simp
  rw [num_be_only (by omega), want_bind hfind]
  refine (need_bind hretire).trans ?_
  rw [← herase]
  exact accept_answered (v := { s with packs := s.packs.eraseP (·.id == k.id) }) h.listens rfl

/-- Settles O33, by the commands' checks in order. -/
theorem receiveAndRetirePack : Obligations.ReceiveAndRetirePack := by
  refine ⟨?_, ?_⟩
  · intro s tag id first last stock h hid hid' hlast hle hsize hnew hfree hroom
    exact execReceivePack_ok h hid hid' hlast hle hsize hnew hfree hroom
  · intro s tag before after k h hpacks hbefore hid hloc hcheck hnext hday hspoils
    refine execRetirePack_ok h hpacks hbefore hid ?_
    have hunused : k.unused = 0 := by unfold Pack.unused; omega
    have hall : s.spoils.all (·.pack != k.id) = true := by simpa using hspoils
    rcases hday with hd | hd <;> simp [State.canRetire, hloc, hcheck, hunused, hall, hd]

end Sys2Proof.Machine
end

section
/-! LOAD PACK, UNLOAD PACK, FORCE UNLOAD and WRITE OFF PACK: what each leaves, where its checks hold. -/

namespace Sys2Proof.Machine

variable {s : State}

/-- A command that commits: what its step leaves is settled, and its occurrences are told. -/
theorem settled_of_commit {a : Answer} {port : Port} {u w : State} {told : List Occurrence}
    (ha : a = .next (w.commit (s.sound port) told)) (e : w = u) :
    ∃ t, a = .next t ∧ State.Settled s u t told ∧ ∀ o ∈ told, t.Told o.source o.kind := by
  subst e
  exact ⟨_, ha, (State.settled_sound port).1 (w.commit_settled _ _), fun o ho => w.commit_told ho⟩

/-- ACCEPTED sent from a state whose port has just taken a sound frame. -/
theorem accept_eq_answered {u v : State} {kind : Byte} {tag : Tag} {fields : List Byte}
    (e : u = v.sound .supervisor) (h : v.listens .supervisor = true) :
    u.accept .supervisor kind tag fields = v.answered .supervisor (acceptedFrame kind tag fields) := by
  subst e
  exact State.sound_send h _

/-! ## LOAD PACK and UNLOAD PACK -/

/-- A printer's number in a body of one byte, or in the last byte of a body. -/
theorem named_num_last {before : List Byte} {off : Nat} (p : PrinterId) (ho : before.length = off) :
    (named 8 (num (before ++ be 1 p.val) off 1) : Option PrinterId) = some p := by
  have hp : p.val < 8 := p.isLt
  rw [num_be_last ho (by omega), named_val]

theorem named_num_only (p : PrinterId) : (named 8 (num (be 1 p.val) 0 1) : Option PrinterId) = some p :=
  named_num_last (before := []) p rfl

/-- R13: a load check begun. -/
theorem State.beginLoadCheck_eq (p : PrinterId) (id : Nat) (tag : Tag) :
    ((((s.sound .supervisor).modPack id fun k => { k with loadCheck := some p }).modPrinter p fun pr =>
        { pr with loadCheck := some { pack := id, tag := tag, attempt := .first } }).sendLine p topReport)
      = State.sound { s with
          packs := s.packs.map fun x => if x.id = id then { x with loadCheck := some p } else x
          printers := s.printers.set p { s.printers[p] with
            loadCheck := some { pack := id, tag := tag, attempt := .first }
            sent := s.printers[p].sent ++ [topReport] } } .supervisor := by
  unfold State.sendLine
  rw [State.modPrinter_modPrinter]
  rfl

theorem State.beginUnloadCheck_eq (p : PrinterId) (tag : Tag) :
    (((s.sound .supervisor).modPrinter p fun pr =>
        { pr with unloadCheck := some { tag := tag, attempt := .first } }).sendLine p topReport)
      = State.sound { s with
          printers := s.printers.set p { s.printers[p] with
            unloadCheck := some { tag := tag, attempt := .first }
            sent := s.printers[p].sent ++ [topReport] } } .supervisor := by
  unfold State.sendLine
  rw [State.modPrinter_modPrinter]
  rfl

theorem State.hold_eq_false (h : s.spoils.length < 232) : s.hold = false := by
  rw [State.hold_eq]
  exact decide_eq_false (by omega)

theorem execLoadPack_ok {tag : Tag} {p : PrinterId} {k : Pack} {c : Capability} (h : s.Hears .supervisor)
    (hk : s.pack? k.id = some k) (hid : k.id ≤ 65535) (hhold : s.hold = false) (hloc : k.location = .safe)
    (hcheck : k.loadCheck = none) (hunused : 1 ≤ k.unused) (hservice : s.printers[p].service = .empty)
    (hfree : s.printers[p].occupied = false) (hcap : s.printers[p].capability = some c)
    (htype : c.types.getLsbD k.stock.val = true) :
    execLoadPack .supervisor tag (be 2 k.id ++ be 1 p.val) s = .next
      ((((((s.sound .supervisor).modPack k.id fun k => { k with loadCheck := some p }).modPrinter p fun pr =>
        { pr with loadCheck := some { pack := k.id, tag := tag, attempt := .first } }).sendLine p topReport).accept
          .supervisor Cmd.loadPack tag (be 1 p.val)).commit (s.sound .supervisor) []) := by
  refine supervisorCommand_ok h (by simp [fits]) ?_
  dsimp only
  rw [num_be_head (by omega), named_num_last p (by simp), want_bind rfl]
  refine (want_bind hk).trans ((need_bind ?_).trans ((need_bind ?_).trans ((need_bind ?_).trans
    ((need_bind ?_).trans rfl))))
  · show (!s.hold) = true
    rw [hhold]; rfl
  · simp [hloc, hcheck, hunused]
  · show ((s.printers[p]).service == .empty && !(s.printers[p]).occupied) = true
    rw [hservice, hfree]; rfl
  · show ((s.printers[p]).capability.any fun c => c.types.getLsbD k.stock.val) = true
    rw [hcap]; exact htype

theorem execUnloadPack_ok {tag : Tag} {p : PrinterId} (h : s.Hears .supervisor) (hcan : s.printers[p].canUnload = true)
    (hroom : 1 ≤ s.spoilRoom) :
    execUnloadPack .supervisor tag (be 1 p.val) s = .next
      (((((s.sound .supervisor).modPrinter p fun pr =>
        { pr with unloadCheck := some { tag := tag, attempt := .first } }).sendLine p topReport).accept
          .supervisor Cmd.unloadPack tag (be 1 p.val)).commit (s.sound .supervisor) []) := by
  refine supervisorCommand_ok h (by simp [fits]) ?_
  dsimp only
  rw [named_num_only p, want_bind rfl]
  exact (need_bind hcan).trans (need_bind (decide_eq_true hroom))

theorem Printer.occupied_eq_false {pr : Printer} (hload : pr.loadCheck = none) (hunload : pr.unloadCheck = none)
    (htest : pr.test = none) : pr.occupied = false := by
  rw [Printer.occupied, hload, hunload, htest]
  rfl

/-- Settles O34, by the commands' checks in order. -/
theorem loadAndUnloadChecksStart : Obligations.LoadAndUnloadChecksStart := by
  refine ⟨?_, ?_⟩
  · intro s tag p k c h hk hid hspoils hloc hcheck hnext hservice hload hunload htest hcap htype
    have hunused : 1 ≤ k.unused := by unfold Pack.unused; omega
    have hfree := Printer.occupied_eq_false hload hunload htest
    obtain ⟨t, ht, hset, -⟩ := settled_of_commit
      (execLoadPack_ok (tag := tag) h hk hid (State.hold_eq_false hspoils) hloc hcheck hunused hservice hfree hcap htype)
      (accept_eq_answered (State.beginLoadCheck_eq (s := s) p k.id tag) h.listens)
    exact ⟨t, ht, hset⟩
  · intro s tag p h hloaded hlink hservice hprinting hstaged hrange hload hunload htest hspoils
    have hfree := Printer.occupied_eq_false hload hunload htest
    have hcan : s.printers[p].canUnload = true := by
      unfold Printer.canUnload Printer.tickets
      rw [hloaded, hlink, hprinting, hstaged, hrange, hfree]
      rcases hservice with hs | hs | hs <;> rw [hs] <;> rfl
    have hroom : 1 ≤ s.spoilRoom := by
      show 1 ≤ 256 - s.spoils.length
      omega
    obtain ⟨t, ht, hset, -⟩ := settled_of_commit (execUnloadPack_ok (tag := tag) h hcan hroom)
      (accept_eq_answered (State.beginUnloadCheck_eq (s := s) p tag) h.listens)
    exact ⟨t, ht, hset⟩

/-! ## FORCE UNLOAD and WRITE OFF PACK -/

/-- The runs of a range of one or two serials. -/
theorem runsOf_one (first : Nat) (a : Option JobRef) : runsOf first [a] = [(first, 1, a)] := rfl

theorem runsOf_two (first : Nat) (a b : Option JobRef) :
    runsOf first [a, b] = if a = b then [(first, 2, a)] else [(first, 1, a), (first + 1, 1, b)] := by
  by_cases h : a = b
  · simp [runsOf, h]
  · simp [runsOf, h, Ne.symm h]

/-- Runs and answers are written apart. -/
theorem State.foldl_writeRun_answered (p : PrinterId) (pack : Nat) (f : Frame) (runs : List (Nat × Nat × Option JobRef)) :
    runs.foldl (fun u r => u.writeRun pack r.1 r.2.1 .linkLost (some p) r.2.2) (s.answered .supervisor f)
      = (runs.foldl (fun u r => u.writeRun pack r.1 r.2.1 .linkLost (some p) r.2.2) s).answered .supervisor f := by
  induction runs generalizing s with
  | nil => rfl
  | cons r runs ih =>
    obtain ⟨first, count, charged⟩ := r
    rw [List.foldl_cons, List.foldl_cons, ← ih]
    cases charged <;> rfl

/-- R18: the loaded pack forced out. -/
theorem State.compromise_eq {p : PrinterId} {id : Nat} (h : s.printers[p].loaded = some id) :
    s.compromise p = { s with
      packs := s.packs.map fun k =>
        if k.id = id then { k with location := .compromised, compromisedAt := some p } else k
      printers := s.printers.set p { s.printers[p] with loaded := none, stockHold := false, mismatch := false } } := by
  unfold State.compromise
  rw [h]
  rfl

/-- R18, R89: the runs that a printer's range makes. -/
def Printer.runs (pr : Printer) : List (Nat × Nat × Option JobRef) := pr.range.elim [] fun g => runsOf g.first g.charges

/-- R18: a printer once its pack is forced out. -/
def Printer.forcedOut (q : Printer) : Printer :=
  if q.range = none then { q with loaded := none, stockHold := false, mismatch := false }
  else { q with loaded := none, stockHold := false, mismatch := false, range := none, query := none,
                printTimeout := false }

/-- R18: the runs of a printer's range written. -/
def State.spoilRuns (s : State) (p : PrinterId) : State :=
  (s.printers[p]).runs.foldl
    (fun u r => u.writeRun ((s.printers[p].range.map (·.pack)).getD 0) r.1 r.2.1 .linkLost (some p) r.2.2) s

/-- R18: FORCE UNLOAD's effect, with the answer that has gone. -/
theorem State.forceUnload_eq {p : PrinterId} {id : Nat} (h : s.printers[p].loaded = some id) (f : Frame) :
    ((s.answered .supervisor f).spoilOut p).compromise p =
      State.answered { s.spoilRuns p with
        packs := (s.spoilRuns p).packs.map fun k =>
          if k.id = id then { k with location := .compromised, compromisedAt := some p } else k
        printers := (s.spoilRuns p).printers.set p (s.printers[p]).forcedOut } .supervisor f := by
  have hr : (s.answered .supervisor f).printers[p].range = s.printers[p].range := rfl
  unfold State.spoilOut
  rw [hr]
  cases hg : s.printers[p].range with
  | none =>
    have hx : s.spoilRuns p = s := by rw [State.spoilRuns, Printer.runs, hg]; rfl
    have hq : (s.printers[p]).forcedOut
        = { s.printers[p] with loaded := none, stockHold := false, mismatch := false } := if_pos hg
    dsimp only
    rw [State.compromise_eq (s := s.answered .supervisor f) h, hx, hq]
    rfl
  | some g =>
    have hx : s.spoilRuns p = s.spoilRange p g.pack g.first g.charges := by
      rw [State.spoilRuns, Printer.runs, hg]; rfl
    have hq : (s.printers[p]).forcedOut = { s.printers[p] with
        loaded := none, stockHold := false, mismatch := false, range := none, query := none
        printTimeout := false } := if_neg (by rw [hg]; exact Option.some_ne_none g)
    have hanswered : (s.answered .supervisor f).spoilRange p g.pack g.first g.charges
        = (s.spoilRange p g.pack g.first g.charges).answered .supervisor f := State.foldl_writeRun_answered ..
    have hp := s.spoilRange_printers p g.pack g.first g.charges
    rw [hx, hq]
    dsimp only
    rw [hanswered]
    generalize s.spoilRange p g.pack g.first g.charges = x at hp ⊢
    have hloaded : ((x.answered .supervisor f).modPrinter p fun pr =>
        { pr with range := none, query := none, printTimeout := false }).printers[p].loaded = some id := by
      rw [State.modPrinter_get, if_pos rfl]
      show x.printers[p].loaded = some id
      rw [hp]
      exact h
    unfold State.compromise
    rw [hloaded]
    unfold State.emptyPrinter
    dsimp only
    rw [State.modPrinter_modPack, State.modPrinter_modPrinter, ← hp]
    rfl

/-- The runs of a printer whose range is of one or two serials. -/
theorem Printer.runs_eq {pr : Printer} (h : ∀ g ∈ pr.range, g.charges.length = 1 ∨ g.charges.length = 2) :
    pr.runs = match pr.range with
      | some g => match g.charges with
        | [a, b] => if a = b then [(g.first, 2, a)] else [(g.first, 1, a), (g.first + 1, 1, b)]
        | [a] => [(g.first, 1, a)]
        | _ => []
      | none => [] := by
  unfold Printer.runs
  cases hg : pr.range with
  | none => rfl
  | some g =>
    rcases h g hg with h1 | h2
    · obtain ⟨a, ha⟩ := List.length_eq_one_iff.1 h1
      simp only [Option.elim_some, ha]
      exact runsOf_one _ _
    · obtain ⟨a, b, hab⟩ := List.length_eq_two.1 h2
      simp only [Option.elim_some, hab]
      exact runsOf_two _ _ _

theorem execForceUnload_ok {tag : Tag} {p : PrinterId} (h : s.Hears .supervisor)
    (hcan : s.printers[p].canForce = true) (hroom : s.printers[p].rangeRuns ≤ s.spoilRoom) :
    execForceUnload .supervisor tag (be 1 p.val) s = .next
      (((((s.sound .supervisor).accept .supervisor Cmd.forceUnload tag (be 1 p.val)).spoilOut p).compromise p).commit
        (s.sound .supervisor) [{ source := .printer p, kind := .serialDispute }]) := by
  refine supervisorCommand_ok h (by simp [fits]) ?_
  rw [named_num_only p, want_bind rfl]
  exact (need_bind hcan).trans (need_bind (decide_eq_true hroom))

theorem execWriteOffPack_ok {tag : Tag} {k : Pack} (h : s.Hears .supervisor) (hk : s.pack? k.id = some k)
    (hid : k.id ≤ 65535) (hhold : s.hold = false) (hloc : k.location = .safe ∨ k.location = .compromised)
    (hcheck : k.loadCheck = none) :
    execWriteOffPack .supervisor tag (be 2 k.id) s = .next
      ((((s.sound .supervisor).writeOff k).accept .supervisor Cmd.writeOffPack tag (be 2 k.id ++ be 2 k.unused)).commit
        (s.sound .supervisor) []) := by
  refine supervisorCommand_ok h (by simp [fits]) ?_
  dsimp only
  rw [num_be_only (by omega)]
  refine (want_bind hk).trans ((need_bind ?_).trans ((need_bind ?_).trans rfl))
  · show (!s.hold) = true
    rw [hhold]; rfl
  · rcases hloc with hl | hl <;> simp [hl, hcheck]

/-- R19: what WRITE OFF PACK leaves. -/
theorem State.writeOff_eq (k : Pack) :
    (s.sound .supervisor).writeOff k =
      State.sound { (if k.next ≤ k.last then s.writeRun k.id k.next (k.last + 1 - k.next) .writtenOff none none else s) with
        packs := (if k.next ≤ k.last then
            s.writeRun k.id k.next (k.last + 1 - k.next) .writtenOff none none else s).packs.map fun x =>
          if x.id = k.id then
            { x with next := x.last + 1, location := .safe, compromisedAt := none,
                     dayMark := if s.dayOpen then x.dayMark else x.last + 1 }
          else x } .supervisor := by
  unfold State.writeOff
  by_cases hk : k.next ≤ k.last
  · have hunused : 0 < k.unused := by unfold Pack.unused; omega
    rw [if_pos hunused, if_pos hk]
    rfl
  · have hunused : ¬0 < k.unused := by unfold Pack.unused; omega
    rw [if_neg hunused, if_neg hk]
    rfl

/-- Settles O36, by the commands' checks in order and the range's runs. -/
theorem forceUnloadAndWriteOff : Obligations.ForceUnloadAndWriteOff := by
  refine ⟨?_, ?_⟩
  · intro s tag p id h hloaded hload hunload htest hslots runs hcharges hroom spoiled q emptied
    have hcan : s.printers[p].canForce = true := by
      unfold Printer.canForce Printer.tickets
      rw [hloaded, Printer.occupied_eq_false hload hunload htest]
      cases hup : s.printers[p].link == .up with
      | false => rfl
      | true =>
        obtain ⟨hp, hs⟩ := hslots (by simpa using hup)
        rw [hp, hs]
        rfl
    have hruns : (s.printers[p]).runs = runs := Printer.runs_eq hcharges
    have hspoil : s.printers[p].rangeRuns ≤ s.spoilRoom := by
      have hlen : s.printers[p].rangeRuns = runs.length := by
        rw [← hruns, Printer.runs, Printer.rangeRuns]
        cases s.printers[p].range <;> rfl
      show _ ≤ 256 - s.spoils.length
      omega
    have hspoiled : s.spoilRuns p = spoiled := by rw [State.spoilRuns, hruns]
    have heffect := State.forceUnload_eq hloaded (acceptedFrame Cmd.forceUnload tag (be 1 p.val))
    rw [hspoiled, ← accept_eq_answered (u := s.sound .supervisor) rfl h.listens] at heffect
    obtain ⟨t, ht, hset, htold⟩ := settled_of_commit (execForceUnload_ok (tag := tag) h hcan hspoil) heffect
    exact ⟨t, ht, hset, htold _ (List.mem_singleton_self _)⟩
  · intro s tag k h hk hid hspoils hloc hcheck
    obtain ⟨t, ht, hset, -⟩ := settled_of_commit
      (execWriteOffPack_ok (tag := tag) h hk hid (State.hold_eq_false hspoils) hloc hcheck)
      (accept_eq_answered (State.writeOff_eq (s := s) k) (by split <;> exact h.listens))
    exact ⟨t, ht, hset⟩

end Sys2Proof.Machine
end

section
/-! The reads (R21, R90, R124 to R126, R159, R160, R179, R190): each replies, and nothing else. -/

namespace Sys2Proof.Machine

variable {s : State}

/-- A read of the supervisor: where its checks lead to a reply, the reply is all its step does. -/
theorem supervisorRead_replies {kind : Byte} {lo hi : Nat} {tag : Tag} {body : List Byte} {out : Byte}
    {fields : List Byte} {act : State → Except Code State} (h : s.Hears .supervisor) (hf : fits lo hi body = true)
    (ha : act (s.sound .supervisor) = .ok ((s.sound .supervisor).reply .supervisor out tag fields)) :
    supervisorCommand kind lo hi .supervisor tag body s act
      = .next (s.answered .supervisor { kind := out, tag := tag, body := fields }) := by
  refine supervisorCommand_ok h hf (ha.trans ?_)
  exact congrArg Except.ok (State.sound_send h.listens _)

theorem execQueryShift_replies {w : Window} {tag : Tag} (h : s.Hears (.window w)) :
    execQueryShift (.window w) tag [] s
      = .next (s.answered (.window w) { kind := Out.queryReply, tag := tag, body := s.queryBody w }) := by
  refine windowCommand_ok h (by simp [fits]) ?_
  exact congrArg Except.ok (State.sound_send h.listens _)

theorem execReadPack_replies {tag : Tag} {byIndex : Bool} {n i : Nat} {k : Pack} (h : s.Hears .supervisor)
    (hn : n < 65536) (hfound : s.packRead byIndex n = .ok (i, k)) :
    execReadPack .supervisor tag (be 1 byIndex.toNat ++ be 2 n) s
      = .next (s.answered .supervisor { kind := Out.packReply, tag := tag, body := s.packBody i k }) := by
  refine supervisorRead_replies h (by simp [fits]) ?_
  have hflag : (num (be 1 byIndex.toNat ++ be 2 n) 0 1 != 0) = byIndex := by
    rw [num_be_head (by cases byIndex <;> decide)]
    cases byIndex <;> rfl
  rw [hflag, num_be_last (by simp) (by omega), show (s.sound .supervisor).packRead byIndex n = .ok (i, k) from hfound]
  rfl

/-- R21: a record is read by its place. -/
theorem State.packRead_index {i : Nat} {k : Pack} (hi : i < 64) (hk : s.packs[i]? = some k) :
    s.packRead true i = .ok (i, k) := by
  unfold State.packRead
  rw [if_pos rfl]
  exact (need_bind (decide_eq_true hi)).trans ((want_bind hk).trans rfl)

/-- R21: a record is read by its id, the first that has it. -/
theorem State.packRead_id {i : Nat} {k : Pack} (hk : s.packs[i]? = some k)
    (hfirst : ∀ (m : Nat) (x : Pack), m < i → s.packs[m]? = some x → x.id ≠ k.id) :
    s.packRead false k.id = .ok (i, k) := by
  unfold State.packRead
  rw [if_neg (by decide)]
  have hfind : s.packs.findIdx? (·.id == k.id) = some i := by
    rw [List.findIdx?_eq_some_iff_getElem]
    obtain ⟨hlen, hget⟩ := List.getElem?_eq_some_iff.1 hk
    refine ⟨hlen, by rw [hget]; simp, fun m hm => ?_⟩
    have := hfirst m _ hm (List.getElem?_eq_getElem (by omega))
    simpa using this
  exact (want_bind hfind).trans ((want_bind hk).trans rfl)

theorem execReadSpoils_replies {tag : Tag} {start count : Nat} (h : s.Hears .supervisor) (hs : start < 256)
    (hc : 1 ≤ count) (hc' : count ≤ 8) :
    execReadSpoils .supervisor tag (be 1 start ++ be 1 count) s
      = .next (s.answered .supervisor { kind := Out.spoilsReply, tag := tag, body := s.spoilsBody start count }) := by
  refine supervisorRead_replies h (by simp [fits]) ?_
  dsimp only
  rw [num_be_last (by simp) (by omega), num_be_head (by omega), need_bind (by simp [hc, hc'])]
  rfl

/-- A window's number in the first byte of a body. -/
theorem named_num_window (w : Window) (rest : List Byte) :
    (named 12 (num (be 1 w.val ++ rest) 0 1) : Option Window) = some w := by
  have hw : w.val < 12 := w.isLt
  rw [num_be_head (by omega), named_val]

theorem execReadEntries_replies {tag : Tag} {w : Window} {voids : Bool} {start count : Nat} (h : s.Hears .supervisor)
    (hc : 1 ≤ count) (hc' : count ≤ 8) (hs : start ≤ if voids then 31 else 103) :
    execReadEntries .supervisor tag (be 1 w.val ++ be 1 voids.toNat ++ be 1 start ++ be 1 count) s
      = .next (s.answered .supervisor
          { kind := Out.entriesReply, tag := tag, body := s.shifts[w].entriesBody voids start count }) := by
  refine supervisorRead_replies h (by simp [fits]) ?_
  dsimp only
  have hstart : start < 256 := by split at hs <;> omega
  have hvoids : voids.toNat < 256 := by cases voids <;> decide
  have hn1 : num (be 1 w.val ++ be 1 voids.toNat ++ be 1 start ++ be 1 count) 1 1 = voids.toNat := by
    rw [List.append_assoc]
    exact num_be_mid (by simp) (by omega)
  have hn2 : num (be 1 w.val ++ be 1 voids.toNat ++ be 1 start ++ be 1 count) 2 1 = start :=
    num_be_mid (by simp) (by omega)
  have hn3 : num (be 1 w.val ++ be 1 voids.toNat ++ be 1 start ++ be 1 count) 3 1 = count :=
    num_be_last (by simp) (by omega)
  have hw : (named 12 (num (be 1 w.val ++ be 1 voids.toNat ++ be 1 start ++ be 1 count) 0 1) : Option Window) = some w := by
    rw [List.append_assoc, List.append_assoc]
    exact named_num_window w _
  rw [hn1, hn2, hn3, hw, need_bind (by simp [hc, hc']), want_bind rfl]
  cases voids with
  | false => exact (need_bind (by decide)).trans ((need_bind (decide_eq_true (by simpa using hs))).trans rfl)
  | true => exact (need_bind (by decide)).trans ((need_bind (decide_eq_true (by simpa using hs))).trans rfl)

theorem execReadShift_replies {tag : Tag} {w : Window} (h : s.Hears .supervisor) :
    execReadShift .supervisor tag (be 1 w.val) s
      = .next (s.answered .supervisor { kind := Out.shiftReply, tag := tag, body := s.shiftBody w }) := by
  refine supervisorRead_replies h (by simp [fits]) ?_
  have hw : (named 12 (num (be 1 w.val) 0 1) : Option Window) = some w := by
    simpa using named_num_window w []
  rw [hw]
  rfl

theorem execNextFault_replies {tag : Tag} (h : s.Hears .supervisor) :
    execNextFault .supervisor tag [] s
      = .next (s.answered .supervisor { kind := Out.faultReply, tag := tag, body := s.faultBody s.nextReport 0 }) :=
  supervisorRead_replies h (by simp [fits]) rfl

theorem execReadFault_replies {tag : Tag} {number place : Nat} (h : s.Hears .supervisor) (hn : number < 65536)
    (hplace : s.reportPlace number = some place) :
    execReadFault .supervisor tag (be 2 number) s
      = .next (s.answered .supervisor
          { kind := Out.faultReply, tag := tag
            body := s.faultBody s.allReports[place]? (s.followingNumber place) }) := by
  refine supervisorRead_replies h (by simp [fits]) ?_
  rw [num_be_only (by omega)]
  exact (want_bind hplace).trans rfl

/-- R160: a number names the first report that has it. -/
theorem State.reportPlace_of_number {i : Nat} {r : Report} (hr : s.allReports[i]? = some r) (hn : r.number ≠ 0)
    (hfirst : ∀ (m : Nat) (x : Report), m < i → s.allReports[m]? = some x → x.number ≠ r.number) :
    s.reportPlace r.number = some i := by
  unfold State.reportPlace
  rw [if_neg hn, List.findIdx?_eq_some_iff_getElem]
  obtain ⟨hlen, hget⟩ := List.getElem?_eq_some_iff.1 hr
  refine ⟨hlen, by rw [hget]; simp, fun m hm => ?_⟩
  have := hfirst m _ hm (List.getElem?_eq_getElem (by omega))
  simpa using this

theorem execReadEntry_replies {tag : Tag} (h : s.Hears .supervisor) :
    execReadEntry .supervisor tag [] s
      = .next (s.answered .supervisor { kind := Out.entryReply, tag := tag, body := s.cursorBody }) :=
  supervisorRead_replies h (by simp [fits]) rfl

theorem execReadOffice_replies {tag : Tag} (h : s.Hears .supervisor) :
    execReadOffice .supervisor tag [] s
      = .next (s.answered .supervisor { kind := Out.officeReply, tag := tag, body := s.officeBody }) :=
  supervisorRead_replies h (by simp [fits]) rfl

/-- Settles O31, read by read. -/
theorem readsAnswer : Obligations.ReadsAnswer := by
  refine ⟨fun s w tag h => execQueryShift_replies h, fun s tag h => ?_⟩
  refine ⟨fun i k hi hk => ?_, fun i k _ hk hid hfirst => ?_, fun start count hs hc hc' => ?_,
    fun w start count hc hc' => ⟨fun hs => ?_, fun hs => ?_⟩, fun w => ?_, ?_, fun i r hr hlt hne hfirst => ?_, ?_, ?_, ?_⟩
  · exact execReadPack_replies (byIndex := true) h (by omega) (State.packRead_index hi hk)
  · exact execReadPack_replies (byIndex := false) h hid (State.packRead_id hk hfirst)
  · exact execReadSpoils_replies h hs hc hc'
  · exact execReadEntries_replies (voids := false) h hc hc' hs
  · exact execReadEntries_replies (voids := true) h hc hc' hs
  · exact execReadShift_replies h
  · exact execNextFault_replies h
  · have := execReadFault_replies (tag := tag) h hlt (State.reportPlace_of_number hr hne hfirst)
    rw [hr] at this
    exact this
  · have := execReadFault_replies (s := s) (tag := tag) (number := 0) (place := 0) h (by omega) rfl
    rw [← List.head?_eq_getElem?] at this
    exact this
  · exact execReadEntry_replies h
  · exact execReadOffice_replies h

end Sys2Proof.Machine
end

section
/-! OPEN DAY and CLOSE DAY (R144 to R146). -/

namespace Sys2Proof.Machine

variable {s : State}

/-- The shifts in order, and those of every window. -/
theorem shifts_toList (v : Vector Shift 12) : v.toList = allWindows.map fun w => v[w] := by
  rw [show allWindows = List.finRange 12 from by decide]
  exact List.ext_getElem (by simp) fun i h₁ h₂ => by simp

theorem execOpenDay_ok {tag : Tag} (h : s.Hears .supervisor) (hd : s.dayOpen = false) :
    execOpenDay .supervisor tag [] s = .next (({ s.markDay with dayOpen := true } : State).answered .supervisor
      (acceptedFrame Cmd.openDay tag (be 1 s.packs.length))) := by
  refine supervisorCommand_ok h (by simp [fits]) ?_
  have hneed : (!(s.sound .supervisor).dayOpen) = true := by
    show (!s.dayOpen) = true
    rw [hd]; rfl
  exact (need_bind hneed).trans (accept_answered (v := { s.markDay with dayOpen := true }) h.listens rfl)

/-! ## CLOSE DAY -/

/-- R145: the five checks, printer by printer and window by window. -/
theorem State.dayCanClose_of (hd : s.dayOpen = true)
    (hw : ∀ w : Window, s.shifts[w].state = .idle ∨ s.shifts[w].state = .signedOff)
    (hp : ∀ p : PrinterId, s.printers[p].printing = none ∧ s.printers[p].staged = none
      ∧ s.printers[p].range = none ∧ s.printers[p].loadCheck = none) : s.dayCanClose = true := by
  simp only [State.dayCanClose, Bool.and_eq_true, List.all_eq_true]
  refine ⟨⟨⟨⟨hd, fun w _ => ?_⟩, fun p _ => ?_⟩, fun p _ => ?_⟩, fun p _ => ?_⟩
  · rcases hw w with h | h <;> rw [h] <;> rfl
  · rw [Printer.tickets, (hp p).1, (hp p).2.1]; rfl
  · rw [(hp p).2.2.1]; rfl
  · rw [(hp p).2.2.2]; rfl

/-- R93, R162: the conditions that CLOSE DAY ends. -/
def State.dayEnds (s : State) : Source → Kind → Bool
  | .window w, kind => kind == .lineBreak && s.shifts[w].state == .signedOff && !s.ports[w].attached
  | .office, kind => kind == .accountabilityHold && decide (256 - s.spoils.length ≤ 24)
  | .printer _, _ => false

/-- R162: the ends of LINE_BREAK alone. -/
def State.lineEnds (s : State) (source : Source) (kind : Kind) : Bool :=
  match source with
  | .window w => kind == .lineBreak && s.shifts[w].emptied && !s.ports[w].attached
  | _ => false

/-- R146: the records as CLOSE DAY leaves them. -/
def State.dayShifts (s : State) : Vector Shift 12 := s.shifts.map fun h => if h.state = .signedOff then .empty else h

theorem State.emptyShifts_shifts (s : State) : s.emptyShifts.shifts = s.dayShifts := by
  unfold State.emptyShifts State.endConditions
  dsimp only
  rw [State.sendWindows_shifts]
  refine vector_ext_get fun w => ?_
  unfold State.mapShifts
  dsimp only
  rw [vecGet_ofFn, State.dayShifts, vecGet_map]
  simp only [Shift.emptied, beq_iff_eq]

theorem State.endConditions_reports (s : State) (f : Source → Kind → Bool) : (s.endConditions f).reports =
    s.reports.map fun r => if r.state != .cleared && f r.source r.kind then r.ended else r := rfl

theorem State.emptyShifts_spoils (s : State) : s.emptyShifts.spoils = s.spoils := by
  unfold State.emptyShifts State.endConditions
  dsimp only
  rw [State.sendWindows_spoils]
  rfl

/-- Conditions ended in two goes, none of them twice, are ended in one. -/
theorem ended_ended {f g : Source → Kind → Bool} (h : ∀ a k, f a k = true → g a k = false) (l : List Report) :
    (l.map fun r => if r.state != .cleared && f r.source r.kind then r.ended else r).map
        (fun r => if r.state != .cleared && g r.source r.kind then r.ended else r)
      = l.map fun r => if r.state != .cleared && (f r.source r.kind || g r.source r.kind) then r.ended else r := by
  rw [List.map_map]
  refine List.map_congr_left fun r _ => ?_
  rw [Function.comp_apply]
  cases hf : f r.source r.kind with
  | false => simp
  | true =>
    have hg : g r.ended.source r.ended.kind = false := h _ _ hf
    cases hc : r.state != .cleared with
    | false => simp [hc]
    | true => simp only [Bool.and_true, Bool.true_or, if_true, hg, Bool.and_false, Bool.false_eq_true, if_false]

/-- The ends of LINE_BREAK and of the hold fall on different reports. -/
theorem State.dayEnds_reports (s : State) :
    s.emptyShifts.emptySpoils.reports = s.reports.map fun r =>
      if r.state ≠ .cleared ∧ s.dayEnds r.source r.kind = true then r.ended else r := by
  have hhold : s.emptyShifts.hold = decide (256 - s.spoils.length ≤ 24) := by
    rw [State.hold_eq, State.emptyShifts_spoils]
  unfold State.emptySpoils
  dsimp only
  rw [State.endConditions_reports, hhold]
  unfold State.emptyShifts
  dsimp only
  rw [State.endConditions_reports, State.sendWindows_reports]
  have hdisjoint (a : Source) (k : Kind) : s.lineEnds a k = true →
      (decide (256 - s.spoils.length ≤ 24) && a == .office && k == .accountabilityHold) = false := by
    cases a <;> simp [State.lineEnds]
  refine (ended_ended (f := s.lineEnds) hdisjoint s.reports).trans (List.map_congr_left fun r _ => ?_)
  have hends : (s.lineEnds r.source r.kind
      || (decide (256 - s.spoils.length ≤ 24) && r.source == .office && r.kind == .accountabilityHold))
        = s.dayEnds r.source r.kind := by
    cases r.source <;> simp [State.lineEnds, State.dayEnds, Shift.emptied, Bool.and_comm]
  rw [hends]
  simp

theorem PortRecord.push_nil (r : PortRecord) : r.push [] = r := by
  unfold PortRecord.push
  rw [List.append_nil]
  split <;> rfl

/-- R133, R146: SHIFT STATE goes to the window of each emptied shift. -/
theorem State.emptyShifts_ports {u : State} (hs : u.shifts = s.dayShifts) (hj : u.jobs = s.jobs) :
    s.emptyShifts.ports = Vector.ofFn fun w : Window =>
      if s.shifts[w].state = .signedOff then s.ports[w].push [⟨0x86#8, 0#8, u.queryBody w⟩] else s.ports[w] := by
  have hx := s.emptyShifts_shifts
  unfold State.emptyShifts State.endConditions at hx ⊢
  dsimp only at hx ⊢
  rw [State.sendWindows_shifts] at hx
  unfold State.sendWindows
  dsimp only
  refine vector_ext_get fun w => ?_
  rw [vecGet_ofFn, vecGet_ofFn]
  by_cases hw : s.shifts[w].state = .signedOff
  · have he : s.shifts[w].emptied = true := by rw [Shift.emptied, hw]; rfl
    rw [if_pos he, if_pos hw]
    unfold State.shiftStateFrame
    rw [State.queryBody_congr (congrArg (·[w]) (hx.trans hs.symm)) (by rw [hj]; rfl)]
    rfl
  · have he : ¬s.shifts[w].emptied = true := by simpa [Shift.emptied] using hw
    rw [if_neg he, if_neg hw, PortRecord.push_nil]
    rfl

/-- R146: what CLOSE DAY leaves, field by field. -/
theorem State.dayClosed_eq (s : State) :
    ({ s.emptyShifts.emptySpoils.removeCleared.markDay with dayOpen := false } : State) =
      { s with
        dayOpen := false, spoils := [], packs := s.packs.map fun k => { k with dayMark := k.next }
        shifts := s.emptyShifts.shifts, ports := s.emptyShifts.ports
        reports := s.emptyShifts.emptySpoils.reports.filter (·.state != .cleared)
        reserved := s.reserved.filter (·.state != .cleared) } := by
  obtain ⟨shifts, ports, reports, hx⟩ : ∃ a b c, s.emptyShifts = { s with shifts := a, ports := b, reports := c } := by
    unfold State.emptyShifts State.endConditions State.sendWindows State.mapShifts
    exact ⟨_, _, _, rfl⟩
  rw [hx]
  rfl

theorem execCloseDay_ok {tag : Tag} (h : s.Hears .supervisor) (hc : s.dayCanClose = true) :
    execCloseDay .supervisor tag [] s = .next
      ((({ (s.sound .supervisor).emptyShifts.emptySpoils.removeCleared.markDay with dayOpen := false } : State).accept
        .supervisor Cmd.closeDay tag
        (be 1 (allWindows.countP fun w => s.shifts[w].emptied) ++ be 2 s.spoils.length)).commit
          (s.sound .supervisor) []) :=
  supervisorCommand_ok h (by simp [fits]) (need_bind hc)

/-- Settles O42, field by field of what CLOSE DAY leaves. -/
theorem openAndCloseDay : Obligations.OpenAndCloseDay := by
  refine ⟨fun s tag h hd => execOpenDay_ok h hd, ?_⟩
  intro s tag h hd hw hp ends closed
  have hports := State.emptyShifts_ports (s := s.sound .supervisor) (u := closed) rfl rfl
  have hends (r : Report) : (s.sound .supervisor).dayEnds r.source r.kind = ends r := by
    dsimp only [ends]
    cases r.source <;> rfl
  have hcount : s.shifts.toList.countP (·.state == .signedOff) = allWindows.countP fun w => s.shifts[w].emptied := by
    rw [shifts_toList, List.countP_map]
    rfl
  rw [hcount]
  obtain ⟨t, ht, hset, -⟩ := settled_of_commit (execCloseDay_ok (tag := tag) h (State.dayCanClose_of hd hw hp))
    (accept_eq_answered (v := { closed with
      ports := Vector.ofFn fun w : Window => if s.shifts[w].state = .signedOff then
          s.ports[w].push [⟨0x86#8, 0#8, closed.queryBody w⟩]
        else s.ports[w] }) (by
      rw [State.dayClosed_eq, State.emptyShifts_shifts, hports, State.dayEnds_reports]
      simp only [hends]
      rfl) h.listens)
  exact ⟨t, ht, hset⟩

end Sys2Proof.Machine
end

section
/-! The cold start and the warm start (R186, R187). -/

namespace Sys2Proof.Machine

variable {s : State}

/-- What a warm start sets before conditions end and the outputs follow. -/
def State.warmReset (s : State) (straps : Straps) : State :=
  { s with
    phase := .running, lastStart := .warm, speed := straps
    ports := Vector.replicate 12 .start, svPort := .start, cursor := .concession 0
    packs := s.packs.map fun k => { k with loadCheck := none }
    printers := s.printers.map Printer.restart
    jobs := []
    shifts := s.shifts.map Shift.restart
    windowFlags := s.shifts.map fun h => { line := false, shift := h.state == .draining }
    alarmIn := false, silenced := false }

theorem State.warmStart_eq (s : State) (straps : Straps) :
    s.warmStart straps = ((s.warmReset straps).endConditions endsAtStart).outputs := rfl

/-- R40, R44: a printer after a warm start, its range taking up its tickets in flight. -/
theorem Printer.restart_eq (pr : Printer) : pr.restart = { Printer.start with
    loaded := pr.loaded, pool := pr.pool, outOfService := pr.outOfService, stockHold := pr.stockHold
    range := match pr.printing.toList ++ pr.staged.toList with
      | [] => pr.range
      | f :: rest => some ⟨f.pack, f.serial, f.owner :: rest.map (·.owner), false⟩ } := by
  unfold Printer.restart Printer.moveToRange Printer.tickets
  cases pr.printing.toList ++ pr.staged.toList <;> rfl

/-- R168: with its link down a printer's lamp stays dark. -/
theorem State.warmStart_printer (s : State) (straps : Straps) (p : PrinterId) :
    (s.warmStart straps).printers[p] = (s.printers[p]).restart := by
  have hp : ((s.warmReset straps).endConditions endsAtStart).printers[p] = (s.printers[p]).restart :=
    vecGet_map Printer.restart s.printers p
  have hlaw : ((s.warmReset straps).endConditions endsAtStart).lampLaw p = .off := by
    unfold State.lampLaw
    rw [hp]
    rfl
  rw [State.warmStart_eq]
  unfold State.outputs
  dsimp only
  rw [State.mapPrinters_get, hlaw, hp]
  rfl

/-- R169: the conditions that a warm start ends. -/
theorem endsAtStart_iff {a : Source} {k : Kind} : endsAtStart a k = true ↔
    k = .externalAlarm ∧ a = .office
      ∨ (k = .jabber ∨ k = .coverOpen ∨ k = .headFault ∨ k = .jam) ∧ ∃ p, a = .printer p := by
  cases a <;> cases k <;> simp [endsAtStart]

theorem State.warmStart_reports (s : State) (straps : Straps) :
    (s.warmStart straps).reports = s.reports.map fun r =>
      if r.state ≠ .cleared ∧ (r.kind = .externalAlarm ∧ r.source = .office
          ∨ (r.kind = .jabber ∨ r.kind = .coverOpen ∨ r.kind = .headFault ∨ r.kind = .jam)
            ∧ ∃ p, r.source = .printer p) then
        r.ended
      else r := by
  rw [State.warmStart_eq]
  show ((s.warmReset straps).endConditions endsAtStart).reports = _
  rw [State.endConditions_reports]
  refine List.map_congr_left fun r _ => ?_
  simp only [Bool.and_eq_true, bne_iff_ne, endsAtStart_iff]

/-- Settles O45, by the phase in which a start falls due and the fields it writes. -/
theorem coldAndWarmStarts : Obligations.ColdAndWarmStarts := by
  refine ⟨fun s straps => ⟨fun hoff hpin => ?_, fun hheld => ?_, fun hoff hpin good => ?_⟩, ?_⟩
  · show execPowerUp false straps s = _
    rw [execPowerUp, if_pos hoff, if_neg (by simp [hpin])]
    show Host.Outcome.next (s.coldStart straps) = _
    rw [State.coldStart, hpin]
    rfl
  · show execResetReleased straps s = _
    rw [execResetReleased]
    dsimp only
    rw [hheld]
    rfl
  · show execPowerUp good straps s = _
    rw [execPowerUp, if_pos hoff, if_pos hpin]
    rfl
  · intro s straps c hc
    have hrun : exec c s = .next (({ s with resetPin := false } : State).warmStart straps) := by
      rcases hc with ⟨hoff, hpin, rfl⟩ | ⟨hheld, rfl⟩
      · show execPowerUp true straps s = _
        rw [execPowerUp, if_pos hoff, if_neg (by simp [hpin]), ← hpin]
        rfl
      · show execResetReleased straps s = _
        rw [execResetReleased]
        dsimp only
        rw [hheld]
        rfl
    refine ⟨_, hrun, rfl, rfl, rfl, rfl, rfl, rfl, rfl, rfl, rfl, rfl, fun p => ?_, rfl, rfl, rfl, rfl, fun w => ?_, rfl,
      rfl, rfl, State.warmStart_reports _ _, fun w => ?_, rfl, rfl, rfl, ?_, rfl, rfl, rfl, rfl⟩
    · exact (State.warmStart_printer _ _ p).trans (Printer.restart_eq s.printers[p])
    · exact vecGet_map Shift.restart s.shifts w
    · have hw : (({ s with resetPin := false } : State).warmStart straps).windowFlags[w]
          = { line := false, shift := s.shifts[w].state == .draining } :=
        vecGet_map (fun h : Shift => ({ line := false, shift := h.state == .draining } : WindowFlags)) s.shifts w
      rw [hw]
      exact ⟨rfl, beq_iff_eq⟩
    · exact State.outputs_alarm _

end Sys2Proof.Machine
end

section
/-!
Tickets lost (R25, R35, R40, R61, R71, R85, R118) and the loss of a link: what they leave, field by field.
-/

namespace Sys2Proof.Machine

/-! ## States that differ in a few fields -/

/-- A vector with a place set to what stands there. -/
theorem vecSet_self {α : Type} {n : Nat} (v : Vector α n) (i : Fin n) : v.set i v[i] = v :=
  vector_ext_get fun j => by
    rw [vecGet_set]
    split
    · subst_vars; rfl
    · rfl

/-- A state with its shifts, ports and printers replaced. -/
def State.withRecords (s : State) (shifts : Vector Shift 12) (ports : Vector PortRecord 12) (svPort : PortRecord)
    (printers : Vector Printer 8) : State :=
  { s with shifts := shifts, ports := ports, svPort := svPort, printers := printers }

theorem State.withRecords_self (s : State) : s.withRecords s.shifts s.ports s.svPort s.printers = s := rfl

theorem State.withRecords_withRecords (s : State) (shifts shifts' : Vector Shift 12)
    (ports ports' : Vector PortRecord 12) (svPort svPort' : PortRecord) (printers printers' : Vector Printer 8) :
    (s.withRecords shifts ports svPort printers).withRecords shifts' ports' svPort' printers'
      = s.withRecords shifts' ports' svPort' printers' := rfl

/-! ## What lost tickets leave -/

/-- R118: the reservations of a window that go with lost tickets. -/
def lostReservations (l : List Ticket) (w : Window) : Nat :=
  l.countP fun f => f.reserved && f.owner.any (·.window == w)

/-- R85: the TICKET REPORTs LOST that go to a window. -/
def lostReports (p : PrinterId) (l : List Ticket) (w : Window) : List Frame :=
  l.filterMap fun f => f.owner.bind fun ref =>
    if ref.window = w then some ⟨0x82#8, ref.tag, be 1 5 ++ be 1 p.val ++ be 2 f.pack ++ be 3 f.serial⟩ else none

/-- R61, R71: the jobs of lost tickets back off, and a lost test print ends. -/
def Printer.backedOff (pr : Printer) (l : List Ticket) : Printer :=
  { pr with
    test := if l.find? (·.owner == none) = none then pr.test else none
    arbiter := { pr.arbiter with holder := pr.arbiter.holder.filter fun ref => l.all (·.owner != some ref) } }

/-- R71, R85: the TEST DONE LOST of a lost test print. -/
def Printer.lostTest (pr : Printer) (p : PrinterId) (l : List Ticket) : List Frame :=
  match pr.test, l.find? (·.owner == none) with
  | some x, some f => [⟨0x88#8, x.tag,
      be 1 p.val ++ be 1 5 ++ be 2 f.pack ++ be 3 f.serial ++ absent 3 ++ be 1 0⟩]
  | _, _ => []

/-- What tickets lost one after the other leave. -/
def State.lose (s : State) (p : PrinterId) (l : List Ticket) : State :=
  s.withRecords
    (Vector.ofFn fun w : Window => { s.shifts[w] with
      reservations := s.shifts[w].reservations - lostReservations l w })
    (Vector.ofFn fun w : Window => s.ports[w].push (lostReports p l w))
    (s.svPort.push ((s.printers[p]).lostTest p l))
    (s.printers.set p ((s.printers[p]).backedOff l))

variable {s : State} {p : PrinterId}

theorem Printer.backedOff_nil (pr : Printer) : pr.backedOff [] = pr := by
  have hfilter : pr.arbiter.holder.filter (fun _ => true) = pr.arbiter.holder := by
    cases pr.arbiter.holder <;> rfl
  unfold Printer.backedOff
  simp only [List.find?_nil, if_true, List.all_nil, hfilter]

theorem Printer.lostTest_nil (pr : Printer) : pr.lostTest p [] = [] := by
  unfold Printer.lostTest
  cases pr.test <;> rfl

theorem State.lose_nil (s : State) (p : PrinterId) : s.lose p [] = s := by
  have hshifts : (Vector.ofFn fun w : Window => { s.shifts[w] with
      reservations := s.shifts[w].reservations - lostReservations [] w }) = s.shifts :=
    vector_ext_get fun w => by rw [vecGet_ofFn]; rfl
  have hports : (Vector.ofFn fun w : Window => s.ports[w].push (lostReports p [] w)) = s.ports :=
    vector_ext_get fun w => by rw [vecGet_ofFn]; exact PortRecord.push_nil _
  unfold State.lose
  rw [hshifts, hports, Printer.lostTest_nil, PortRecord.push_nil, Printer.backedOff_nil, vecSet_self,
    State.withRecords_self]

theorem Printer.backedOff_backedOff (pr : Printer) (l m : List Ticket) :
    (pr.backedOff l).backedOff m = pr.backedOff (l ++ m) := by
  have hholder : (pr.arbiter.holder.filter fun ref => l.all (·.owner != some ref)).filter
      (fun ref => m.all (·.owner != some ref))
        = pr.arbiter.holder.filter fun ref => (l ++ m).all (·.owner != some ref) := by
    cases pr.arbiter.holder with
    | none => rfl
    | some ref => by_cases h : l.all (·.owner != some ref) <;> simp [Option.filter, h]
  have htest : (if m.find? (·.owner == none) = none then
      (if l.find? (·.owner == none) = none then pr.test else none) else none)
        = if (l ++ m).find? (·.owner == none) = none then pr.test else none := by
    rw [List.find?_append]
    cases l.find? (·.owner == none) <;> simp
  unfold Printer.backedOff
  dsimp only
  rw [hholder, htest]

theorem Printer.lostTest_append (pr : Printer) (l m : List Ticket) :
    pr.lostTest p l ++ (pr.backedOff l).lostTest p m = pr.lostTest p (l ++ m) := by
  unfold Printer.lostTest Printer.backedOff
  rw [List.find?_append]
  cases pr.test <;> cases l.find? (·.owner == none) <;> cases m.find? (·.owner == none) <;> simp

theorem State.lose_lose (s : State) (p : PrinterId) (l m : List Ticket) :
    (s.lose p l).lose p m = s.lose p (l ++ m) := by
  have hshifts : (Vector.ofFn fun w : Window => { (s.lose p l).shifts[w] with
      reservations := (s.lose p l).shifts[w].reservations - lostReservations m w })
        = (s.lose p (l ++ m)).shifts := vector_ext_get fun w => by
    unfold State.lose State.withRecords lostReservations
    dsimp only
    rw [vecGet_ofFn, vecGet_ofFn, vecGet_ofFn, List.countP_append, Nat.sub_sub]
  have hports : (Vector.ofFn fun w : Window => (s.lose p l).ports[w].push (lostReports p m w))
      = (s.lose p (l ++ m)).ports := vector_ext_get fun w => by
    unfold State.lose State.withRecords lostReports
    dsimp only
    rw [vecGet_ofFn, vecGet_ofFn, vecGet_ofFn, List.filterMap_append, PortRecord.push_push]
  have hprinter : (s.lose p l).printers[p] = (s.printers[p]).backedOff l := by
    unfold State.lose State.withRecords
    dsimp only
    rw [vecGet_set, if_pos rfl]
  have hsv : (s.lose p l).svPort.push (((s.lose p l).printers[p]).lostTest p m) = (s.lose p (l ++ m)).svPort := by
    rw [hprinter]
    unfold State.lose State.withRecords
    dsimp only
    rw [PortRecord.push_push, Printer.lostTest_append]
  have hprinters : (s.lose p l).printers.set p (((s.lose p l).printers[p]).backedOff m)
      = (s.lose p (l ++ m)).printers := by
    rw [hprinter, Printer.backedOff_backedOff]
    exact Vector.set_set ..
  show State.withRecords _ _ _ _ _ = _
  rw [hshifts, hports, hsv, hprinters]
  exact State.withRecords_withRecords ..

/-- R85: a job's ticket lost. -/
theorem State.loseTicket_job (s : State) (p : PrinterId) {f : Ticket} {ref : JobRef} (h : f.owner = some ref) :
    s.loseTicket p f = s.lose p [f] := by
  have hshifts : s.shifts.set ref.window ((s.shifts[ref.window]).release f.reserved)
      = Vector.ofFn fun w : Window => { s.shifts[w] with
          reservations := s.shifts[w].reservations - lostReservations [f] w } := vector_ext_get fun w => by
    rw [vecGet_set, vecGet_ofFn]
    unfold lostReservations Shift.release
    by_cases hw : w = ref.window
    · subst hw
      cases hr : f.reserved <;> simp [h, hr]
    · simp [h, hw, Ne.symm hw]
  have hports : s.ports.set ref.window (s.ports[ref.window].push [ticketReport ref.tag p f .lost])
      = Vector.ofFn fun w : Window => s.ports[w].push (lostReports p [f] w) := vector_ext_get fun w => by
    rw [vecGet_set, vecGet_ofFn]
    unfold lostReports
    by_cases hw : w = ref.window
    · subst hw
      simp only [if_true, List.filterMap_cons, List.filterMap_nil, h, Option.bind_some]
      rfl
    · simp only [if_neg hw, if_neg (Ne.symm hw), List.filterMap_cons, List.filterMap_nil, h, Option.bind_some,
        PortRecord.push_nil]
  have hsv : s.svPort = s.svPort.push ((s.printers[p]).lostTest p [f]) := by
    have : (s.printers[p]).lostTest p [f] = [] := by
      unfold Printer.lostTest
      cases (s.printers[p]).test <;> simp [h]
    rw [this, PortRecord.push_nil]
  have hprinter (pr : Printer) : (if f.owner.isSome && pr.arbiter.holder == f.owner then
      { pr with arbiter := { pr.arbiter with holder := none } } else pr) = pr.backedOff [f] := by
    have hfilter : pr.arbiter.holder.filter (fun x => [f].all (·.owner != some x))
        = if pr.arbiter.holder = some ref then none else pr.arbiter.holder := by
      cases pr.arbiter.holder with
      | none => rfl
      | some x =>
        by_cases hx : x = ref
        · simp [h, hx]
        · simp [h, hx, Ne.symm hx]
    unfold Printer.backedOff
    rw [hfilter, h]
    by_cases hx : pr.arbiter.holder = some ref
    · simp [h, hx]
    · simp [h, hx]
  unfold State.lose
  rw [← hshifts, ← hports, ← hsv, ← hprinter]
  unfold State.loseTicket State.releaseTicket State.ticketEnds State.backOff
  rw [h]
  rfl

/-- R85: a test print's ticket lost. -/
theorem State.loseTicket_test (s : State) (p : PrinterId) {f : Ticket} (h : f.owner = none) :
    s.loseTicket p f = s.lose p [f] := by
  have hshifts : s.shifts = Vector.ofFn fun w : Window => { s.shifts[w] with
      reservations := s.shifts[w].reservations - lostReservations [f] w } := vector_ext_get fun w => by
    rw [vecGet_ofFn]
    simp [lostReservations, h]
  have hports : s.ports = Vector.ofFn fun w : Window => s.ports[w].push (lostReports p [f] w) :=
    vector_ext_get fun w => by
      rw [vecGet_ofFn]
      simp [lostReports, h, PortRecord.push_nil]
  have hback : s.backOff p none = s := by
    unfold State.backOff State.modPrinter
    simp only [Option.isSome_none, Bool.false_and, Bool.false_eq_true, if_false, vecSet_self]
  have hbacked (pr : Printer) : pr.backedOff [f] = { pr with test := none } := by
    have hfilter : pr.arbiter.holder.filter (fun x => [f].all (·.owner != some x)) = pr.arbiter.holder := by
      cases pr.arbiter.holder <;> simp [h]
    unfold Printer.backedOff
    rw [hfilter]
    simp [h]
  have hlost (pr : Printer) : pr.lostTest p [f] = match pr.test with
      | some x => [testDone x.tag p (some f) .lost]
      | none => [] := by
    unfold Printer.lostTest
    cases pr.test with
    | none => rfl
    | some x => simp only [List.find?_cons, h, beq_self_eq_true]; rfl
  unfold State.lose State.loseTicket State.releaseTicket State.ticketEnds
  rw [← hshifts, ← hports, hbacked, hlost, h]
  dsimp only
  rw [hback]
  cases ht : s.printers[p].test with
  | none =>
    have hself (pr : Printer) (h : pr.test = none) : { pr with test := none } = pr := by rw [← h]
    rw [hself _ ht, vecSet_self, PortRecord.push_nil, State.withRecords_self]
  | some x => rfl

theorem State.loseTicket_eq (s : State) (p : PrinterId) (f : Ticket) : s.loseTicket p f = s.lose p [f] := by
  cases h : f.owner with
  | none => exact s.loseTicket_test p h
  | some ref => exact s.loseTicket_job p h

theorem State.foldl_loseTicket (l : List Ticket) (s : State) :
    l.foldl (fun s f => s.loseTicket p f) s = s.lose p l := by
  induction l generalizing s with
  | nil => exact (s.lose_nil p).symm
  | cons f l ih => rw [List.foldl_cons, ih, State.loseTicket_eq, State.lose_lose, List.singleton_append]

end Sys2Proof.Machine
end

section
/-! The loss of a link (R25): the tickets lost, the line's memory gone, its checks ended. -/

namespace Sys2Proof.Machine

variable {s : State} {p : PrinterId}

/-- R40: a printer once its tickets are lost. -/
def Printer.emptied (q : Printer) : Printer :=
  { q with
    printing := none, staged := none, printTimer := false
    range := match q.tickets with
      | [] => q.range
      | f :: _ => some { pack := f.pack, first := f.serial, charges := q.tickets.map (·.owner), disputed := false }
    test := if q.tickets.find? (·.owner == none) = none then q.test else none
    arbiter := { q.arbiter with
      holder := q.arbiter.holder.filter fun ref => q.tickets.all (·.owner != some ref) } }

theorem Printer.emptied_eq (q : Printer) : q.moveToRange.backedOff q.tickets = q.emptied := by
  unfold Printer.backedOff Printer.moveToRange Printer.emptied
  cases q.tickets <;> rfl

/-- R25, R35, R40, R85: what is left once the tickets in flight are lost. -/
theorem State.loseTickets_eq (s : State) (p : PrinterId) : s.loseTickets p = s.withRecords
    (Vector.ofFn fun w : Window => { s.shifts[w] with
      reservations := s.shifts[w].reservations - lostReservations (s.printers[p]).tickets w })
    (Vector.ofFn fun w : Window => s.ports[w].push (lostReports p (s.printers[p]).tickets w))
    (s.svPort.push ((s.printers[p]).lostTest p (s.printers[p]).tickets))
    (s.printers.set p (s.printers[p]).emptied) := by
  unfold State.loseTickets
  rw [State.foldl_loseTicket]
  unfold State.lose
  rw [State.modPrinter_get, if_pos rfl, Printer.emptied_eq]
  unfold State.modPrinter
  dsimp only
  have hset : (s.printers.set p (s.printers[p]).moveToRange).set p (s.printers[p]).emptied
      = s.printers.set p (s.printers[p]).emptied := Vector.set_set ..
  rw [hset]
  rfl

/-! ## Checks ended -/

/-- R14: the LOAD DONE LINK_LOST of a load check. -/
def Printer.loadLost (pr : Printer) (p : PrinterId) : List Frame :=
  match pr.loadCheck with
  | some c => [⟨0x89#8, c.tag, be 2 c.pack ++ be 1 p.val ++ be 1 3 ++ absent 3⟩]
  | none => []

/-- R17: the UNLOAD DONE LINK_LOST of an unload check. -/
def Printer.unloadLost (pr : Printer) (p : PrinterId) : List Frame :=
  match pr.unloadCheck with
  | some c => [⟨0x8A#8, c.tag, be 1 p.val ++ be 2 (pr.loaded.getD 0) ++ be 1 4 ++ be 3 0⟩]
  | none => []

/-- The packs without the load check of a printer. -/
def State.uncheckedPacks (s : State) (p : PrinterId) : List Pack :=
  s.packs.map fun k => if s.printers[p].loadCheck.map (·.pack) = some k.id then { k with loadCheck := none } else k

theorem Printer.loadCheck_none {pr : Printer} (h : pr.loadCheck = none) : { pr with loadCheck := none } = pr := by
  rw [← h]

theorem Printer.unloadCheck_none {pr : Printer} (h : pr.unloadCheck = none) :
    { pr with unloadCheck := none } = pr := by
  rw [← h]

/-- R14: the load check of a printer ended by a link loss. -/
def State.endLoad (s : State) (p : PrinterId) : State :=
  match s.printers[p].loadCheck with
  | some c => s.endLoadCheck p c .linkLost
  | none => s

/-- R17: the unload check of a printer ended by a link loss. -/
def State.endUnload (s : State) (p : PrinterId) : State :=
  match s.printers[p].unloadCheck with
  | some c => s.endUnloadCheck p c s.printers[p].loaded .linkLost
  | none => s

theorem State.endChecks_def (s : State) (p : PrinterId) : s.endChecks p = (s.endLoad p).endUnload p := rfl

theorem State.endLoad_eq (s : State) (p : PrinterId) : s.endLoad p = { s with
    packs := s.uncheckedPacks p, printers := s.printers.set p { s.printers[p] with loadCheck := none }
    svPort := s.svPort.push ((s.printers[p]).loadLost p) } := by
  unfold State.endLoad State.uncheckedPacks Printer.loadLost
  cases h : s.printers[p].loadCheck with
  | none =>
    have hp := Printer.loadCheck_none h
    simp only [Option.map_none, reduceCtorEq, if_false, List.map_id', hp, vecSet_self, PortRecord.push_nil]
  | some c =>
    simp only [Option.map_some, Option.some.injEq, @eq_comm _ c.pack]
    rfl

theorem State.endUnload_eq (s : State) (p : PrinterId) : s.endUnload p = { s with
    printers := s.printers.set p { s.printers[p] with unloadCheck := none }
    svPort := s.svPort.push ((s.printers[p]).unloadLost p) } := by
  unfold State.endUnload Printer.unloadLost
  cases h : s.printers[p].unloadCheck with
  | none =>
    have hp := Printer.unloadCheck_none h
    simp only [hp, vecSet_self, PortRecord.push_nil]
  | some c => rfl

theorem State.endChecks_eq (s : State) (p : PrinterId) : s.endChecks p = { s with
    packs := s.uncheckedPacks p
    printers := s.printers.set p { s.printers[p] with loadCheck := none, unloadCheck := none }
    svPort := s.svPort.push ((s.printers[p]).loadLost p ++ (s.printers[p]).unloadLost p) } := by
  have hset (a b : Printer) : (s.printers.set p a).set p b = s.printers.set p b := Vector.set_set ..
  rw [State.endChecks_def, State.endLoad_eq, State.endUnload_eq]
  dsimp only
  rw [vecGet_set, if_pos rfl, PortRecord.push_push, hset]
  rfl

/-- R25: what a link loss leaves. -/
theorem State.linkLoss_eq (s : State) (p : PrinterId) (link : Link) : s.linkLoss p link = { s with
    shifts := Vector.ofFn fun w : Window => { s.shifts[w] with
      reservations := s.shifts[w].reservations - lostReservations (s.printers[p]).tickets w }
    ports := Vector.ofFn fun w : Window => s.ports[w].push (lostReports p (s.printers[p]).tickets w)
    packs := s.uncheckedPacks p
    printers := s.printers.set p
      { (s.printers[p]).emptied.lineLost link with loadCheck := none, unloadCheck := none }
    svPort := s.svPort.push ((s.printers[p]).lostTest p (s.printers[p]).tickets ++ (s.printers[p]).loadLost p
      ++ (s.printers[p]).unloadLost p) } := by
  have hset (a b : Printer) : (s.printers.set p a).set p b = s.printers.set p b := Vector.set_set ..
  unfold State.linkLoss
  rw [State.loseTickets_eq, State.endChecks_eq]
  unfold State.uncheckedPacks State.modPrinter State.withRecords
  dsimp only
  simp only [vecGet_set, if_pos, hset, PortRecord.push_push, List.append_assoc]
  rfl

/-- Settles O38, ticket by ticket and then check by check. -/
theorem ticketAndLinkLoss : Obligations.TicketAndLinkLoss :=
  fun s p link => ⟨s.loseTickets_eq p, s.linkLoss_eq p link⟩

end Sys2Proof.Machine
end

section
/-! The timers of a printer line controller (R14, R17, R35, R41) at each expiry. -/

namespace Sys2Proof.Machine

variable {s : State} {p : PrinterId}

/-- An event that commits: what its step leaves is settled, and its occurrences are told. -/
theorem settled_of_event {a : Answer} {u w : State} {told : List Occurrence} (ha : a = .next (w.commit s told))
    (e : w = u) : ∃ t, a = .next t ∧ State.Settled s u t told ∧ ∀ o ∈ told, t.Told o.source o.kind := by
  subst e
  exact ⟨_, ha, w.commit_settled _ _, fun o ho => w.commit_told ho⟩

/-- An event that raises one occurrence. -/
theorem settled_of_raising {a : Answer} {u w : State} {o : Occurrence} (ha : a = .next (w.commit s [o])) (e : w = u) :
    ∃ t, a = .next t ∧ State.Settled s u t [o] ∧ t.Told o.source o.kind := by
  obtain ⟨t, ht, hset, htold⟩ := settled_of_event ha e
  exact ⟨t, ht, hset, htold o (List.mem_singleton.2 rfl)⟩

/-- TOP REPORT sent after a change to the printer. -/
theorem State.modPrinter_sendLine (f : Printer → Printer) (x : Frame) :
    (s.modPrinter p f).sendLine p x
      = s.modPrinter p fun pr => { f pr with sent := (f pr).sent ++ [x] } := by
  unfold State.sendLine
  rw [State.modPrinter_modPrinter]
  rfl

/-! ## The query timer (R41) -/

theorem execQueryTimer_first (hr : s.phase = .running) (h : s.printers[p].query = some .first) :
    execQueryTimer p s
      = .next ((s.modPrinter p fun pr => { pr with query := some .second }).sendLine p topReport) := by
  unfold execQueryTimer
  rw [h]
  exact event_occurs hr rfl

theorem execQueryTimer_second (hr : s.phase = .running) (h : s.printers[p].query = some .second) :
    execQueryTimer p s = .next
      ((s.modPrinter p fun pr => { pr with query := none, printTimeout := true }).commit s
        [{ source := .printer p, kind := .printTimeout, pack := s.printers[p].range.map (·.pack)
           serial := s.printers[p].range.map (·.first) }]) := by
  unfold execQueryTimer
  rw [h]
  exact event_occurs hr rfl

theorem execQueryTimer_none (h : s.printers[p].query = none) : execQueryTimer p s = .next s := by
  unfold execQueryTimer
  rw [h]
  exact event_passes (.inr rfl)

/-! ## The answer timers (R14, R17) -/

theorem execLoadAnswerTimer_first {c : LoadCheck} (hr : s.phase = .running) (h : s.printers[p].loadCheck = some c)
    (ha : c.attempt = .first) :
    execLoadAnswerTimer p s = .next
      ((s.modPrinter p fun pr => { pr with loadCheck := some { c with attempt := .second } }).sendLine p
        topReport) := by
  unfold execLoadAnswerTimer
  rw [h]
  refine (event_occurs hr rfl).trans ?_
  rw [ha]

theorem execLoadAnswerTimer_second {c : LoadCheck} (hr : s.phase = .running) (h : s.printers[p].loadCheck = some c)
    (ha : c.attempt = .second) :
    execLoadAnswerTimer p s = .next ((s.endLoadCheck p c .noAnswer).commit s [loadMismatch p c none]) := by
  unfold execLoadAnswerTimer
  rw [h]
  refine (event_occurs hr rfl).trans ?_
  rw [ha]

theorem execLoadAnswerTimer_none (h : s.printers[p].loadCheck = none) : execLoadAnswerTimer p s = .next s := by
  unfold execLoadAnswerTimer
  rw [h]
  exact event_passes (.inr rfl)

theorem execUnloadAnswerTimer_first {c : UnloadCheck} (hr : s.phase = .running)
    (h : s.printers[p].unloadCheck = some c) (ha : c.attempt = .first) :
    execUnloadAnswerTimer p s = .next
      ((s.modPrinter p fun pr => { pr with unloadCheck := some { c with attempt := .second } }).sendLine p
        topReport) := by
  unfold execUnloadAnswerTimer
  rw [h]
  refine (event_occurs hr rfl).trans ?_
  rw [ha]

theorem execUnloadAnswerTimer_second {c : UnloadCheck} (hr : s.phase = .running)
    (h : s.printers[p].unloadCheck = some c) (ha : c.attempt = .second) :
    execUnloadAnswerTimer p s = .next ((s.endUnloadCheck p c s.printers[p].loaded .noAnswer).commit s
      [{ source := .printer p, kind := .protocol }]) := by
  unfold execUnloadAnswerTimer
  rw [h]
  refine (event_occurs hr rfl).trans ?_
  rw [ha]

theorem execUnloadAnswerTimer_none (h : s.printers[p].unloadCheck = none) :
    execUnloadAnswerTimer p s = .next s := by
  unfold execUnloadAnswerTimer
  rw [h]
  exact event_passes (.inr rfl)

/-! ## The print timer (R35) -/

/-- R35: a printer once its print timer has expired. -/
def Printer.timedOut (pr : Printer) : Printer :=
  { pr with
    withdrawal := pr.withdrawal && Config.withdrawalOutlivesTimeout, pauseTimer := none
    printTimeout := true }.beginRecovery

theorem execPrintTimer_expires {f : Ticket} (hr : s.phase = .running) (h : s.printers[p].printing = some f)
    (ht : s.printers[p].printTimer = true) :
    execPrintTimer p s = .next (((s.loseTickets p).modPrinter p Printer.timedOut).commit s
      [{ source := .printer p, kind := .printTimeout, pack := some f.pack, serial := some f.serial }]) := by
  unfold execPrintTimer
  rw [h]
  exact event_occurs hr ht

theorem execPrintTimer_stopped (h : s.printers[p].printing = none ∨ s.printers[p].printTimer = false) :
    execPrintTimer p s = .next s := by
  unfold execPrintTimer
  cases hp : s.printers[p].printing with
  | none => exact event_passes (.inr rfl)
  | some f =>
    have ht : s.printers[p].printTimer = false := h.resolve_left (by rw [hp]; exact Option.some_ne_none f)
    exact event_passes (.inr ht)

/-- The printer that has lost its tickets. -/
theorem State.loseTickets_get (s : State) (p : PrinterId) : (s.loseTickets p).printers[p] = (s.printers[p]).emptied := by
  rw [State.loseTickets_eq]
  exact (vecGet_set ..).trans (if_pos rfl)

theorem State.loseTickets_modPrinter (s : State) (p : PrinterId) (f : Printer → Printer) :
    (s.loseTickets p).modPrinter p f
      = { s.loseTickets p with printers := s.printers.set p (f (s.loseTickets p).printers[p]) } := by
  have hset (a b : Printer) : (s.printers.set p a).set p b = s.printers.set p b := Vector.set_set ..
  unfold State.modPrinter
  congr 1
  rw [State.loseTickets_eq]
  exact hset ..

/-- Settles O56, timer by timer. -/
theorem printerTimers : Obligations.PrinterTimers := by
  intro s p hr
  refine ⟨fun h => ?_, fun h => ?_, fun c h => ⟨fun ha => ?_, fun ha => ?_⟩, fun c h => ⟨fun ha => ?_, fun ha => ?_⟩,
    fun f h ht => ?_, execQueryTimer_none, execLoadAnswerTimer_none, execUnloadAnswerTimer_none,
    execPrintTimer_stopped⟩
  · exact (execQueryTimer_first hr h).trans (by rw [State.modPrinter_sendLine]; rfl)
  · exact settled_of_raising (execQueryTimer_second hr h) rfl
  · exact (execLoadAnswerTimer_first hr h ha).trans (by rw [State.modPrinter_sendLine]; rfl)
  · exact settled_of_raising (execLoadAnswerTimer_second hr h ha) rfl
  · exact (execUnloadAnswerTimer_first hr h ha).trans (by rw [State.modPrinter_sendLine]; rfl)
  · exact settled_of_raising (execUnloadAnswerTimer_second hr h ha) rfl
  · refine settled_of_raising (execPrintTimer_expires hr h ht) ((s.loseTickets_modPrinter p _).trans ?_)
    rw [State.loseTickets_get]
    rfl

end Sys2Proof.Machine
end

section
/-! TOP, the answer to TOP REPORT, during a load check, an unload check and a recovery (R14, R16, R42). -/

namespace Sys2Proof.Machine

variable {s : State} {p : PrinterId} {k : Pack}

theorem topOf_eq (k : Pack) (n : Nat) : topOf k n = if n = 0xFFFFFF then k.last + 1 else n := by
  unfold topOf serialRead
  rw [show Config.noSerial = 0xFFFFFF from rfl]
  split <;> rfl

/-- A TOP on a printer line, its body well formed. -/
theorem execTop_takes {tag : Tag} {n : Nat} {u : State} (h : s.HearsPrinter p) (hn : n < 2 ^ 24)
    (hu : s.takeTop p n = some u) : execTop p tag (be 3 n) s = .next u := by
  have hd : s.decodes p = true := by
    unfold State.decodes State.running
    rw [h.1, h.2]
    rfl
  refine printerFrame_takes hd (by simp) ?_
  rw [num_be_only (by omega)]
  exact hu

/-! ## The operation that a TOP answers -/

theorem State.takeTop_load {n : Nat} {c : LoadCheck} (hc : s.printers[p].loadCheck = some c)
    (hk : s.pack? c.pack = some k) : s.takeTop p n = some (s.topLoad p c k (topOf k n)) := by
  unfold State.takeTop
  simp only [hc, hk, Option.map_some]

theorem State.takeTop_unload {n : Nat} {c : UnloadCheck} (hl : s.printers[p].loadCheck = none)
    (hc : s.printers[p].unloadCheck = some c) (hk : s.loadedPack p = some k) :
    s.takeTop p n = some (s.topUnload p c k (topOf k n)) := by
  unfold State.takeTop
  simp only [hl, hc, hk, Option.map_some]

theorem State.takeTop_recover {n : Nat} {g : Range} (hl : s.printers[p].loadCheck = none)
    (hu : s.printers[p].unloadCheck = none) (hq : s.printers[p].query ≠ none) (hg : s.printers[p].range = some g)
    (hk : s.pack? g.pack = some k) : s.takeTop p n = some (s.topRecover p g (topOf k n)) := by
  unfold State.takeTop
  simp only [hl, hu, Option.isSome_iff_ne_none.2 hq, hg, hk, if_true, Option.bind_some, Option.map_some]

/-! ## A pack loaded (R14, R29) -/

/-- R29: the capability of a printer leaves out a stock type. -/
def Printer.lacks (q : Printer) (stock : StockType) : Bool :=
  q.capability.any fun c => !c.types.getLsbD stock.val

theorem State.mismatches_eq (h : s.loadedPack p = some k) : s.mismatches p = (s.printers[p]).lacks k.stock := by
  unfold State.mismatches
  rw [h]
  rfl

theorem State.pack?_modPack {id : Nat} {f : Pack → Pack} (hf : ∀ x, (f x).id = x.id) (h : s.pack? id = some k) :
    (s.modPack id f).pack? id = some (f k) := by
  have hid := (State.pack?_mem h).2
  unfold State.pack? State.modPack
  dsimp only
  rw [List.find?_map]
  have hcomp : ((fun x : Pack => x.id == id) ∘ fun x => if x.id = id then f x else x) = fun x => x.id == id := by
    funext x
    dsimp only [Function.comp]
    split <;> simp [hf]
  rw [hcomp, show s.packs.find? (fun x => x.id == id) = some k from h, Option.map_some, if_pos hid]

theorem State.loadedPack_modPack {id : Nat} {f : Pack → Pack} (hf : ∀ x, (f x).id = x.id)
    (h : s.pack? id = some k) (hl : s.printers[p].loaded = some id) :
    (s.modPack id f).loadedPack p = some (f k) := by
  unfold State.loadedPack
  rw [State.modPack_printers, hl]
  exact State.pack?_modPack hf h

theorem State.compareCapability_eq (h : s.loadedPack p = some k)
    (hst : (s.printers[p]).lacks k.stock = true → s.printers[p].staged = none) :
    s.compareCapability p = s.modPrinter p fun pr => { pr with mismatch := (s.printers[p]).lacks k.stock } := by
  have hput {f g : Printer → Printer} (h : f s.printers[p] = g s.printers[p]) :
      s.modPrinter p f = s.modPrinter p g := by
    unfold State.modPrinter
    rw [h]
  unfold State.compareCapability
  rw [State.mismatches_eq h]
  cases hl : (s.printers[p]).lacks k.stock with
  | false => rfl
  | true =>
    refine hput ?_
    rw [if_pos rfl, Printer.askWithdrawal]
    dsimp only
    rw [hst hl]

/-- R14: the pack loaded and the load check ended, before LOAD DONE goes. -/
def State.loadedUp (s : State) (p : PrinterId) (id : Nat) (mismatch : Bool) : State :=
  { s with
    packs := s.packs.map fun y => if y.id = id then { y with location := .loaded p, loadCheck := none } else y
    printers := s.printers.set p { s.printers[p] with
      loaded := some id, loadCheck := none, mismatch := mismatch } }

theorem State.load_eq {c : LoadCheck} (hk : s.pack? c.pack = some k)
    (hst : (s.printers[p]).lacks k.stock = true → s.printers[p].staged = none) :
    (s.load p c).endLoadCheck p c .loaded
      = (s.loadedUp p c.pack ((s.printers[p]).lacks k.stock)).send .supervisor [loadDone c p .loaded] := by
  have hput (x : State) (q : Printer) : ({ x with printers := x.printers.set p q } : State).printers[p] = q :=
    (vecGet_set ..).trans (if_pos rfl)
  have hq : ((s.modPack c.pack fun x => { x with location := .loaded p }).modPrinter p
      fun pr => { pr with loaded := some c.pack }).printers[p] = { s.printers[p] with loaded := some c.pack } :=
    hput ..
  have hloaded := State.loadedPack_modPack (s := s.modPrinter p fun pr => { pr with loaded := some c.pack })
    (f := fun x => { x with location := .loaded p }) (p := p) (fun _ => rfl) hk (congrArg Printer.loaded (hput ..))
  unfold State.load
  rw [State.compareCapability_eq (State.modPrinter_modPack .. ▸ hloaded) (by rw [hq]; exact hst), hq,
    State.modPrinter_modPrinter]
  unfold State.endLoadCheck
  rw [State.modPrinter_modPack, State.modPack_modPack _ _ (by exact fun _ => rfl), State.modPrinter_modPrinter]
  rfl

/-- R29: a pack loaded whose type the capability leaves out is reported. -/
theorem State.loadedUp_mismatchReport {id : Nat} {frames : List Frame} {m : Bool} (hk : s.pack? id = some k) :
    ((s.loadedUp p id m).send .supervisor frames).mismatchReport p
      = if (s.printers[p]).lacks k.stock then [{ source := .printer p, kind := .protocol, pack := some id }] else [] := by
  have hq : (s.loadedUp p id m).printers[p]
      = { s.printers[p] with loaded := some id, loadCheck := none, mismatch := m } :=
    (vecGet_set ..).trans (if_pos rfl)
  have hpack : (s.loadedUp p id m).pack? id = some { k with location := .loaded p, loadCheck := none } :=
    State.pack?_modPack (f := fun x => { x with location := .loaded p, loadCheck := none }) (fun _ => rfl) hk
  have hl : ((s.loadedUp p id m).send .supervisor frames).loadedPack p
      = some { k with location := .loaded p, loadCheck := none } := by
    show ((s.loadedUp p id m).printers[p]).loaded.bind (s.loadedUp p id m).pack? = _
    rw [hq]
    exact hpack
  have hsent : ((s.loadedUp p id m).send .supervisor frames).printers[p]
      = { s.printers[p] with loaded := some id, loadCheck := none, mismatch := m } := hq
  unfold State.mismatchReport
  rw [State.mismatches_eq hl, hsent]
  rfl

/-- R14: the next serial loads the pack. -/
theorem State.topLoad_next {c : LoadCheck} (hk : s.pack? c.pack = some k)
    (hst : (s.printers[p]).lacks k.stock = true → s.printers[p].staged = none) :
    s.topLoad p c k k.next
      = ((s.loadedUp p c.pack ((s.printers[p]).lacks k.stock)).send .supervisor [loadDone c p .loaded]).commit s
          (if (s.printers[p]).lacks k.stock then [{ source := .printer p, kind := .protocol, pack := some c.pack }]
           else []) := by
  unfold State.topLoad
  rw [if_pos rfl, State.load_eq hk hst]
  dsimp only
  rw [State.loadedUp_mismatchReport hk]

theorem State.topLoad_other {c : LoadCheck} {top : Nat} (h : top ≠ k.next) :
    s.topLoad p c k top = (s.endLoadCheck p c (.mismatch top)).commit s [loadMismatch p c (some top)] :=
  if_neg h

/-! ## A pack unloaded (R16) -/

/-- R16: a printer whose unload check has ended without its pack. -/
def Printer.unloaded (q : Printer) : Printer :=
  { q with unloadCheck := none, loaded := none, stockHold := false, mismatch := false }

theorem State.emptyPrinter_endUnloadCheck (c : UnloadCheck) (pack : Option Nat) (o : UnloadOutcome) :
    (s.emptyPrinter p).endUnloadCheck p c pack o
      = (s.modPrinter p Printer.unloaded).send .supervisor [unloadDone c.tag p pack o] := by
  unfold State.emptyPrinter State.endUnloadCheck
  rw [State.modPrinter_modPrinter]
  rfl

/-- R16: a clean unload, an unload with blanks missing, and one in dispute. -/
theorem State.topUnload_clean (c : UnloadCheck) :
    s.topUnload p c k k.next = (((s.makeSafe k.id).modPrinter p Printer.unloaded).send .supervisor
      [unloadDone c.tag p (some k.id) .clean]).commit s [] := by
  unfold State.topUnload
  rw [if_pos rfl, State.emptyPrinter_endUnloadCheck]

theorem State.topUnload_missing {top : Nat} (c : UnloadCheck) (h : k.next < top) (h' : top ≤ k.last + 1) :
    s.topUnload p c k top = ((((s.writeRun k.id k.next (top - k.next) .missing (some p) none).makeSafe
      k.id).modPrinter p Printer.unloaded).send .supervisor
        [unloadDone c.tag p (some k.id) (.missing (top - k.next))]).commit s
      [{ source := .printer p, kind := .missingBlanks, pack := some k.id, serial := some k.next }] := by
  unfold State.topUnload
  rw [if_neg (by omega), if_pos ⟨h, h'⟩, State.emptyPrinter_endUnloadCheck]

theorem State.topUnload_dispute {top : Nat} (c : UnloadCheck) (hle : k.next ≤ k.last + 1)
    (h : top < k.next ∨ k.last + 1 < top) :
    s.topUnload p c k top
      = (((s.modPack k.id fun k => { k with location := .compromised, compromisedAt := some p }).modPrinter p
          Printer.unloaded).send .supervisor [unloadDone c.tag p (some k.id) (.dispute top)]).commit s
        [{ source := .printer p, kind := .serialDispute }] := by
  unfold State.topUnload
  rw [if_neg (by omega), if_neg (by omega), State.emptyPrinter_endUnloadCheck]

/-! ## A range settled (R42) -/

/-- R18, R42: the serials of a range below a top serial spoiled, in one run where they are charged alike and
otherwise one for each. -/
def State.spoilBelow (s : State) (p : PrinterId) (g : Range) (top : Nat) : State :=
  if top = g.first + 2 ∧ g.charges[0]? ≠ g.charges[1]? then
    (s.writeRun g.pack g.first 1 .linkLost (some p) (g.charges[0]?).join).writeRun g.pack (g.first + 1) 1
      .linkLost (some p) (g.charges[1]?).join
  else if g.first < top then
    s.writeRun g.pack g.first (top - g.first) .linkLost (some p) (g.charges[0]?).join
  else s

theorem State.spoilRange_take {g : Range} {top : Nat} (hlen : g.charges.length = 1 ∨ g.charges.length = 2)
    (h : g.first ≤ top) (h' : top ≤ g.first + g.charges.length) :
    s.spoilRange p g.pack g.first (g.charges.take (top - g.first)) = s.spoilBelow p g top := by
  obtain ⟨n, rfl⟩ : ∃ n, top = g.first + n := ⟨top - g.first, by omega⟩
  rw [Nat.add_sub_cancel_left]
  obtain ⟨pack, first, charges, disputed⟩ := g
  unfold State.spoilRange State.spoilBelow
  dsimp only at hlen h' ⊢
  obtain hlen | hlen := hlen
  · obtain ⟨a, rfl⟩ := List.length_eq_one_iff.1 hlen
    obtain rfl | rfl : n = 0 ∨ n = 1 := by omega
    · simp [runsOf]
    · simp [runsOf_one]
  · obtain ⟨a, b, rfl⟩ := List.length_eq_two.1 hlen
    obtain rfl | rfl | rfl : n = 0 ∨ n = 1 ∨ n = 2 := by omega
    · simp [runsOf]
    · simp [runsOf_one]
    · by_cases hab : a = b <;> simp [runsOf_two, hab]

theorem State.spoilBelow_printers (g : Range) (top : Nat) : (s.spoilBelow p g top).printers = s.printers := by
  unfold State.spoilBelow
  split
  · rw [State.writeRun_printers, State.writeRun_printers]
  · split
    · rw [State.writeRun_printers]
    · rfl

/-- R7, R42: a top serial in the range spoils the serials below it and returns the rest. -/
theorem State.settleRange_eq {g : Range} {top : Nat} (hlen : g.charges.length = 1 ∨ g.charges.length = 2)
    (h : g.first ≤ top) (h' : top ≤ g.first + g.charges.length) :
    s.settleRange p g top = { s.spoilBelow p g top with
      packs := (s.spoilBelow p g top).packs.map fun y => if y.id = g.pack then { y with next := top } else y
      printers := s.printers.set p { s.printers[p] with range := none, query := none, printTimeout := false } } := by
  unfold State.settleRange
  rw [State.spoilRange_take hlen h h']
  have hp := s.spoilBelow_printers (p := p) g top
  generalize s.spoilBelow p g top = x at hp ⊢
  rw [← hp]
  rfl

theorem State.topRecover_within {g : Range} {top : Nat} (h : g.first ≤ top) (h' : top ≤ g.first + g.charges.length) :
    s.topRecover p g top = (s.settleRange p g top).commit s (if g.first < top then
      [{ source := .printer p, kind := .recoverySpoil, pack := some g.pack, serial := some g.first }] else []) :=
  if_pos ⟨h, h'⟩

theorem State.topRecover_dispute {g : Range} {top : Nat} (h : top < g.first ∨ g.first + g.charges.length < top) :
    s.topRecover p g top = (s.modPrinter p fun pr =>
      { pr with range := some { g with disputed := true }, stockHold := true, query := none }).commit s
      [{ source := .printer p, kind := .serialDispute }] :=
  if_neg (by omega)

theorem Printer.lacks_eq_false {q : Printer} {stock : StockType}
    (h : ∀ c ∈ q.capability, c.types.getLsbD stock.val = true) : q.lacks stock = false := by
  unfold Printer.lacks
  cases hc : q.capability with
  | none => rfl
  | some c => simp [h c hc]

theorem Printer.lacks_eq_true {q : Printer} {stock : StockType} {c : Capability} (hc : c ∈ q.capability)
    (h : c.types.getLsbD stock.val = false) : q.lacks stock = true := by
  unfold Printer.lacks
  rw [Option.mem_def.1 hc, Option.any_some, h]
  rfl

/-- Settles O53, by the operation that the TOP answers and its top serial. -/
theorem topAnswers : Obligations.TopAnswers := by
  intro s p tag n k h hn hk hle q top
  have htop : topOf k n = top := topOf_eq k n
  refine ⟨fun x hx hid => ?_, fun x hl hx hloaded => ?_, fun g hl hu hq hg hid hlen => ?_⟩
  · obtain ⟨pack, xtag, attempt⟩ := x
    obtain rfl : pack = k.id := hid
    have step := execTop_takes (tag := tag) h hn (State.takeTop_load hx hk)
    rw [htop] at step
    refine ⟨fun he hcap => ?_, fun he hst c hc hlack => ?_, fun hne => ?_⟩
    · have hl := Printer.lacks_eq_false hcap
      rw [he, State.topLoad_next hk (by rw [hl]; exact fun h => nomatch h), hl] at step
      exact settled_of_event step rfl
    · have hl := Printer.lacks_eq_true hc hlack
      rw [he, State.topLoad_next hk (fun _ => hst), hl] at step
      exact settled_of_event step rfl
    · rw [State.topLoad_other hne] at step
      exact settled_of_event step rfl
  · have step := execTop_takes (tag := tag) h hn
      (State.takeTop_unload hl hx (show s.loadedPack p = some k by rw [State.loadedPack, hloaded]; exact hk))
    rw [htop] at step
    refine ⟨fun he => ?_, fun hlt hgt => ?_, fun hout => ?_⟩
    · rw [he, State.topUnload_clean] at step
      exact settled_of_event step rfl
    · rw [State.topUnload_missing x hlt hgt] at step
      exact settled_of_event step rfl
    · rw [State.topUnload_dispute x hle hout] at step
      exact settled_of_event step rfl
  · have step := execTop_takes (tag := tag) h hn (State.takeTop_recover hl hu hq hg (hid ▸ hk))
    rw [htop] at step
    refine ⟨fun hge hgt => ?_, fun hout => ?_⟩
    · rw [State.topRecover_within hge hgt, hid] at step
      refine settled_of_event step ((State.settleRange_eq hlen hge hgt).trans ?_)
      unfold State.spoilBelow
      rw [hid]
    · rw [State.topRecover_dispute hout] at step
      exact settled_of_event step rfl

end Sys2Proof.Machine
end

section
/-! GRANT (R5, R33, R51 to R55, R58, R70): the jobs it ends, and what it sends. -/

namespace Sys2Proof.Machine

variable {s : State} {p : PrinterId} {k : Pack}

/-! ## RECORD_FULL (R58) -/

theorem Job.toEnding_eq (j : Job) (e : Ending) : j.toEnding e =
    if j.state = .queued ∨ j.state = .active then
      { j with state := .ending e, current := none, jobWait := none, routeWait := none }
    else j := by
  unfold Job.toEnding
  cases h : j.state with
  | queued => rw [if_pos (.inl rfl)]
  | active => rw [if_pos (.inr rfl)]
  | ending o => rw [if_neg (by simp)]

theorem State.endRecordFull_jobs (s : State) (p : PrinterId) : (s.endRecordFull p).jobs = s.jobs.map fun j =>
    if s.recordFull p j = true ∧ (j.state = .queued ∨ j.state = .active) then
      { j with state := .ending .recordFull, current := none, jobWait := none, routeWait := none }
    else j := by
  refine List.map_congr_left fun j _ => ?_
  rw [Job.toEnding_eq, ite_and]

/-! ## Sending -/

/-- R33, R55, R70: a printer once a ticket of its loaded pack is placed and PRINT sent, its test print and its
arbiter given. -/
def Printer.placed (q : Printer) (f : Ticket) (stock : StockType) (fields : List (List Byte))
    (test : Option TestPrint) (arbiter : Arbiter) : Printer :=
  let staged := decide (q.printing ≠ none)
  { q with
    printing := if staged then q.printing else some f
    staged := if staged then some f else q.staged
    printTimer := q.printTimer || !staged
    sent := q.sent ++ [⟨0x40#8, if staged then 2#8 else 1#8,
      be 2 f.pack ++ be 1 stock.val ++ be 3 f.serial ++ be 1 fields.length ++ fieldBytes fields⟩]
    lamp := q.lamp.pulsed, test := test, arbiter := arbiter }

theorem Printer.place_eq (q : Printer) (f : Ticket) (stock : StockType) (fields : List (List Byte)) :
    q.place f stock fields = q.placed f stock fields q.test q.arbiter := by
  unfold Printer.place Printer.placed
  cases h : q.printing with
  | none => simp [printFrame, slotTag, Out.print]
  | some g => simp [printFrame, slotTag, Out.print]

/-- R5: the packs once the next serial of a pack is assigned. -/
def State.assignedPacks (s : State) (k : Pack) : List Pack :=
  s.packs.map fun x => if x.id = k.id then { x with next := x.next + 1 } else x

/-- R58: a job's ticket sent, the arbiter given. -/
def State.sentJob (s : State) (p : PrinterId) (k : Pack) (j : Job) (arbiter : Arbiter) : State :=
  let reserves := (s.ticketClass p j).reserves
  { s with
    packs := s.assignedPacks k
    printers := s.printers.set p ((s.printers[p]).placed
      { owner := some j.ref, pack := k.id, serial := k.next, reserved := reserves } k.stock j.fields
      (s.printers[p]).test arbiter)
    shifts := s.shifts.set j.ref.window { s.shifts[j.ref.window] with
      reservations := s.shifts[j.ref.window].reservations + (if reserves then 1 else 0) }
    jobs := s.jobs.map fun i => if i.ref = j.ref then
      { i with state := .active, current := some p, jobWait := none, routeWait := none } else i }

theorem State.modJob_modPrinter (ref : JobRef) (f : Job → Job) (g : Printer → Printer) :
    (s.modJob ref f).modPrinter p g = (s.modPrinter p g).modJob ref f := rfl

theorem State.sendJob_arbiter (j : Job) (f : Arbiter → Arbiter) :
    (s.sendJob p k j).modPrinter p (fun pr => { pr with arbiter := f pr.arbiter })
      = s.sentJob p k j (f (s.printers[p]).arbiter) := by
  unfold State.sendJob
  dsimp only
  rw [State.modJob_modPrinter, State.modPrinter_modPrinter]
  simp only [Function.comp_def, Printer.place_eq]
  rfl

theorem State.sendTest_arbiter (x : TestPrint) :
    (s.sendTest p k x).modPrinter p (fun pr => { pr with arbiter := pr.arbiter }) = { s with
      packs := s.assignedPacks k
      printers := s.printers.set p ((s.printers[p]).placed
        { owner := none, pack := k.id, serial := k.next, reserved := false } k.stock x.fields
        (some { x with sent := true }) (s.printers[p]).arbiter) } := by
  unfold State.sendTest
  dsimp only
  rw [State.modPrinter_modPrinter]
  simp only [Function.comp_def, Printer.place_eq]
  rfl

theorem State.modPrinter_id (s : State) (p : PrinterId) : s.modPrinter p (fun pr => pr) = s := by
  unfold State.modPrinter
  rw [vecSet_self]

/-! ## What the arbiter grants -/

theorem State.grantOne_nothing (h : s.choose p = .nothing) : s.grantOne p k = s := by
  unfold State.grantOne
  rw [h]
  exact s.modPrinter_id p

theorem State.grantOne_test {x : TestPrint} (h : s.choose p = .test x) : s.grantOne p k = { s with
    packs := s.assignedPacks k
    printers := s.printers.set p ((s.printers[p]).placed
      { owner := none, pack := k.id, serial := k.next, reserved := false } k.stock x.fields
      (some { x with sent := true }) (s.printers[p]).arbiter) } := by
  unfold State.grantOne
  rw [h]
  exact State.sendTest_arbiter x

theorem State.grantOne_holder {j : Job} (h : s.choose p = .holder j) : s.grantOne p k
    = s.sentJob p k j { (s.printers[p]).arbiter with burst := (s.printers[p]).arbiter.burst + 1 } := by
  unfold State.grantOne
  rw [h]
  exact State.sendJob_arbiter j fun a => a.granted (.holder j)

theorem State.grantOne_burst {j : Job} (h : s.choose p = .burst j) : s.grantOne p k
    = s.sentJob p k j { rotation := j.ref.window, holder := some j.ref, burst := 1 } := by
  unfold State.grantOne
  rw [h]
  exact State.sendJob_arbiter j fun a => a.granted (.burst j)

theorem execGrant_grants (hr : s.phase = .running) (hc : s.canTake p = true) (hk : s.loadedPack p = some k) :
    execGrant p s = .next (((s.endRecordFull p).grantOne p k).commit s []) := by
  refine (event_occurs hr hc).trans ?_
  rw [hk]

/-- Settles O57, by what the arbiter chooses. -/
theorem grant : Obligations.Grant := by
  intro s p k hr hc hk
  have settled {u : State} (e : (s.endRecordFull p).grantOne p k = u) :
      State.Settled s u (((s.endRecordFull p).grantOne p k).commit s []) [] :=
    e ▸ State.commit_settled ..
  refine ⟨s.endRecordFull_jobs p, rfl, _, execGrant_grants hr hc hk, fun h => settled (State.grantOne_nothing h),
    fun x h => settled (State.grantOne_test h), fun j h => settled (State.grantOne_holder h),
    fun j h => settled (State.grantOne_burst h)⟩

end Sys2Proof.Machine
end

section
/-!
How a command is refused or answered: its checks taken in their order against the checks that its rule makes,
and the answer that a command with none failing sends.
-/

namespace Sys2Proof.Machine

variable {s t u v : State}

/-! ## Checks in their order -/

/-- `r` is refused with the code of the first check of the list that fails, and otherwise has a value with `P`. -/
def Checked {α : Type} (r : Except Code α) (P : α → Prop) : List (Bool × Code) → Prop
  | [] => ∃ a, r = .ok a ∧ P a
  | (b, c) :: rest => (b = false → r = .error c) ∧ (b = true → Checked r P rest)

section
variable {α β : Type} {r : Except Code α} {P : α → Prop} {Q : β → Prop} {c : Code} {b b' b'' : Bool}
  {l rest : List (Bool × Code)}

theorem firstFailing_cons : firstFailing ((b, c) :: rest) = if b then firstFailing rest else some c := by
  cases b <;> rfl

theorem Checked.refused (h : Checked r P l) (hf : firstFailing l = some c) : r = .error c := by
  induction l with
  | nil => cases hf
  | cons x l ih =>
    obtain ⟨b, d⟩ := x
    rw [firstFailing_cons] at hf
    cases b with
    | false =>
      obtain rfl : d = c := Option.some.inj hf
      exact h.1 rfl
    | true => exact ih (h.2 rfl) hf

theorem Checked.taken (h : Checked r P l) (hf : firstFailing l = none) : ∃ a, r = .ok a ∧ P a := by
  induction l with
  | nil => exact h
  | cons x l ih =>
    obtain ⟨b, d⟩ := x
    rw [firstFailing_cons] at hf
    cases b with
    | false => cases hf
    | true => exact ih (h.2 rfl) hf

theorem Checked.pure {a : α} (h : P a) : Checked (pure a) P [] := ⟨a, rfl, h⟩

theorem Checked.needs {k : Unit → Except Code α} (e : b' = b) (h : b = true → Checked (k ()) P rest) :
    Checked (need b c >>= k) P ((b', c) :: rest) := by
  subst e
  refine ⟨need_fails, fun hb => ?_⟩
  rw [need_bind hb]
  exact h hb

theorem Checked.wants {o : Option β} {k : β → Except Code α} (e : b' = o.isSome)
    (h : ∀ a, o = some a → Checked (k a) P rest) : Checked (want o c >>= k) P ((b', c) :: rest) := by
  subst e
  cases o with
  | none => exact ⟨fun _ => rfl, fun hb => absurd hb (by simp)⟩
  | some a => exact ⟨fun hb => absurd hb (by simp), fun _ => h a rfl⟩

/-- Two checks with one code are one check. -/
theorem Checked.both (e : b = (b' && b'')) (h : Checked r P ((b', c) :: (b'', c) :: rest)) :
    Checked r P ((b, c) :: rest) := by
  subst e
  obtain ⟨hb', h⟩ := h
  refine ⟨fun hb => ?_, fun hb => (h (Bool.and_elim_left hb)).2 (Bool.and_elim_right hb)⟩
  cases b' with
  | false => exact hb' rfl
  | true => exact (h rfl).1 hb

/-- A check that holds whatever the command does. -/
theorem Checked.skip (hb : b = true) (h : Checked r P rest) : Checked r P ((b, c) :: rest) :=
  ⟨fun hf => absurd (hb.symm.trans hf) (by simp), fun _ => h⟩

/-- A value read and checked under one code. -/
theorem Checked.wantsAny {o : Option β} {f : β → Bool} {k : β → Unit → Except Code α} (e : b = o.any f)
    (h : ∀ a, o = some a → f a = true → Checked (k a ()) P rest) :
    Checked (want o c >>= fun a => need (f a) c >>= k a) P ((b, c) :: rest) := by
  subst e
  cases o with
  | none => exact ⟨fun _ => rfl, fun hb => absurd hb (by simp)⟩
  | some a => exact .needs rfl fun hf => h a rfl hf

theorem Checked.bind {k : α → Except Code β} (h : Checked r P l) (hk : ∀ a, P a → Checked (k a) Q rest) :
    Checked (r >>= k) Q (l ++ rest) := by
  induction l with
  | nil =>
    obtain ⟨a, rfl, ha⟩ := h
    exact hk a ha
  | cons x l ih =>
    obtain ⟨b, d⟩ := x
    exact ⟨fun hb => by rw [h.1 hb]; rfl, fun hb => ih (h.2 hb)⟩

/-- A value read through another under one code. -/
theorem Checked.wantsBind {γ : Type} {o : Option β} {g : β → Option γ} {k : β → γ → Except Code α}
    (e : b = (o.bind g).isSome) (h : ∀ a x, o = some a → g a = some x → Checked (k a x) P rest) :
    Checked (want o c >>= fun a => want (g a) c >>= k a) P ((b, c) :: rest) := by
  subst e
  cases o with
  | none => exact ⟨fun _ => rfl, fun hb => absurd hb (by simp)⟩
  | some a =>
    show Checked (want (g a) c >>= k a) P (((g a).isSome, c) :: rest)
    exact .wants rfl fun x hx => h a x rfl hx

/-- All the checks of a command are those of a part of it. -/
theorem Checked.bindAll {k : α → Except Code β} (h : Checked r P l) (hk : ∀ a, P a → Checked (k a) Q []) :
    Checked (r >>= k) Q l :=
  List.append_nil l ▸ h.bind hk

end

/-! ## Answers -/

/-- A command is answered with its tag, not by REFUSED, and nothing is sent to its port before. -/
def State.Answers (s : State) (port : Port) (tag : Tag) (t : State) : Prop :=
  ∃ (answer : Frame) (more : List Frame), (t.port port).tx = (s.port port).tx ++ answer :: more
    ∧ answer.tag = tag ∧ answer.kind ≠ 0x81#8

theorem State.answers_send {port : Port} {f : Frame} (ha : (s.port port).attached = true)
    (e : t.port port = s.port port) (hk : f.kind ≠ 0x81#8) : s.Answers port f.tag (t.send port [f]) := by
  refine ⟨f, [], ?_, rfl, hk⟩
  unfold State.send
  rw [State.modPort_port, e]
  exact congrArg PortRecord.tx (if_pos ha)

/-- ACCEPTED, sent from a state whose port is as it was. -/
theorem State.answers_accept {port : Port} {kind : Byte} {tag : Tag} {fields : List Byte}
    (ha : (s.port port).attached = true) (e : t.port port = s.port port) :
    s.Answers port tag (t.accept port kind tag fields) :=
  State.answers_send (f := acceptedFrame kind tag fields) ha e (by simp [acceptedFrame, Out.accepted])

/-- A reply in place of ACCEPTED. -/
theorem State.answers_reply {port : Port} {kind : Byte} {tag : Tag} {fields : List Byte}
    (ha : (s.port port).attached = true) (e : t.port port = s.port port) (hk : kind ≠ 0x81#8) :
    s.Answers port tag (t.reply port kind tag fields) :=
  State.answers_send (f := ⟨kind, tag, fields⟩) ha e hk

theorem State.Answers.grows {port : Port} {tag : Tag} (h : s.Answers port tag t)
    (g : (t.port port).Grows (u.port port)) : s.Answers port tag u := by
  obtain ⟨answer, more, htx, htag, hkind⟩ := h
  obtain ⟨rest, hrest⟩ := g
  exact ⟨answer, more ++ rest, by rw [hrest, htx]; simp, htag, hkind⟩

theorem State.Answers.commit {port : Port} {tag : Tag} (h : s.Answers port tag t) (before : State)
    (told : List Occurrence) : s.Answers port tag (t.commit before told) :=
  h.grows (t.portsGrow_commit before told port)

/-! ## Commands -/

/-- What the checks of section 9.5 leave of a frame: it reaches a command that decodes it. -/
structure State.Takes (s : State) (f : FrameRow) : Prop where
  hears : s.Hears f.port
  side : f.port = .supervisor ↔ f.supervisor = true
  least : f.lo ≤ f.body.length
  most : f.body.length ≤ f.hi

/-- A command is refused with the code of its first failing check, and otherwise answered. -/
def State.Refuses (s : State) (c : Instr) (f : FrameRow) : Prop :=
  (∀ code : Code, firstFailing (s.checks c) = some code →
      exec c s = .next (s.answered f.port (refusedFrame code f.kind f.tag)))
    ∧ (firstFailing (s.checks c) = none →
        ∃ (t : State) (answer : Frame) (more : List Frame), exec c s = .next t
          ∧ (t.port f.port).tx = (s.port f.port).tx ++ answer :: more
          ∧ answer.tag = f.tag ∧ answer.kind ≠ 0x81#8)

/-- A command's checks read no port. -/
theorem State.checks_sound (s : State) (port : Port) (c : Instr) : (s.sound port).checks c = s.checks c := by
  cases port <;> cases c <;> rfl

/-- What the checks of a command say of what it answers. -/
theorem State.refuses_of_checked {c : Instr} {f : FrameRow} {r : Except Code State} (h : s.Takes f)
    (e : exec c s = .next ((s.sound f.port).answer f.port f.kind f.tag r))
    (hc : Checked r ((s.sound f.port).Answers f.port f.tag) ((s.sound f.port).checks c)) : s.Refuses c f := by
  rw [State.checks_sound] at hc
  refine ⟨fun code hf => ?_, fun hf => ?_⟩
  · rw [e, hc.refused hf, State.answer_error h.hears.listens]
  · obtain ⟨t, rfl, answer, more, htx, hrest⟩ := hc.taken hf
    refine ⟨t, answer, more, e, ?_, hrest⟩
    rw [htx]
    unfold State.sound
    rw [State.modPort_port]

/-- A window command keeps its checks where its rule makes them in their order. -/
theorem windowCommand_refuses {c : Instr} {kind : Byte} {lo hi : Nat} {port : Port} {tag : Tag} {body : List Byte}
    {act : Window → State → Except Code State} (e : exec c s = windowCommand kind lo hi port tag body s act)
    (h : s.Takes ⟨port, kind, tag, body, false, lo, hi⟩)
    (hact : ∀ (w : Window) (u : State), port = .window w → (u.port (.window w)).attached = true →
      Checked (act w u) (u.Answers (.window w) tag) (u.checks c)) :
    s.Refuses c ⟨port, kind, tag, body, false, lo, hi⟩ := by
  cases port with
  | supervisor => exact absurd (h.side.1 rfl) Bool.false_ne_true
  | window w =>
    have hfits : fits lo hi body = true := by simp [fits, h.least, h.most]
    refine State.refuses_of_checked h (e.trans (windowCommand_takes h.hears.listens hfits)) (hact w _ rfl ?_)
    unfold State.sound
    rw [State.modPort_port]
    exact h.hears.2

theorem supervisorCommand_refuses {c : Instr} {kind : Byte} {lo hi : Nat} {port : Port} {tag : Tag}
    {body : List Byte} {act : State → Except Code State}
    (e : exec c s = supervisorCommand kind lo hi port tag body s act)
    (h : s.Takes ⟨port, kind, tag, body, true, lo, hi⟩)
    (hact : ∀ u : State, port = .supervisor → (u.port .supervisor).attached = true →
      Checked (act u) (u.Answers .supervisor tag) (u.checks c)) :
    s.Refuses c ⟨port, kind, tag, body, true, lo, hi⟩ := by
  obtain rfl : port = .supervisor := h.side.2 rfl
  have hfits : fits lo hi body = true := by simp [fits, h.least, h.most]
  exact State.refuses_of_checked h (e.trans (supervisorCommand_takes h.hears.listens hfits)) (hact _ rfl h.hears.2)

/-! ## Named values -/

theorem named_isSome (k n : Nat) : (named k n).isSome = decide (n < k) := by
  unfold named
  split <;> simp [*]

theorem named_eq_some {k n : Nat} {i : Fin k} (h : named k n = some i) : i.val = n := by
  unfold named at h
  split at h
  · cases h; rfl
  · cases h

theorem tenderNamed_isSome (n : Nat) : (tenderNamed n).isSome = decide (n < 3) := by
  rcases n with _ | _ | _ | n <;> simp [tenderNamed]

theorem severityNamed_isSome (n : Nat) : (severityNamed n).isSome = decide (n ≤ 3) := by
  rcases n with _ | _ | _ | _ | n <;> simp [severityNamed]

/-- A number of `width` bytes is within the range of its width. -/
theorem num_lt (body : List Byte) (off width : Nat) : num body off width < 256 ^ width := by
  have fold (l : List Byte) (acc : Nat) :
      l.foldl (fun n b => n * 256 + b.toNat) acc < (acc + 1) * 256 ^ l.length := by
    induction l generalizing acc with
    | nil => simp
    | cons b l ih =>
      have hb : b.toNat < 256 := b.isLt
      calc (b :: l).foldl (fun n b => n * 256 + b.toNat) acc < (acc * 256 + b.toNat + 1) * 256 ^ l.length := ih _
        _ ≤ ((acc + 1) * 256) * 256 ^ l.length := Nat.mul_le_mul_right _ (by omega)
        _ = (acc + 1) * 256 ^ (b :: l).length := by rw [List.length_cons, Nat.pow_succ]; ring
  have h := fold ((body.drop off).take width) 0
  rw [Nat.zero_add, Nat.one_mul] at h
  exact h.trans_le (Nat.pow_le_pow_right (by omega) (List.length_take_le ..))

end Sys2Proof.Machine
end

section
/-! The checks of the window commands (R48, R64, R112, R121, R123, R130, R134), in the order of their rules. -/

namespace Sys2Proof.Machine

variable {s t : State} {port : Port} {tag : Tag} {body : List Byte}

/-- Jobs that end send nothing. -/
theorem State.Answers.endJobs {chosen : Job → Bool} {e : Ending} (h : s.Answers port tag t) :
    s.Answers port tag (t.endJobs chosen e) :=
  h.grows (State.PortsGrow.of_eq (s := t) rfl rfl port)

theorem bne_nil_eq {α : Type} [BEq α] (l : List α) : (l != []) = !l.isEmpty := by
  cases l <;> rfl

theorem openShift_refuses (h : s.Takes ⟨port, 0x10#8, tag, body, false, 4, 4⟩) :
    s.Refuses (.openShift port tag body) ⟨port, 0x10#8, tag, body, false, 4, 4⟩ :=
  windowCommand_refuses (show execOpenShift port tag body s = _ from rfl) h fun w u hw ha => by
    subst hw
    exact .needs rfl fun _ => .needs rfl fun _ => .pure (State.answers_accept ha rfl)

theorem cancel_refuses (h : s.Takes ⟨port, 0x12#8, tag, body, false, 1, 1⟩) :
    s.Refuses (.cancel port tag body) ⟨port, 0x12#8, tag, body, false, 1, 1⟩ :=
  windowCommand_refuses (show execCancel port tag body s = _ from rfl) h fun w u hw ha => by
    subst hw
    refine .needs ?_ fun _ => .pure (.commit (.endJobs (State.answers_accept ha rfl)) _ _)
    exact List.isSome_find?.symm

theorem closeShift_refuses (h : s.Takes ⟨port, 0x15#8, tag, body, false, 0, 0⟩) :
    s.Refuses (.closeShift port tag body) ⟨port, 0x15#8, tag, body, false, 0, 0⟩ :=
  windowCommand_refuses (show execCloseShift port tag body s = _ from rfl) h fun w u hw ha => by
    subst hw
    refine .needs rfl fun _ => .pure (.commit (.endJobs ?_) _ _)
    exact State.answers_accept ha rfl

theorem declare_refuses (h : s.Takes ⟨port, 0x16#8, tag, body, false, 12, 12⟩) :
    s.Refuses (.declare port tag body) ⟨port, 0x16#8, tag, body, false, 12, 12⟩ :=
  windowCommand_refuses (show execDeclare port tag body s = _ from rfl) h fun w u hw ha => by
    subst hw
    refine .needs rfl fun _ => .pure (.commit ?_ _ _)
    exact State.answers_send (f := cashUpResult tag _) ha rfl (by simp [cashUpResult, Out.cashUpResult])

theorem queryShift_refuses (h : s.Takes ⟨port, 0x17#8, tag, body, false, 0, 0⟩) :
    s.Refuses (.queryShift port tag body) ⟨port, 0x17#8, tag, body, false, 0, 0⟩ :=
  windowCommand_refuses (show execQueryShift port tag body s = _ from rfl) h fun w u hw ha => by
    subst hw
    exact .pure (State.answers_reply ha rfl (by decide))

theorem refund_refuses (h : s.Takes ⟨port, 0x14#8, tag, body, false, 5, 5⟩) :
    s.Refuses (.refund port tag body) ⟨port, 0x14#8, tag, body, false, 5, 5⟩ :=
  windowCommand_refuses (show execRefund port tag body s = _ from rfl) h fun w u hw ha => by
    subst hw
    refine .needs rfl fun _ => .needs rfl fun _ => .wants (tenderNamed_isSome _).symm fun tender _ =>
      .wantsAny ?_ fun split _ _ => .pure (.commit ?_ _ _)
    · simp only [bne_nil_eq]
    · exact State.answers_accept ha rfl

/-! ## VOID (R121) -/

theorem named_toFin {n : Nat} {stock : StockType} (h : named 4 n = some stock) : (BitVec.ofNat 2 n).toFin = stock := by
  have := named_eq_some h
  have hlt := stock.isLt
  exact Fin.ext (by simp; omega)

theorem void_refuses (h : s.Takes ⟨port, 0x13#8, tag, body, false, 4, 4⟩) :
    s.Refuses (.void port tag body) ⟨port, 0x13#8, tag, body, false, 4, 4⟩ :=
  windowCommand_refuses (show execVoid port tag body s = _ from rfl) h fun w u hw ha => by
    subst hw
    refine .needs rfl fun _ => .wants (named_isSome _ _).symm fun stock hstock => .wantsBind ?_
      fun number e hnumber he => .needs ?_ fun _ => .needs ?_ fun _ => .needs rfl fun _ => .pure (.commit ?_ _ _)
    · rw [named_toFin hstock]
    · rw [named_toFin hstock, hnumber, Option.bind_some, he, Option.all_some]
    · rw [named_toFin hstock, hnumber, Option.bind_some, he, Option.all_some, List.not_any_eq_all_not]
      simp only [Bool.not_and, bne]
    · exact State.answers_accept ha rfl

/-! ## ISSUE (R48) -/

/-- R48, check 7: the printer and the stock type of a selector. -/
theorem State.selected_checked (u : State) (n : Nat) : Checked (u.selected (selectorOf n)) (fun _ => True)
    [(n < 128 || n % 16 < 8, .printerNumber),
      (if n < 128 then n < 4
        else if n / 16 % 8 = 0 then (named 8 (n % 16)).any fun p => (u.loadedPack p).isSome
        else n / 16 % 8 ≤ 4, .stockType)] := by
  unfold State.selected selectorOf
  by_cases hn : n < 128
  · rw [if_pos hn, if_pos hn]
    refine .skip (by simp [hn]) (.wants ?_ fun t _ => .pure trivial)
    rw [named_isSome]
  · rw [if_neg hn, if_neg hn]
    refine .wants ?_ fun p hp => ?_
    · rw [named_isSome, decide_eq_false hn, Bool.false_or]
    · by_cases ht : n / 16 % 8 = 0
      · rw [if_pos ht, if_pos ht]
        refine .wants ?_ fun k _ => .pure trivial
        rw [hp, Option.any_some]
      · rw [if_neg ht, if_neg ht]
        refine .wants ?_ fun t _ => .pure trivial
        rw [named_isSome]
        exact decide_eq_decide.2 (by omega)

theorem State.job?_isNone (u : State) (ref : JobRef) : (u.job? ref).isNone = u.jobs.all (·.ref != ref) := by
  unfold State.job?
  rw [← Option.not_isSome, List.isSome_find?, List.not_any_eq_all_not]
  rfl

theorem State.issueJob_checked (u : State) (w : Window) (tag : Tag) (body : List Byte) :
    Checked (u.issueJob w tag body) (fun _ => True) (u.checks (.issue (.window w) tag body)) := by
  unfold State.issueJob
  refine .needs rfl fun _ => .needs (State.job?_isNone _ _).symm fun _ => .needs rfl fun _ => .needs ?_ fun _ =>
    .needs rfl fun _ => .wantsAny rfl fun concession _ _ => .wantsAny ?_ fun split _ _ => ?_
  · rw [State.liveJobs, List.countP_eq_length_filter]
    rfl
  · simp only [bne_nil_eq]
  · refine .bind (u.selected_checked _) fun target _ => .wants rfl fun fields _ => .both rfl
      (.wants (tenderNamed_isSome _).symm fun tender _ => .needs rfl fun _ => .pure trivial)

theorem issue_refuses (h : s.Takes ⟨port, 0x11#8, tag, body, false, 9, 248⟩) :
    s.Refuses (.issue port tag body) ⟨port, 0x11#8, tag, body, false, 9, 248⟩ :=
  windowCommand_refuses (show execIssue port tag body s = _ from rfl) h fun w u hw ha => by
    subst hw
    exact (u.issueJob_checked w tag body).bindAll fun job _ => .pure (State.answers_accept ha rfl)

end Sys2Proof.Machine
end

section
/-! The checks of the supervisor's stock commands (R12 to R21, R90), in the order of their rules. -/

namespace Sys2Proof.Machine

variable {s : State} {port : Port} {tag : Tag} {body : List Byte}

/-! ## Checks as the manual words them -/

theorem beq_none_eq {α : Type} [BEq α] (o : Option α) : (o == none) = o.isNone := by
  cases o <;> rfl

theorem State.pack?_isNone (u : State) (id : Nat) : (u.pack? id).isNone = u.packs.all (·.id != id) := by
  unfold State.pack?
  rw [← Option.not_isSome, List.isSome_find?, List.not_any_eq_all_not]
  rfl

theorem State.not_hold (u : State) : (!u.hold) = decide (u.spoils.length < 232) := by
  rw [State.hold_eq, ← decide_not]
  exact decide_eq_decide.2 (by omega)

theorem Printer.not_occupied (pr : Printer) :
    (!pr.occupied) = (pr.loadCheck == none && pr.unloadCheck == none && pr.test == none) := by
  rw [Printer.occupied, beq_none_eq, beq_none_eq, beq_none_eq]
  simp only [Bool.not_or, Option.not_isSome]

theorem Printer.tickets_isEmpty (pr : Printer) : pr.tickets.isEmpty = (pr.printing == none && pr.staged == none) := by
  rw [beq_none_eq, beq_none_eq]
  cases hp : pr.printing <;> cases hs : pr.staged <;> simp [Printer.tickets, hp, hs]

theorem State.not_overlaps (u : State) {stock : StockType} {n : Nat} (h : stock.val = n) (first last : Nat) :
    (!u.overlaps stock first last) = u.packs.all fun k => k.stock.val != n || k.last < first || last < k.first := by
  subst h
  rw [State.overlaps, List.not_any_eq_all_not]
  congr 1
  funext k
  rw [Bool.eq_iff_iff]
  simp [Fin.ext_iff]

/-! ## Packs -/

theorem receivePack_refuses (h : s.Takes ⟨port, 0x20#8, tag, body, true, 9, 9⟩) :
    s.Refuses (.receivePack port tag body) ⟨port, 0x20#8, tag, body, true, 9, 9⟩ :=
  supervisorCommand_refuses (show execReceivePack port tag body s = _ from rfl) h fun u hw ha => by
    subst hw
    refine .both (b' := packInRange (num body 0 2) (num body 2 1) (num body 3 3) (num body 6 3))
      (b'' := decide (num body 2 1 < 4)) ?_ (.needs rfl fun _ => .wants (named_isSome _ _).symm fun stock hstock =>
        .needs (State.pack?_isNone _ _).symm fun _ => .needs ?_ fun _ => .needs rfl fun _ => .pure ?_)
    · have hid := num_lt body 0 2
      have hserial : Config.maxSerial = 9999999 := rfl
      have hsize : Config.maxPackSize = 2000 := rfl
      rw [Bool.eq_iff_iff]
      simp only [packInRange, Bool.and_eq_true, decide_eq_true_eq]
      omega
    · rw [State.not_overlaps u (named_eq_some hstock)]
    · exact State.answers_accept ha rfl

theorem loadPack_refuses (h : s.Takes ⟨port, 0x21#8, tag, body, true, 3, 3⟩) :
    s.Refuses (.loadPack port tag body) ⟨port, 0x21#8, tag, body, true, 3, 3⟩ :=
  supervisorCommand_refuses (show execLoadPack port tag body s = _ from rfl) h fun u hw ha => by
    subst hw
    refine .wants Option.isSome_map fun p hp => .wants rfl fun k hk => .needs u.not_hold.symm fun _ =>
      .needs ?_ fun _ => .needs ?_ fun _ => .needs ?_ fun _ => .pure (.commit ?_ _ _)
    · rw [hk, Option.all_some, beq_none_eq]
      congr 1
      exact decide_eq_decide.2 (by unfold Pack.unused; omega)
    · rw [hp, Option.map_some, Option.all_some, Printer.not_occupied]
      simp only [Bool.and_assoc]
    · rw [hp, hk, Option.map_some, Option.all_some, Option.all_some]
    · exact State.answers_accept ha rfl

theorem unloadPack_refuses (h : s.Takes ⟨port, 0x22#8, tag, body, true, 1, 1⟩) :
    s.Refuses (.unloadPack port tag body) ⟨port, 0x22#8, tag, body, true, 1, 1⟩ :=
  supervisorCommand_refuses (show execUnloadPack port tag body s = _ from rfl) h fun u hw ha => by
    subst hw
    refine .wants Option.isSome_map fun p hp => .needs ?_ fun _ => .needs ?_ fun _ => .pure (.commit ?_ _ _)
    · rw [hp, Option.map_some, Option.all_some, Printer.canUnload, Printer.not_occupied, Printer.tickets_isEmpty,
        beq_none_eq (u.printers[p]).range]
      simp only [Bool.and_assoc]
    · exact decide_eq_decide.2 (by unfold State.spoilRoom Config.maxSpoils; omega)
    · exact State.answers_accept ha rfl

theorem State.writeOff_svPort (u : State) (k : Pack) : (u.writeOff k).svPort = u.svPort := by
  unfold State.writeOff
  dsimp only
  split <;> rfl

theorem State.spoilRange_svPort (u : State) (p : PrinterId) (pack first : Nat) (charges : List (Option JobRef)) :
    (u.spoilRange p pack first charges).svPort = u.svPort := by
  unfold State.spoilRange
  generalize runsOf first charges = runs
  induction runs generalizing u with
  | nil => rfl
  | cons r runs ih =>
    rw [List.foldl_cons, ih]
    cases r.2.2 <;> rfl

theorem State.compromise_svPort (u : State) (p : PrinterId) : (u.compromise p).svPort = u.svPort := by
  unfold State.compromise
  split <;> rfl

theorem State.spoilOut_svPort (u : State) (p : PrinterId) : (u.spoilOut p).svPort = u.svPort := by
  unfold State.spoilOut
  split
  · exact State.spoilRange_svPort ..
  · rfl

theorem State.Answers.supervisor {s t u : State} (h : s.Answers .supervisor tag t) (e : u.svPort = t.svPort) :
    s.Answers .supervisor tag u :=
  h.grows ⟨[], by rw [List.append_nil]; exact congrArg PortRecord.tx e⟩

theorem forceUnload_refuses (h : s.Takes ⟨port, 0x23#8, tag, body, true, 1, 1⟩) :
    s.Refuses (.forceUnload port tag body) ⟨port, 0x23#8, tag, body, true, 1, 1⟩ :=
  supervisorCommand_refuses (show execForceUnload port tag body s = _ from rfl) h fun u hw ha => by
    subst hw
    refine .wants Option.isSome_map fun p hp => .needs ?_ fun _ => .needs ?_ fun _ =>
      .pure (.commit (.supervisor (State.answers_accept ha rfl)
        ((State.compromise_svPort ..).trans (State.spoilOut_svPort ..))) _ _)
    · rw [hp, Option.map_some, Option.all_some, Printer.canForce, Printer.not_occupied, Printer.tickets_isEmpty,
        Bool.not_and, Bool.not_not]
      simp only [Bool.and_assoc, bne]
    · rw [hp, Option.map_some, Option.all_some]
      rfl

theorem writeOffPack_refuses (h : s.Takes ⟨port, 0x24#8, tag, body, true, 2, 2⟩) :
    s.Refuses (.writeOffPack port tag body) ⟨port, 0x24#8, tag, body, true, 2, 2⟩ :=
  supervisorCommand_refuses (show execWriteOffPack port tag body s = _ from rfl) h fun u hw ha => by
    subst hw
    refine .wants rfl fun k hk => .needs u.not_hold.symm fun _ => .needs ?_ fun _ =>
      .pure (.commit (State.answers_accept ha (State.writeOff_svPort ..)) _ _)
    rw [hk, Option.all_some, beq_none_eq]

theorem retirePack_refuses (h : s.Takes ⟨port, 0x25#8, tag, body, true, 2, 2⟩) :
    s.Refuses (.retirePack port tag body) ⟨port, 0x25#8, tag, body, true, 2, 2⟩ :=
  supervisorCommand_refuses (show execRetirePack port tag body s = _ from rfl) h fun u hw ha => by
    subst hw
    refine .wants rfl fun k hk => .needs ?_ fun _ => .pure (State.answers_accept ha rfl)
    have hunused : decide (k.last < k.next) = (k.unused == 0) := by
      rw [Bool.eq_iff_iff, decide_eq_true_iff, beq_iff_eq, Pack.unused]
      omega
    rw [hk, Option.all_some, beq_none_eq, hunused]
    rfl

theorem readPack_refuses (h : s.Takes ⟨port, 0x26#8, tag, body, true, 3, 3⟩) :
    s.Refuses (.readPack port tag body) ⟨port, 0x26#8, tag, body, true, 3, 3⟩ :=
  supervisorCommand_refuses (show execReadPack port tag body s = _ from rfl) h fun u hw ha => by
    subst hw
    have hread : Checked (u.packRead (num body 0 1 != 0) (num body 1 2)) (fun _ => True)
        (u.checks (.readPack .supervisor tag body)) := by
      unfold State.packRead State.checks
      dsimp only
      by_cases hz : num body 0 1 = 0
      · rw [if_pos hz, hz]
        refine .wantsBind ?_ fun i k _ _ => .pure trivial
        show u.packs.any (·.id == num body 1 2) = _
        rw [← List.find?_eq_bind_findIdx?_getElem?, List.isSome_find?]
      · rw [if_neg hz, if_pos (bne_iff_ne.2 hz)]
        refine .needs rfl fun _ => .wants ?_ fun k _ => .pure trivial
        rw [Bool.eq_iff_iff, decide_eq_true_iff, Option.isSome_iff_ne_none, Ne, List.getElem?_eq_none_iff, not_le]
    exact hread.bindAll fun found _ => .pure (State.answers_reply ha rfl (by decide))

theorem readSpoils_refuses (h : s.Takes ⟨port, 0x2B#8, tag, body, true, 2, 2⟩) :
    s.Refuses (.readSpoils port tag body) ⟨port, 0x2B#8, tag, body, true, 2, 2⟩ :=
  supervisorCommand_refuses (show execReadSpoils port tag body s = _ from rfl) h fun u hw ha => by
    subst hw
    exact .needs rfl fun _ => .pure (State.answers_reply ha rfl (by decide))

/-! ## Printers -/

theorem testPrint_refuses (h : s.Takes ⟨port, 0x27#8, tag, body, true, 2, 248⟩) :
    s.Refuses (.testPrint port tag body) ⟨port, 0x27#8, tag, body, true, 2, 248⟩ :=
  supervisorCommand_refuses (show execTestPrint port tag body s = _ from rfl) h fun u hw ha => by
    subst hw
    refine .wants Option.isSome_map fun p hp => .wants rfl fun fields hf => .needs u.not_hold.symm fun _ =>
      .needs ?_ fun _ => .needs ?_ fun _ => .pure ?_
    · rw [hp, Option.map_some, Option.all_some, Printer.not_occupied]
      simp only [Bool.and_assoc]
    · rw [hp, hf, Option.map_some, Option.all_some, Option.all_some]
    · exact State.answers_accept ha rfl

/-- The values of a vector in the order of their places. -/
theorem vector_toList {α : Type} {n : Nat} (v : Vector α n) : v.toList = List.ofFn fun i : Fin n => v[i] :=
  List.ext_getElem (by simp) fun i _ _ => by simp

theorem State.not_isFallback (u : State) (p : PrinterId) :
    (!u.isFallback p) = u.fallback.toList.all (· != some p) := by
  rw [State.isFallback, List.not_any_eq_all_not, vector_toList]
  rfl

theorem setService_refuses (h : s.Takes ⟨port, 0x28#8, tag, body, true, 3, 3⟩) :
    s.Refuses (.setService port tag body) ⟨port, 0x28#8, tag, body, true, 3, 3⟩ :=
  supervisorCommand_refuses (show execSetService port tag body s = _ from rfl) h fun u hw ha => by
    subst hw
    refine .wants rfl fun p hp => .needs ?_ fun _ => .needs ?_ fun _ => .pure (.commit ?_ _ _)
    · rw [hp, Option.all_some, Bool.not_and, Bool.not_and, Bool.not_not, State.not_isFallback]
      rfl
    · rw [hp, Option.all_some, Printer.not_occupied]
    · exact State.answers_accept ha rfl

theorem State.Answers.forceDown {s t : State} (h : s.Answers .supervisor tag t) (p : PrinterId) :
    s.Answers .supervisor tag (t.forceDown p) := by
  unfold State.forceDown
  split
  · refine h.grows ?_
    rw [State.linkLoss_eq]
    exact PortRecord.grows_push _ _
  · exact h.supervisor rfl
  · exact h.supervisor rfl
  · exact h

theorem resetLine_refuses (h : s.Takes ⟨port, 0x29#8, tag, body, true, 1, 1⟩) :
    s.Refuses (.resetLine port tag body) ⟨port, 0x29#8, tag, body, true, 1, 1⟩ :=
  supervisorCommand_refuses (show execResetLine port tag body s = _ from rfl) h fun u hw ha => by
    subst hw
    exact .wants (named_isSome _ _).symm fun p _ =>
      .pure (.commit (.forceDown (State.answers_accept ha rfl) p) _ _)

end Sys2Proof.Machine
end

section
/-!
The checks of the supervisor's other commands: shift accounts and office day, fault table and alarm, settings
and clock; and O25, command by command.
-/

namespace Sys2Proof.Machine

variable {s : State} {port : Port} {tag : Tag} {body : List Byte}

/-! ## Shift accounts and office day (R80, R125, R126, R141 to R145) -/

theorem readShift_refuses (h : s.Takes ⟨port, 0x2D#8, tag, body, true, 1, 1⟩) :
    s.Refuses (.readShift port tag body) ⟨port, 0x2D#8, tag, body, true, 1, 1⟩ :=
  supervisorCommand_refuses (show execReadShift port tag body s = _ from rfl) h fun u hw ha => by
    subst hw
    exact .wants (named_isSome _ _).symm fun w _ => .pure (State.answers_reply ha rfl (by decide))

theorem readEntries_refuses (h : s.Takes ⟨port, 0x2C#8, tag, body, true, 4, 4⟩) :
    s.Refuses (.readEntries port tag body) ⟨port, 0x2C#8, tag, body, true, 4, 4⟩ :=
  supervisorCommand_refuses (show execReadEntries port tag body s = _ from rfl) h fun u hw ha => by
    subst hw
    exact .both rfl (.both rfl (.both rfl (.needs rfl fun _ => .wants (named_isSome _ _).symm fun w _ =>
      .needs rfl fun _ => .needs rfl fun _ => .pure (State.answers_reply ha rfl (by decide)))))

theorem reopenCount_refuses (h : s.Takes ⟨port, 0x2E#8, tag, body, true, 1, 1⟩) :
    s.Refuses (.reopenCount port tag body) ⟨port, 0x2E#8, tag, body, true, 1, 1⟩ :=
  supervisorCommand_refuses (show execReopenCount port tag body s = _ from rfl) h fun u hw ha => by
    subst hw
    refine .wants Option.isSome_map fun w hw => .needs ?_ fun _ => .pure (.supervisor ?_ rfl)
    · rw [hw, Option.map_some, Option.all_some]
      rfl
    · exact State.answers_accept ha rfl

theorem signOff_refuses (h : s.Takes ⟨port, 0x2F#8, tag, body, true, 1, 1⟩) :
    s.Refuses (.signOff port tag body) ⟨port, 0x2F#8, tag, body, true, 1, 1⟩ :=
  supervisorCommand_refuses (show execSignOff port tag body s = _ from rfl) h fun u hw ha => by
    subst hw
    refine .wants rfl fun w hw => .needs ?_ fun _ => .needs ?_ fun _ => .pure (.supervisor ?_ rfl)
    · rw [hw, Option.all_some]
    · rw [hw, Option.all_some]
    · exact State.answers_accept ha rfl

theorem openDay_refuses (h : s.Takes ⟨port, 0x30#8, tag, body, true, 0, 0⟩) :
    s.Refuses (.openDay port tag body) ⟨port, 0x30#8, tag, body, true, 0, 0⟩ :=
  supervisorCommand_refuses (show execOpenDay port tag body s = _ from rfl) h fun u hw ha => by
    subst hw
    exact .needs rfl fun _ => .pure (State.answers_accept ha rfl)

theorem State.dayCanClose_eq (u : State) : u.dayCanClose = (u.dayOpen
    && u.shifts.toList.all (fun h => h.state == .idle || h.state == .signedOff)
    && u.printers.toList.all fun pr => pr.printing == none && pr.staged == none && pr.range == none
        && pr.loadCheck == none) := by
  have hprinters : u.printers.toList = allPrinters.map fun p => u.printers[p] := vector_toList _
  rw [hprinters, shifts_toList, List.all_map, List.all_map, State.dayCanClose, Bool.eq_iff_iff]
  simp only [Printer.tickets_isEmpty, beq_none_eq, Function.comp_def, Bool.and_eq_true, List.all_eq_true, imp_and,
    forall_and, and_assoc]

/-- R146: what CLOSE DAY does to the records sends nothing to the supervisor. -/
theorem State.emptyShifts_svPort (u : State) : u.emptyShifts.svPort = u.svPort := by
  simp only [State.emptyShifts, State.endConditions, State.sendWindows_svPort, State.mapShifts_svPort]

theorem State.closing_svPort (u : State) : u.emptySpoils.removeCleared.markDay.svPort = u.svPort := rfl

theorem closeDay_refuses (h : s.Takes ⟨port, 0x31#8, tag, body, true, 0, 0⟩) :
    s.Refuses (.closeDay port tag body) ⟨port, 0x31#8, tag, body, true, 0, 0⟩ :=
  supervisorCommand_refuses (show execCloseDay port tag body s = _ from rfl) h fun u hw ha => by
    subst hw
    refine .needs ?_ fun _ => .pure (.commit ?_ _ _)
    · exact u.dayCanClose_eq.symm
    · exact State.answers_accept ha ((State.closing_svPort _).trans u.emptyShifts_svPort)

/-- R80, checks 3 and 4: what WRITE-OFF needs of a disputed entry's pack. -/
theorem State.disputedPack_checked (u : State) (e : Entry) (off : Bool) :
    Checked (u.disputedPack e off) (fun _ => True)
      [(!off || u.spoils.length < 232, .hold),
        (!off || (u.pack? e.pack).any fun k =>
          (k.location == .safe || k.location == .compromised) && k.loadCheck == none, .packState)] := by
  cases off with
  | false => exact .skip rfl (.skip rfl (.pure trivial))
  | true =>
    refine .needs u.not_hold.symm fun _ => .wantsAny ?_ fun k _ _ => .pure trivial
    simp only [beq_none_eq, Bool.not_true, Bool.false_or]

theorem State.resolved_svPort (u : State) (w : Window) (number : Nat) (off : Bool) (pack : Option Pack) (id : Nat) :
    ((pack.elim (u.modShift w (·.resolveEntry number off)) (u.modShift w (·.resolveEntry number off)).writeOff
      ).clearMarkers id).svPort = u.svPort := by
  cases pack with
  | none => rfl
  | some k => exact State.writeOff_svPort (u.modShift w (·.resolveEntry number off)) k

theorem resolveDispute_refuses (h : s.Takes ⟨port, 0x2A#8, tag, body, true, 3, 3⟩) :
    s.Refuses (.resolveDispute port tag body) ⟨port, 0x2A#8, tag, body, true, 3, 3⟩ :=
  supervisorCommand_refuses (show execResolveDispute port tag body s = _ from rfl) h fun u hw ha => by
    subst hw
    refine .wants (named_isSome _ _).symm fun w hw => .needs rfl fun _ =>
      .both (b' := u.shifts[w].state != .idle) (b'' := (u.shifts[w].entries[num body 1 1]?).any (·.disputed)) ?_
        (.needs rfl fun hstate => .wantsAny rfl fun e he _ => .bindAll (P := fun _ => True) ?_ fun pack _ =>
          .pure (.commit (State.answers_accept ha (u.resolved_svPort ..)) _ _))
    · rw [hw, Option.bind_some]
      by_cases hidle : u.shifts[w].state = .idle
      · rw [if_pos hidle, hidle]; rfl
      · rw [if_neg hidle, bne_iff_ne.2 hidle, Bool.true_and]
    · rw [hw, Option.bind_some, if_neg (bne_iff_ne.1 hstate), he, Option.bind_some]
      exact u.disputedPack_checked e _

/-! ## Fault table and alarm (R159 to R167) -/

theorem nextFault_refuses (h : s.Takes ⟨port, 0x32#8, tag, body, true, 0, 0⟩) :
    s.Refuses (.nextFault port tag body) ⟨port, 0x32#8, tag, body, true, 0, 0⟩ :=
  supervisorCommand_refuses (show execNextFault port tag body s = _ from rfl) h fun u hw ha => by
    subst hw
    exact .pure (State.answers_reply ha rfl (by decide))

theorem State.reportPlace_isSome (u : State) (n : Nat) :
    (u.reportPlace n).isSome = (n == 0 || u.allReports.any (·.number == n)) := by
  unfold State.reportPlace
  by_cases hn : n = 0
  · rw [if_pos hn, hn]; rfl
  · rw [if_neg hn, List.findIdx?_isSome, beq_eq_false_iff_ne.2 hn, Bool.false_or]

theorem readFault_refuses (h : s.Takes ⟨port, 0x33#8, tag, body, true, 2, 2⟩) :
    s.Refuses (.readFault port tag body) ⟨port, 0x33#8, tag, body, true, 2, 2⟩ :=
  supervisorCommand_refuses (show execReadFault port tag body s = _ from rfl) h fun u hw ha => by
    subst hw
    exact .wants (State.reportPlace_isSome u _).symm fun place _ => .pure (State.answers_reply ha rfl (by decide))

theorem ackFault_refuses (h : s.Takes ⟨port, 0x34#8, tag, body, true, 2, 2⟩) :
    s.Refuses (.ackFault port tag body) ⟨port, 0x34#8, tag, body, true, 2, 2⟩ :=
  supervisorCommand_refuses (show execAckFault port tag body s = _ from rfl) h fun u hw ha => by
    subst hw
    refine .wants List.isSome_find?.symm fun r _ => .pure (.supervisor ?_ rfl)
    exact State.answers_accept ha rfl

theorem readChanges_refuses (h : s.Takes ⟨port, 0x35#8, tag, body, true, 0, 0⟩) :
    s.Refuses (.readChanges port tag body) ⟨port, 0x35#8, tag, body, true, 0, 0⟩ :=
  supervisorCommand_refuses (show execReadChanges port tag body s = _ from rfl) h fun u hw ha => by
    subst hw
    refine .pure (.supervisor ?_ rfl)
    exact State.answers_reply ha rfl (by decide)

theorem silenceAlarm_refuses (h : s.Takes ⟨port, 0x36#8, tag, body, true, 0, 0⟩) :
    s.Refuses (.silenceAlarm port tag body) ⟨port, 0x36#8, tag, body, true, 0, 0⟩ :=
  supervisorCommand_refuses (show execSilenceAlarm port tag body s = _ from rfl) h fun u hw ha => by
    subst hw
    refine .pure (.supervisor ?_ rfl)
    exact State.answers_accept ha rfl

/-! ## Settings and clock (R97, R99, R164, R178 to R181, R189, R190) -/

theorem selectEntry_refuses (h : s.Takes ⟨port, 0x37#8, tag, body, true, 2, 2⟩) :
    s.Refuses (.selectEntry port tag body) ⟨port, 0x37#8, tag, body, true, 2, 2⟩ :=
  supervisorCommand_refuses (show execSelectEntry port tag body s = _ from rfl) h fun u hw ha => by
    subst hw
    exact .wants rfl fun c _ => .pure (State.answers_accept ha rfl)

theorem readEntry_refuses (h : s.Takes ⟨port, 0x38#8, tag, body, true, 0, 0⟩) :
    s.Refuses (.readEntry port tag body) ⟨port, 0x38#8, tag, body, true, 0, 0⟩ :=
  supervisorCommand_refuses (show execReadEntry port tag body s = _ from rfl) h fun u hw ha => by
    subst hw
    exact .pure (State.answers_reply ha rfl (by decide))

/-- R181: a FALLBACK entry names no printer, or one that is not a pool printer. -/
theorem State.writeFallback_checked (u : State) (t : StockType) (body : List Byte) :
    Checked (u.writeFallback t body) (fun t => t.svPort = u.svPort)
      [(num body 0 1 == 255 || (named 8 (num body 0 1)).any fun p => !u.printers[p].pool, .entryInvalid)] := by
  unfold State.writeFallback
  by_cases hn : num body 0 1 = 0xFF
  · rw [if_pos hn, hn]
    exact .skip rfl (.pure rfl)
  · rw [if_neg hn, beq_eq_false_iff_ne.2 hn, Bool.false_or]
    exact .wantsAny rfl fun p _ _ => .pure rfl

/-- The checks of the table that the cursor names. -/
theorem State.writeEntry_checked (u : State) (port : Port) (tag : Tag) (body : List Byte) :
    Checked (u.writeEntry body) (fun t => t.svPort = u.svPort) (u.checks (.writeEntry port tag body)) := by
  unfold State.writeEntry State.checks
  dsimp only
  cases u.cursor with
  | concession i => exact .needs rfl fun _ => .needs rfl fun _ => .pure rfl
  | split i =>
    refine .needs rfl fun _ => .needs rfl fun _ => .wants rfl fun split hsplit => .needs ?_ fun _ => .pure rfl
    rw [hsplit, Option.all_some]
  | routing p => exact .wants (severityNamed_isSome _).symm fun minimum _ => .pure rfl
  | fallback t => exact u.writeFallback_checked t body
  | tolerance t => exact .pure rfl
  | limits => exact .pure rfl

theorem writeEntry_refuses
    (h : s.Takes ⟨port, 0x39#8, tag, body, true, s.cursor.bodyLength, s.cursor.bodyLength⟩) :
    s.Refuses (.writeEntry port tag body)
      ⟨port, 0x39#8, tag, body, true, s.cursor.bodyLength, s.cursor.bodyLength⟩ :=
  supervisorCommand_refuses (show execWriteEntry port tag body s = _ from rfl) h fun u hw ha => by
    subst hw
    exact (u.writeEntry_checked .supervisor tag body).bindAll fun t ht =>
      .pure (.commit (State.answers_accept ha ht) _ _)

theorem setClock_refuses (h : s.Takes ⟨port, 0x3A#8, tag, body, true, 5, 5⟩) :
    s.Refuses (.setClock port tag body) ⟨port, 0x3A#8, tag, body, true, 5, 5⟩ :=
  supervisorCommand_refuses (show execSetClock port tag body s = _ from rfl) h fun u hw ha => by
    subst hw
    refine .needs ?_ fun _ => .pure ?_
    · have hday : decide (num body 3 2 < Config.dayNumbers) = true := decide_eq_true (num_lt body 3 2)
      rw [hday, Bool.and_true]
      rfl
    · exact State.answers_accept ha rfl

theorem readOffice_refuses (h : s.Takes ⟨port, 0x3B#8, tag, body, true, 0, 0⟩) :
    s.Refuses (.readOffice port tag body) ⟨port, 0x3B#8, tag, body, true, 0, 0⟩ :=
  supervisorCommand_refuses (show execReadOffice port tag body s = _ from rfl) h fun u hw ha => by
    subst hw
    exact .pure (State.answers_reply ha rfl (by decide))

/-- A command keeps the checks of its rule. -/
theorem refuses_of_frame {c : Instr} {f : FrameRow} (hf : s.frame c = some f) (ht : s.Takes f) : s.Refuses c f := by
  cases c with
  | openShift => cases hf; exact openShift_refuses ht
  | issue => cases hf; exact issue_refuses ht
  | cancel => cases hf; exact cancel_refuses ht
  | void => cases hf; exact void_refuses ht
  | refund => cases hf; exact refund_refuses ht
  | closeShift => cases hf; exact closeShift_refuses ht
  | declare => cases hf; exact declare_refuses ht
  | queryShift => cases hf; exact queryShift_refuses ht
  | receivePack => cases hf; exact receivePack_refuses ht
  | loadPack => cases hf; exact loadPack_refuses ht
  | unloadPack => cases hf; exact unloadPack_refuses ht
  | forceUnload => cases hf; exact forceUnload_refuses ht
  | writeOffPack => cases hf; exact writeOffPack_refuses ht
  | retirePack => cases hf; exact retirePack_refuses ht
  | readPack => cases hf; exact readPack_refuses ht
  | testPrint => cases hf; exact testPrint_refuses ht
  | setService => cases hf; exact setService_refuses ht
  | resetLine => cases hf; exact resetLine_refuses ht
  | resolveDispute => cases hf; exact resolveDispute_refuses ht
  | readSpoils => cases hf; exact readSpoils_refuses ht
  | readEntries => cases hf; exact readEntries_refuses ht
  | readShift => cases hf; exact readShift_refuses ht
  | reopenCount => cases hf; exact reopenCount_refuses ht
  | signOff => cases hf; exact signOff_refuses ht
  | openDay => cases hf; exact openDay_refuses ht
  | closeDay => cases hf; exact closeDay_refuses ht
  | nextFault => cases hf; exact nextFault_refuses ht
  | readFault => cases hf; exact readFault_refuses ht
  | ackFault => cases hf; exact ackFault_refuses ht
  | readChanges => cases hf; exact readChanges_refuses ht
  | silenceAlarm => cases hf; exact silenceAlarm_refuses ht
  | selectEntry => cases hf; exact selectEntry_refuses ht
  | readEntry => cases hf; exact readEntry_refuses ht
  | writeEntry => cases hf; exact writeEntry_refuses ht
  | setClock => cases hf; exact setClock_refuses ht
  | readOffice => cases hf; exact readOffice_refuses ht
  | _ => cases hf

/-- Settles O25, command by command. -/
theorem commandRefusals : Obligations.CommandRefusals :=
  fun _ _ _ hf hears side least most => refuses_of_frame hf ⟨hears, side, least, most⟩

end Sys2Proof.Machine
end

section
/-!
What a step leaves unsettled: nothing. The end of a step settles everything; a command that does not end its step
so changes nothing that could want settling.
-/

namespace Sys2Proof.Machine

variable {s t u : State}

/-! ## The law apart from the phase -/

/-- R50, R68, R132, R36, R70: nothing that settles itself is left unsettled, whether the part runs or not. -/
def State.AtRest (s : State) : Prop :=
  (∀ j ∈ s.jobs, j.state = .active → 0 < s.inFlight j.ref ∨ s.isHolder j.ref = true)
    ∧ (∀ j ∈ s.jobs, ∀ e, j.state = .ending e → 0 < s.inFlight j.ref)
    ∧ (∀ w : Window, s.shifts[w].state = .draining → 0 < s.liveJobs w)
    ∧ (∀ p : PrinterId, s.printers[p].pauseTimer.isSome = true ↔
        s.printers[p].conditions.paused = true ∧ s.printers[p].staged.isSome = true
          ∧ s.printers[p].withdrawal = false)
    ∧ (∀ (p : PrinterId) (x : TestPrint), s.printers[p].test = some x → x.sent = false →
        s.printers[p].service = .ready ∧ s.hold = false)

theorem State.AtRest.sound (h : s.AtRest) : s.RestSound := fun _ => h

theorem State.restSound_of_stopped (h : s.phase ≠ .running) : s.RestSound := fun hr => absurd hr h

/-! ## The end of a step -/

theorem State.leaves_of_ending {j : Job} {e : Ending} (hj : j.state = .ending e) (hf : t.inFlight j.ref = 0) :
    (t.leaves j).isSome = true := by
  unfold State.leaves
  rw [if_neg (by simp [hf]), hj]
  dsimp only
  split <;> rfl

/-- A job at the end of a step is QUEUED, or it stayed as it was. -/
theorem State.Settled.job {before : State} {told : List Occurrence} (h : State.Settled before u t told) {j : Job}
    (hj : j ∈ t.jobs) : j.state = .queued ∨ t.leaves j = none
      ∧ ¬(j.state = .active ∧ t.inFlight j.ref = 0 ∧ t.isHolder j.ref = false) := by
  rw [h.jobs] at hj
  obtain ⟨i, hi, rfl⟩ := List.mem_map.1 hj
  have hstay : t.leaves i = none := Option.isNone_iff_eq_none.1 (List.mem_filter.1 hi).2
  unfold State.requeued
  split
  · exact .inl rfl
  · exact .inr ⟨hstay, ‹_›⟩

/-- R70: the pending test print of a printer that is kept. -/
theorem State.kept_test {p : PrinterId} {x : TestPrint} (h : u.printers[p].test = some x) (hx : x.sent = false)
    (hk : u.abandoned p = none) : u.printers[p].service = .ready ∧ u.hold = false := by
  have hn : u.testAbandoned p = false := by rw [u.testAbandoned_eq, hk]; rfl
  unfold State.testAbandoned at hn
  dsimp only at hn
  rw [h] at hn
  simp only [Option.any_some, hx, Bool.not_false, Bool.true_and, Bool.or_eq_false_iff, bne_eq_false_iff_eq] at hn
  exact hn.1

/-- What the end of a step settles. -/
theorem State.Settled.atRest {before : State} {told : List Occurrence} (h : State.Settled before u t told) :
    t.AtRest := by
  have hbare := State.printer_of_bare h.bare
  refine ⟨fun j hj ha => ?_, fun j hj e he => ?_, fun w hw => ?_, fun p => ?_, fun p x hx hsent => ?_⟩
  · obtain hq | ⟨-, hstay⟩ := h.job hj
    · rw [ha] at hq; cases hq
    · by_contra hc
      rw [not_or, Nat.not_lt, Nat.le_zero, Bool.not_eq_true] at hc
      exact hstay ⟨ha, hc⟩
  · obtain hq | ⟨hstay, -⟩ := h.job hj
    · rw [he] at hq; cases hq
    · refine Nat.pos_of_ne_zero fun hf => ?_
      have := State.leaves_of_ending he hf
      rw [hstay] at this
      cases this
  · rw [h.shifts w] at hw
    split at hw
    · cases hw
    · rename_i hd
      refine Nat.pos_of_ne_zero fun hl => hd ?_
      unfold State.drains
      rw [hw, hl]
      rfl
  · have hpaused := congrArg (·.conditions.paused) (hbare p)
    have hstaged := congrArg (·.staged) (hbare p)
    have hwithdrawal := congrArg (·.withdrawal) (hbare p)
    simp only [Printer.bare] at hpaused hstaged hwithdrawal
    rw [h.pauses p, hpaused, hstaged, hwithdrawal]
    split <;> simp_all
  · rw [h.tests p] at hx
    split at hx
    · cases hx
    · rename_i hk
      have hold : t.hold = u.hold := by
        unfold State.hold
        rw [(State.eq_of_bare h.bare).2.2.2.2.2.2.2.2.1]
      rw [State.service_of_bare h.bare, hold]
      exact State.kept_test hx hsent (by simpa using hk)

theorem State.commit_restSound (s before : State) (told : List Occurrence) : (s.commit before told).RestSound :=
  (s.commit_settled before told).atRest.sound

/-! ## What the law reads -/

/-- What the law reads of a printer. -/
structure Printer.RestView where
  tickets : List Ticket
  staged : Bool
  withdrawal : Bool
  paused : Bool
  timer : Bool
  holder : Option JobRef
  test : Option TestPrint
  service : Service

def Printer.restView (pr : Printer) : Printer.RestView :=
  { tickets := pr.tickets, staged := pr.staged.isSome, withdrawal := pr.withdrawal, paused := pr.conditions.paused
    timer := pr.pauseTimer.isSome, holder := pr.arbiter.holder, test := pr.test, service := pr.service }

/-- Nothing that could want settling differs. -/
structure State.Rests (s t : State) : Prop where
  phase : t.phase = s.phase
  jobs : t.jobs.map (fun j => (j.ref, j.state)) = s.jobs.map fun j => (j.ref, j.state)
  shifts : ∀ w : Window, t.shifts[w].state = .draining → s.shifts[w].state = .draining
  printers : ∀ p : PrinterId, t.printers[p].restView = s.printers[p].restView
  hold : t.hold = s.hold

theorem State.inFlight_congr (h : ∀ p : PrinterId, t.printers[p].tickets = s.printers[p].tickets) (ref : JobRef) :
    t.inFlight ref = s.inFlight ref := by
  unfold State.inFlight
  simp only [h]

theorem State.isHolder_congr (h : ∀ p : PrinterId, t.printers[p].arbiter.holder = s.printers[p].arbiter.holder)
    (ref : JobRef) : t.isHolder ref = s.isHolder ref := by
  unfold State.isHolder
  simp only [h]

theorem State.liveJobs_congr (h : t.jobs.map (·.ref) = s.jobs.map (·.ref)) (w : Window) :
    t.liveJobs w = s.liveJobs w := by
  have count (l : List Job) : l.countP (·.ref.window == w) = (l.map (·.ref)).countP (·.window == w) := by
    rw [List.countP_map]; rfl
  unfold State.liveJobs
  rw [count, count, h]

theorem State.Rests.atRest (h : s.Rests t) (hs : s.AtRest) : t.AtRest := by
  obtain ⟨hactive, hending, hdraining, hpause, htest⟩ := hs
  have hfly := State.inFlight_congr fun p => congrArg (·.tickets) (h.printers p)
  have hhold := State.isHolder_congr fun p => congrArg (·.holder) (h.printers p)
  have hlive : ∀ w, t.liveJobs w = s.liveJobs w := by
    refine State.liveJobs_congr ?_
    have := congrArg (List.map Prod.fst) h.jobs
    rwa [List.map_map, List.map_map] at this
  have hjob : ∀ j ∈ t.jobs, ∃ i ∈ s.jobs, i.ref = j.ref ∧ i.state = j.state := fun j hj => by
    obtain ⟨i, hi, e⟩ := exists_mem_of_map_eq h.jobs hj
    exact ⟨i, hi, congrArg Prod.fst e, congrArg Prod.snd e⟩
  refine ⟨fun j hj ha => ?_, fun j hj e he => ?_, fun w hw => ?_, fun p => ?_, fun p x hx hsent => ?_⟩
  · obtain ⟨i, hi, href, hstate⟩ := hjob j hj
    rw [hfly, hhold, ← href]
    exact hactive i hi (hstate.trans ha)
  · obtain ⟨i, hi, href, hstate⟩ := hjob j hj
    rw [hfly, ← href]
    exact hending i hi e (hstate.trans he)
  · rw [hlive]
    exact hdraining w (h.shifts w hw)
  · have hview := h.printers p
    simp only [Printer.restView, Printer.RestView.mk.injEq] at hview
    obtain ⟨-, hst, hwd, hpd, htm, -⟩ := hview
    rw [hst, hwd, hpd, htm]
    exact hpause p
  · have hview := h.printers p
    simp only [Printer.restView, Printer.RestView.mk.injEq] at hview
    obtain ⟨-, -, -, -, -, -, htt, hsv⟩ := hview
    rw [hsv, h.hold]
    exact htest p x (htt ▸ hx) hsent

theorem State.Rests.restSound (h : s.Rests t) (hs : s.RestSound) : t.RestSound :=
  fun hr => h.atRest (hs (h.phase ▸ hr))

/-! ## Changes that want no settling -/

theorem State.Rests.refl (s : State) : s.Rests s := ⟨rfl, rfl, fun _ => id, fun _ => rfl, rfl⟩

theorem State.Rests.trans (h : s.Rests t) (k : t.Rests u) : s.Rests u where
  phase := k.phase.trans h.phase
  jobs := k.jobs.trans h.jobs
  shifts := fun w hw => h.shifts w (k.shifts w hw)
  printers := fun p => (k.printers p).trans (h.printers p)
  hold := k.hold.trans h.hold

/-- Printers, jobs, shifts and the hold as they were. -/
theorem State.rests_of_eq (h : t.phase = s.phase ∧ t.jobs = s.jobs ∧ t.shifts = s.shifts ∧ t.printers = s.printers
    ∧ t.spoils = s.spoils) : s.Rests t := by
  obtain ⟨hphase, hjobs, hshifts, hprinters, hspoils⟩ := h
  refine ⟨hphase, by rw [hjobs], fun w hw => by rwa [hshifts] at hw, fun p => by rw [hprinters], ?_⟩
  unfold State.hold
  rw [hspoils]

theorem State.rests_modPort (s : State) (port : Port) (f : PortRecord → PortRecord) : s.Rests (s.modPort port f) := by
  cases port <;> exact State.rests_of_eq ⟨rfl, rfl, rfl, rfl, rfl⟩

theorem State.rests_send (s : State) (port : Port) (fs : List Frame) : s.Rests (s.send port fs) :=
  s.rests_modPort port _

theorem State.Rests.send (h : s.Rests t) (port : Port) (fs : List Frame) : s.Rests (t.send port fs) :=
  h.trans (t.rests_send port fs)

theorem State.Rests.accept (h : s.Rests t) (port : Port) (kind : Byte) (tag : Tag) (fields : List Byte) :
    s.Rests (t.accept port kind tag fields) := h.send _ _

theorem State.rests_reply (s : State) (port : Port) (kind : Byte) (tag : Tag) (fields : List Byte) :
    s.Rests (s.reply port kind tag fields) := s.rests_send _ _

theorem State.rests_mapPrinters {f : PrinterId → Printer → Printer}
    (h : ∀ p pr, (f p pr).restView = pr.restView) : s.Rests (s.mapPrinters f) :=
  ⟨rfl, rfl, fun _ => id, fun p => by rw [State.mapPrinters_get]; exact h p _, rfl⟩

theorem State.rests_modPrinter {p : PrinterId} {f : Printer → Printer}
    (h : (f s.printers[p]).restView = s.printers[p].restView) : s.Rests (s.modPrinter p f) := by
  refine ⟨rfl, rfl, fun _ => id, fun q => ?_, rfl⟩
  rw [State.modPrinter_get]
  split
  · subst_vars; exact h
  · rfl

theorem State.rests_sendLine (s : State) (p : PrinterId) (f : Frame) : s.Rests (s.sendLine p f) :=
  State.rests_modPrinter rfl

theorem State.rests_modShift {w : Window} {f : Shift → Shift} (h : (f s.shifts[w]).state ≠ .draining) :
    s.Rests (s.modShift w f) := by
  refine ⟨rfl, rfl, fun x hx => ?_, fun _ => rfl, rfl⟩
  rw [State.modShift_get] at hx
  split at hx
  · exact absurd hx h
  · exact hx

theorem State.Rests.outputs (h : s.Rests t) : s.Rests t.outputs :=
  h.trans ((t.rests_mapPrinters (f := fun p pr => { pr with lamp := pr.lamp.show (t.lampLaw p) }) fun _ _ => rfl).trans
    (State.rests_of_eq ⟨rfl, rfl, rfl, rfl, rfl⟩))

theorem State.rests_modJob {ref : JobRef} {f : Job → Job} (h : ∀ j, (f j).ref = j.ref ∧ (f j).state = j.state) :
    s.Rests (s.modJob ref f) := by
  refine ⟨rfl, ?_, fun _ => id, fun _ => rfl, rfl⟩
  unfold State.modJob
  dsimp only
  rw [List.map_map]
  refine List.map_congr_left fun j _ => ?_
  dsimp only [Function.comp]
  split
  · rw [(h j).1, (h j).2]
  · rfl

/-- A QUEUED job wants no settling. -/
theorem State.RestSound.queue (h : s.RestSound) {j : Job} (hj : j.state = .queued) :
    ({ s with jobs := s.jobs ++ [j] } : State).RestSound := by
  intro hr
  obtain ⟨hactive, hending, hdraining, hpause, htest⟩ := h hr
  refine ⟨fun i hi ha => ?_, fun i hi e he => ?_, fun w hw => ?_, hpause, htest⟩
  · obtain hi | rfl := List.mem_append.1 hi |>.imp_right List.mem_singleton.1
    · exact hactive i hi ha
    · rw [hj] at ha; cases ha
  · obtain hi | rfl := List.mem_append.1 hi |>.imp_right List.mem_singleton.1
    · exact hending i hi e he
    · rw [hj] at he; cases he
  · refine (hdraining w hw).trans_le ?_
    unfold State.liveJobs
    rw [List.countP_append]
    exact Nat.le_add_right _ _

/-- A test print pending on a READY printer with the hold off wants no settling. -/
theorem State.RestSound.await (h : s.RestSound) {p : PrinterId} {x : TestPrint}
    (hready : s.printers[p].service = .ready) (hoff : s.hold = false) :
    (s.modPrinter p fun pr => { pr with test := some x }).RestSound := by
  intro hr
  obtain ⟨hactive, hending, hdraining, hpause, htest⟩ := h hr
  have hget : ∀ q : PrinterId, (s.modPrinter p fun pr => { pr with test := some x }).printers[q]
      = { s.printers[q] with test := if q = p then some x else s.printers[q].test } := fun q => by
    rw [State.modPrinter_get]
    split
    · subst_vars; rfl
    · rfl
  have hfly : ∀ ref, (s.modPrinter p fun pr => { pr with test := some x }).inFlight ref = s.inFlight ref :=
    State.inFlight_congr fun q => by rw [hget q]; rfl
  have hhold : ∀ ref, (s.modPrinter p fun pr => { pr with test := some x }).isHolder ref = s.isHolder ref :=
    State.isHolder_congr fun q => by rw [hget q]
  refine ⟨fun j hj ha => ?_, fun j hj e he => ?_, hdraining, fun q => ?_, fun q y hy hsent => ?_⟩
  · rw [hfly, hhold]; exact hactive j hj ha
  · rw [hfly]; exact hending j hj e he
  · rw [hget q]; exact hpause q
  · rw [hget q] at hy ⊢
    refine ⟨?_, hoff⟩
    show s.printers[q].service = .ready
    dsimp only at hy
    split at hy
    · subst_vars; exact hready
    · exact (htest q y hy hsent).1

/-! ## The shells of the commands -/

/-- An answer whose state, if any, is settled where the state before it was. -/
def State.Settles (s : State) (a : Answer) : Prop := s.RestSound → ∀ t, a = .next t → t.RestSound

theorem State.Settles.next (h : s.RestSound → t.RestSound) : s.Settles (.next t) := by
  rintro hs _ ⟨⟩
  exact h hs

theorem State.Settles.fault (f : Fault) : s.Settles (.fault f) := by rintro - _ ⟨⟩

/-- Where a command's checks all hold, it leaves a state with `P`. -/
def Leaves {α : Type} (r : Except Code α) (P : α → Prop) : Prop := ∀ b, r = .ok b → P b

section
variable {α β : Type} {P : α → Prop} {b : Bool} {c : Code}

theorem Leaves.pure {a : α} (h : P a) : Leaves (pure a) P := fun _ hb => pure_eq_ok.1 hb ▸ h

theorem Leaves.need {k : Unit → Except Code α} (h : b = true → Leaves (k ()) P) : Leaves (need b c >>= k) P :=
  fun a ha => h (need_eq_ok.1 ha).1 a (need_eq_ok.1 ha).2

theorem Leaves.want {o : Option β} {k : β → Except Code α} (h : ∀ a, o = some a → Leaves (k a) P) :
    Leaves (want o c >>= k) P := fun a ha => by
  obtain ⟨x, hx, hk⟩ := want_eq_ok.1 ha
  exact h x hx a hk

theorem Leaves.bind {r : Except Code β} {k : β → Except Code α} (h : ∀ a, r = .ok a → Leaves (k a) P) :
    Leaves (r >>= k) P := fun a ha => by
  obtain ⟨x, hx, hk⟩ := bind_eq_ok.1 ha
  exact h x hx a hk

end

theorem windowCommand_settles {kind : Byte} {lo hi : Nat} {port : Port} {tag : Tag} {body : List Byte}
    {act : Window → State → Except Code State} (h : ∀ w a, a.RestSound → Leaves (act w a) State.RestSound) :
    s.Settles (windowCommand kind lo hi port tag body s act) := by
  refine .next fun hs => ?_
  split
  · have ha : (s.sound port).RestSound := (s.rests_modPort port _).restSound hs
    unfold State.answer
    dsimp only
    split
    · exact (State.rests_send _ _ _).restSound ha
    · rename_i v hv
      cases port with
      | supervisor => cases hv
      | window w =>
        dsimp only at hv
        split at hv
        · exact h w _ ha _ hv
        · cases hv
  · exact hs

theorem supervisorCommand_settles {kind : Byte} {lo hi : Nat} {port : Port} {tag : Tag} {body : List Byte}
    {act : State → Except Code State} (h : ∀ a, a.RestSound → Leaves (act a) State.RestSound) :
    s.Settles (supervisorCommand kind lo hi port tag body s act) := by
  refine .next fun hs => ?_
  split
  · have ha : (s.sound port).RestSound := (s.rests_modPort port _).restSound hs
    unfold State.answer
    dsimp only
    split
    · exact (State.rests_send _ _ _).restSound ha
    · rename_i v hv
      cases port with
      | window w => cases hv
      | supervisor =>
        dsimp only at hv
        split at hv
        · exact h _ ha _ hv
        · cases hv
  · exact hs

/-- A printer's frame ends its step whether it is expected or not. -/
theorem printerFrame_settles {p : PrinterId} {n : Nat} {body : List Byte} {act : State → Option State}
    (h : ∀ b, act s = some b → b.RestSound) : s.Settles (printerFrame p n body s act) := by
  refine .next fun hs => ?_
  split
  · split
    · cases ha : act s with
      | none => exact State.commit_restSound _ _ _
      | some b => exact h b ha
    · exact State.commit_restSound _ _ _
  · exact hs

theorem event_settles {occurs : Bool} {act : State → State}
    (h : s.RestSound → occurs = true → (act s).RestSound) : s.Settles (event s occurs act) := by
  refine .next fun hs => ?_
  split
  · rename_i hc
    exact h hs (Bool.and_eq_true_iff.1 hc).2
  · exact hs

/-- An event that ends its step. -/
theorem event_settles_commit {occurs : Bool} {u : State → State} {told : State → List Occurrence} :
    s.Settles (event s occurs fun s => (u s).commit s (told s)) :=
  event_settles fun _ _ => State.commit_restSound _ _ _

theorem event_never_settles {act : State → State} : s.Settles (event s false act) :=
  event_settles fun _ h => by cases h

end Sys2Proof.Machine
end

section
/-! No command leaves anything unsettled (O14). -/

namespace Sys2Proof.Machine

variable {s : State}

/-- A command whose checks hold ends its step. -/
theorem Leaves.commit {u before : State} {told : List Occurrence} :
    Leaves (Pure.pure (u.commit before told)) State.RestSound := .pure (State.commit_restSound _ _ _)

/-- A command that changes nothing that could want settling. -/
theorem Leaves.rests {a u : State} (ha : a.RestSound) (h : a.Rests u) : Leaves (Pure.pure u) State.RestSound :=
  .pure (h.restSound ha)

/-- ACCEPTED after a change to something else. -/
theorem Leaves.beside {a u : State} (ha : a.RestSound) {port : Port} {kind : Byte} {tag : Tag} {fields : List Byte}
    (h : u.phase = a.phase ∧ u.jobs = a.jobs ∧ u.shifts = a.shifts ∧ u.printers = a.printers
      ∧ u.spoils = a.spoils) :
    Leaves (Pure.pure (u.accept port kind tag fields)) State.RestSound :=
  .rests ha ((State.rests_of_eq h).accept ..)

theorem Leaves.besideOutputs {a u : State} (ha : a.RestSound) {port : Port} {kind : Byte} {tag : Tag}
    {fields : List Byte}
    (h : u.phase = a.phase ∧ u.jobs = a.jobs ∧ u.shifts = a.shifts ∧ u.printers = a.printers
      ∧ u.spoils = a.spoils) :
    Leaves (Pure.pure (u.accept port kind tag fields).outputs) State.RestSound :=
  .rests ha ((State.rests_of_eq h).accept ..).outputs

/-- A read. -/
theorem Leaves.reply {a : State} (ha : a.RestSound) {port : Port} {kind : Byte} {tag : Tag} {fields : List Byte} :
    Leaves (Pure.pure (a.reply port kind tag fields)) State.RestSound := .rests ha (a.rests_reply ..)

/-- R48, R49: an ISSUE taken makes a QUEUED job. -/
theorem State.issueJob_queued (a : State) (w : Window) (tag : Tag) (body : List Byte) :
    Leaves (a.issueJob w tag body) fun j => j.state = .queued :=
  .need fun _ => .need fun _ => .need fun _ => .need fun _ => .need fun _ => .want fun _ _ => .need fun _ =>
    .want fun _ _ => .need fun _ => .bind fun _ _ => .want fun _ _ => .want fun _ _ => .need fun _ => .pure rfl

theorem State.framingFault_restSound (port : Port) (fs : List Frame) : (s.framingFault port fs).RestSound :=
  State.commit_restSound _ _ _

/-! ## Starts and stops -/

theorem State.coldStart_restSound (straps : Straps) : (s.coldStart straps).RestSound := by
  intro _
  have hprinter : ∀ p : PrinterId, (s.coldStart straps).printers[p] = .start := State.reset_printer
  have hshift : ∀ w : Window, (s.coldStart straps).shifts[w] = .empty := fun w => by
    show (Vector.replicate 12 Shift.empty)[w.val] = _
    simp
  refine ⟨fun j hj => (by cases hj), fun j hj => (by cases hj), fun w hw => ?_, fun p => ?_, fun p x hx => ?_⟩
  · rw [hshift w] at hw; cases hw
  · rw [hprinter p]
    simp [Printer.start, Conditions.clear]
  · rw [hprinter p] at hx; cases hx

theorem State.warmStart_restSound (straps : Straps) : (s.warmStart straps).RestSound := by
  intro _
  have hshift : ∀ w : Window, (s.warmStart straps).shifts[w] = (s.shifts[w]).restart := fun w => vecGet_map _ _ _
  have hprinter := s.warmStart_printer straps
  refine ⟨fun j hj => (by cases hj), fun j hj => (by cases hj), fun w hw => ?_, fun p => ?_, fun p x hx => ?_⟩
  · rw [hshift w, Shift.restart] at hw
    split at hw
    · cases hw
    · exact absurd hw ‹_›
  · rw [hprinter p]
    simp [Printer.restart, Printer.start, Conditions.clear]
  · rw [hprinter p] at hx; cases hx

theorem State.startAs_restSound (kind : StartKind) (straps : Straps) : (s.startAs kind straps).RestSound := by
  cases kind with
  | cold => exact State.coldStart_restSound straps
  | warm => exact State.warmStart_restSound straps

/-! ## Commands that do not end a step -/

/-- A shift in a state other than DRAINING, its flag set. -/
theorem State.rests_flagShift {a : State} {w : Window} {f : Shift → Shift} {x : ShiftState}
    (h : (f a.shifts[w]).state = x) (hx : x ≠ .draining) : a.Rests ((a.modShift w f).flagShift w) :=
  (State.rests_modShift (h ▸ hx)).trans (State.rests_of_eq ⟨rfl, rfl, rfl, rfl, rfl⟩)

theorem execOpenShift_settles (port : Port) (tag : Tag) (body : List Byte) :
    s.Settles (execOpenShift port tag body s) :=
  windowCommand_settles fun _ _ ha => .need fun _ => .need fun _ =>
    .rests ha ((State.rests_flagShift (x := .opened) rfl (by simp)).accept ..)

theorem execReopenCount_settles (port : Port) (tag : Tag) (body : List Byte) :
    s.Settles (execReopenCount port tag body s) :=
  supervisorCommand_settles fun _ ha => .want fun _ _ => .need fun _ =>
    .rests ha (((State.rests_flagShift (x := .counting) rfl (by simp)).accept ..).send ..)

theorem execSignOff_settles (port : Port) (tag : Tag) (body : List Byte) : s.Settles (execSignOff port tag body s) :=
  supervisorCommand_settles fun _ ha => .want fun _ _ => .need fun _ => .need fun _ =>
    .rests ha (((State.rests_flagShift (x := .signedOff) rfl (by simp)).accept ..).send ..)

theorem execIssue_settles (port : Port) (tag : Tag) (body : List Byte) : s.Settles (execIssue port tag body s) :=
  windowCommand_settles fun w a ha => .bind fun _ hj =>
    .pure ((State.rests_send _ _ _).restSound (ha.queue (a.issueJob_queued w tag body _ hj)))

theorem execTestPrint_settles (port : Port) (tag : Tag) (body : List Byte) :
    s.Settles (execTestPrint port tag body s) :=
  supervisorCommand_settles fun _ ha => .want fun _ _ => .want fun _ _ => .need fun hoff => .need fun hready =>
    .need fun _ => .pure ((State.rests_send _ _ _).restSound (ha.await
      (beq_iff_eq.1 (Bool.and_eq_true_iff.1 hready).1) ((Bool.not_eq_true' _).mp hoff)))

/-- R30: the service state asks only whether a query or a load check is outstanding. -/
theorem Printer.restView_query {pr : Printer} {o : Option Attempt}
    (h : pr.query.isSome = o.isSome) : ({ pr with query := o } : Printer).restView = pr.restView := by
  unfold Printer.restView Printer.service
  rw [h]
  rfl

theorem Printer.restView_loadCheck {pr : Printer} {o : Option LoadCheck}
    (h : pr.loadCheck.isSome = o.isSome) : ({ pr with loadCheck := o } : Printer).restView = pr.restView := by
  unfold Printer.restView Printer.service
  rw [h]
  rfl

theorem execQueryTimer_settles (p : PrinterId) : s.Settles (execQueryTimer p s) := by
  cases hq : s.printers[p].query with
  | none => rw [execQueryTimer_none hq]; exact .next id
  | some attempt =>
    unfold execQueryTimer
    rw [hq]
    cases attempt with
    | first =>
      refine event_settles fun hs _ => State.Rests.restSound ?_ hs
      exact (State.rests_modPrinter (Printer.restView_query (congrArg Option.isSome hq))).trans
        (State.rests_sendLine ..)
    | second => exact event_settles_commit

theorem execLoadAnswerTimer_settles (p : PrinterId) : s.Settles (execLoadAnswerTimer p s) := by
  cases hc : s.printers[p].loadCheck with
  | none => rw [execLoadAnswerTimer_none hc]; exact .next id
  | some c =>
    unfold execLoadAnswerTimer
    rw [hc]
    refine event_settles fun hs _ => ?_
    split
    · refine State.Rests.restSound ?_ hs
      exact (State.rests_modPrinter (Printer.restView_loadCheck (congrArg Option.isSome hc))).trans
        (State.rests_sendLine ..)
    · exact State.commit_restSound _ _ _

theorem execUnloadAnswerTimer_settles (p : PrinterId) : s.Settles (execUnloadAnswerTimer p s) := by
  unfold execUnloadAnswerTimer
  split
  · refine event_settles fun hs _ => ?_
    split
    · refine State.Rests.restSound (.trans (State.rests_modPrinter ?_) (State.rests_sendLine ..)) hs
      rfl
    · exact State.commit_restSound _ _ _
  · exact event_never_settles

theorem execUnknownKind_settles (port : Port) (kind : Byte) (tag : Tag) :
    s.Settles (execUnknownKind port kind tag s) := by
  unfold execUnknownKind
  split
  · exact .fault _
  · refine .next fun hs => ?_
    split
    · exact ((s.rests_modPort port _).send ..).restSound hs
    · exact hs

theorem execFrameError_settles (port : Port) (cause : FramingFault) : s.Settles (execFrameError port cause s) := by
  unfold execFrameError
  split
  · exact .fault _
  · refine .next fun hs => ?_
    split
    · cases cause with
      | badStart b =>
        dsimp only
        split
        · exact State.framingFault_restSound _ _
        · exact hs
      | badLength l => exact State.framingFault_restSound _ _
      | badCheck kind tag body check => exact State.framingFault_restSound _ _
    · exact hs

theorem execLineBreak_settles (port : Port) : s.Settles (execLineBreak port s) :=
  event_settles fun hs _ => by
    cases port with
    | supervisor => exact (s.rests_modPort .supervisor _).restSound hs
    | window w => exact State.commit_restSound _ _ _

theorem execAttach_settles (port : Port) : s.Settles (execAttach port s) :=
  event_settles fun hs _ => by
    cases port with
    | supervisor => exact ((s.rests_modPort .supervisor _).send ..).restSound hs
    | window w => exact State.Rests.restSound (State.rests_of_eq ⟨rfl, rfl, rfl, rfl, rfl⟩) hs

theorem execPrinted_settles (p : PrinterId) (tag : Tag) (body : List Byte) : s.Settles (execPrinted p tag body s) :=
  printerFrame_settles fun b h => by
    dsimp only at h
    split at h
    · split at h
      · split at h <;> cases h <;> exact State.commit_restSound _ _ _
      · cases h
    · cases h

theorem execJammed_settles (p : PrinterId) (tag : Tag) (body : List Byte) : s.Settles (execJammed p tag body s) :=
  printerFrame_settles fun b h => by
    split at h
    · split at h
      · cases h; exact State.commit_restSound _ _ _
      · cases h
    · cases h

theorem execWithdrawn_settles (p : PrinterId) (tag : Tag) (body : List Byte) :
    s.Settles (execWithdrawn p tag body s) :=
  printerFrame_settles fun b h => by
    split at h
    · split at h
      · split at h
        · cases h; exact State.commit_restSound _ _ _
        · cases h
      · cases h; exact State.commit_restSound _ _ _
    · cases h

theorem execTooLate_settles (p : PrinterId) (tag : Tag) (body : List Byte) : s.Settles (execTooLate p tag body s) :=
  printerFrame_settles fun b h => by
    dsimp only at h
    split at h
    · split at h
      · split at h
        · cases h; exact State.commit_restSound _ _ _
        · cases h
      · cases h; exact State.commit_restSound _ _ _
    · cases h

theorem execPrinterFrameError_settles (p : PrinterId) (cause : FramingFault) :
    s.Settles (execPrinterFrameError p cause s) := by
  unfold execPrinterFrameError
  split
  · exact .fault _
  · exact event_settles_commit

theorem execPrinterUnknownKind_settles (p : PrinterId) (kind : Byte) : s.Settles (execPrinterUnknownKind p kind s) := by
  unfold execPrinterUnknownKind
  split
  · exact .fault _
  · exact event_settles_commit

theorem execLinkGap_settles (p : PrinterId) (cause : GapCause) : s.Settles (execLinkGap p cause s) := by
  unfold execLinkGap
  split
  · exact event_settles_commit
  · exact event_settles fun hs _ => (State.rests_modPrinter rfl).restSound hs
  · exact event_never_settles
  · exact event_never_settles

theorem execPrintTimer_settles (p : PrinterId) : s.Settles (execPrintTimer p s) := by
  unfold execPrintTimer
  split
  · exact event_settles_commit
  · exact event_never_settles

theorem execPauseTimer_settles (p : PrinterId) : s.Settles (execPauseTimer p s) := by
  unfold execPauseTimer
  split
  · exact event_settles_commit
  · exact event_never_settles

theorem execGrant_settles (p : PrinterId) : s.Settles (execGrant p s) :=
  event_settles fun hs _ => by
    split
    · exact State.commit_restSound _ _ _
    · exact hs

theorem execJobWait_settles (w : Window) (tag : Tag) : s.Settles (execJobWait w tag s) := by
  unfold execJobWait
  dsimp only
  split
  · exact event_settles_commit
  · exact event_never_settles

theorem execRouteWait_settles (w : Window) (tag : Tag) : s.Settles (execRouteWait w tag s) := by
  unfold execRouteWait
  dsimp only
  split
  · refine event_settles fun hs _ => State.Rests.restSound (State.rests_modJob ?_) hs
    exact fun _ => ⟨rfl, rfl⟩
  · exact event_never_settles

theorem State.stop_restSound {phase : Phase} (h : phase ≠ .running) : (s.stop phase).RestSound :=
  State.restSound_of_stopped h

theorem execResetAsserted_settles : s.Settles (execResetAsserted s) :=
  .next fun hs => by
    dsimp only
    split
    · exact State.stop_restSound (by simp)
    · exact State.Rests.restSound (State.rests_of_eq ⟨rfl, rfl, rfl, rfl, rfl⟩) hs

theorem execResetReleased_settles (straps : Straps) : s.Settles (execResetReleased straps s) :=
  .next fun hs => by
    dsimp only
    split
    · exact State.startAs_restSound _ _
    · exact State.Rests.restSound (State.rests_of_eq ⟨rfl, rfl, rfl, rfl, rfl⟩) hs
    · exact State.Rests.restSound (State.rests_of_eq ⟨rfl, rfl, rfl, rfl, rfl⟩) hs

theorem execPowerUp_settles (backupGood : Bool) (straps : Straps) : s.Settles (execPowerUp backupGood straps s) :=
  .next fun hs => by
    split
    · split
      · exact State.restSound_of_stopped (by simp)
      · exact State.startAs_restSound _ _
    · exact hs

theorem execPowerFail_settles : s.Settles (execPowerFail s) :=
  .next fun hs => by
    split
    · exact hs
    · exact State.stop_restSound (by simp)

/-! ## TOP -/

/-- Every TOP that is expected ends its step. -/
theorem State.takeTop_restSound {p : PrinterId} {n : Nat} {b : State} (h : s.takeTop p n = some b) : b.RestSound := by
  have hload (c : LoadCheck) (k : Pack) (t : Nat) : (s.topLoad p c k t).RestSound := by
    unfold State.topLoad
    split <;> exact State.commit_restSound _ _ _
  have hunload (c : UnloadCheck) (k : Pack) (t : Nat) : (s.topUnload p c k t).RestSound := by
    unfold State.topUnload
    split
    · exact State.commit_restSound _ _ _
    · split <;> exact State.commit_restSound _ _ _
  have hrecover (g : Range) (t : Nat) : (s.topRecover p g t).RestSound := by
    unfold State.topRecover
    split <;> exact State.commit_restSound _ _ _
  unfold State.takeTop at h
  dsimp only at h
  split at h
  · obtain ⟨k, -, rfl⟩ := Option.map_eq_some_iff.1 h
    exact hload _ _ _
  · split at h
    · obtain ⟨k, -, rfl⟩ := Option.map_eq_some_iff.1 h
      exact hunload _ _ _
    · split at h
      · obtain ⟨g, -, hg⟩ := Option.bind_eq_some_iff.1 h
        obtain ⟨k, -, rfl⟩ := Option.map_eq_some_iff.1 hg
        exact hrecover _ _
      · cases h

/-! ## The other commands of the ports -/

theorem execCancel_settles (port : Port) (tag : Tag) (body : List Byte) : s.Settles (execCancel port tag body s) :=
  windowCommand_settles fun _ _ _ => .need fun _ => .commit

theorem execVoid_settles (port : Port) (tag : Tag) (body : List Byte) : s.Settles (execVoid port tag body s) :=
  windowCommand_settles fun _ _ _ => .need fun _ => .want fun _ _ => .want fun _ _ => .want fun _ _ =>
    .need fun _ => .need fun _ => .need fun _ => .commit

theorem execRefund_settles (port : Port) (tag : Tag) (body : List Byte) : s.Settles (execRefund port tag body s) :=
  windowCommand_settles fun _ _ _ => .need fun _ => .need fun _ => .want fun _ _ => .want fun _ _ =>
    .need fun _ => .commit

theorem execCloseShift_settles (port : Port) (tag : Tag) (body : List Byte) :
    s.Settles (execCloseShift port tag body s) :=
  windowCommand_settles fun _ _ _ => .need fun _ => .commit

theorem execDeclare_settles (port : Port) (tag : Tag) (body : List Byte) :
    s.Settles (execDeclare port tag body s) :=
  windowCommand_settles fun _ _ _ => .need fun _ => .commit

theorem execQueryShift_settles (port : Port) (tag : Tag) (body : List Byte) :
    s.Settles (execQueryShift port tag body s) :=
  windowCommand_settles fun _ _ ha => .reply ha

theorem execReceivePack_settles (port : Port) (tag : Tag) (body : List Byte) :
    s.Settles (execReceivePack port tag body s) :=
  supervisorCommand_settles fun _ ha => .need fun _ => .want fun _ _ => .need fun _ => .need fun _ =>
    .need fun _ => .beside ha ⟨rfl, rfl, rfl, rfl, rfl⟩

theorem execLoadPack_settles (port : Port) (tag : Tag) (body : List Byte) :
    s.Settles (execLoadPack port tag body s) :=
  supervisorCommand_settles fun _ _ => .want fun _ _ => .want fun _ _ => .need fun _ => .need fun _ =>
    .need fun _ => .need fun _ => .commit

theorem execUnloadPack_settles (port : Port) (tag : Tag) (body : List Byte) :
    s.Settles (execUnloadPack port tag body s) :=
  supervisorCommand_settles fun _ _ => .want fun _ _ => .need fun _ => .need fun _ => .commit

theorem execForceUnload_settles (port : Port) (tag : Tag) (body : List Byte) :
    s.Settles (execForceUnload port tag body s) :=
  supervisorCommand_settles fun _ _ => .want fun _ _ => .need fun _ => .need fun _ => .commit

theorem execWriteOffPack_settles (port : Port) (tag : Tag) (body : List Byte) :
    s.Settles (execWriteOffPack port tag body s) :=
  supervisorCommand_settles fun _ _ => .want fun _ _ => .need fun _ => .need fun _ => .commit

theorem execRetirePack_settles (port : Port) (tag : Tag) (body : List Byte) :
    s.Settles (execRetirePack port tag body s) :=
  supervisorCommand_settles fun _ ha => .want fun _ _ => .need fun _ => .beside ha ⟨rfl, rfl, rfl, rfl, rfl⟩

theorem execReadPack_settles (port : Port) (tag : Tag) (body : List Byte) :
    s.Settles (execReadPack port tag body s) :=
  supervisorCommand_settles fun _ ha => .bind fun _ _ => .reply ha

theorem execSetService_settles (port : Port) (tag : Tag) (body : List Byte) :
    s.Settles (execSetService port tag body s) :=
  supervisorCommand_settles fun _ _ => .want fun _ _ => .need fun _ => .need fun _ => .commit

theorem execResetLine_settles (port : Port) (tag : Tag) (body : List Byte) :
    s.Settles (execResetLine port tag body s) :=
  supervisorCommand_settles fun _ _ => .want fun _ _ => .commit

theorem execResolveDispute_settles (port : Port) (tag : Tag) (body : List Byte) :
    s.Settles (execResolveDispute port tag body s) :=
  supervisorCommand_settles fun _ _ => .want fun _ _ => .need fun _ => .need fun _ => .want fun _ _ =>
    .need fun _ => .bind fun _ _ => .commit

theorem execReadSpoils_settles (port : Port) (tag : Tag) (body : List Byte) :
    s.Settles (execReadSpoils port tag body s) :=
  supervisorCommand_settles fun _ ha => .need fun _ => .reply ha

theorem execReadEntries_settles (port : Port) (tag : Tag) (body : List Byte) :
    s.Settles (execReadEntries port tag body s) :=
  supervisorCommand_settles fun _ ha => .need fun _ => .want fun _ _ => .need fun _ => .need fun _ => .reply ha

theorem execReadShift_settles (port : Port) (tag : Tag) (body : List Byte) :
    s.Settles (execReadShift port tag body s) :=
  supervisorCommand_settles fun _ ha => .want fun _ _ => .reply ha

theorem execOpenDay_settles (port : Port) (tag : Tag) (body : List Byte) :
    s.Settles (execOpenDay port tag body s) :=
  supervisorCommand_settles fun _ ha => .need fun _ => .beside ha ⟨rfl, rfl, rfl, rfl, rfl⟩

theorem execCloseDay_settles (port : Port) (tag : Tag) (body : List Byte) :
    s.Settles (execCloseDay port tag body s) :=
  supervisorCommand_settles fun _ _ => .need fun _ => .commit

theorem execNextFault_settles (port : Port) (tag : Tag) (body : List Byte) :
    s.Settles (execNextFault port tag body s) :=
  supervisorCommand_settles fun _ ha => .reply ha

theorem execReadFault_settles (port : Port) (tag : Tag) (body : List Byte) :
    s.Settles (execReadFault port tag body s) :=
  supervisorCommand_settles fun _ ha => .want fun _ _ => .reply ha

theorem execAckFault_settles (port : Port) (tag : Tag) (body : List Byte) :
    s.Settles (execAckFault port tag body s) :=
  supervisorCommand_settles fun _ ha => .want fun _ _ => .besideOutputs ha ⟨rfl, rfl, rfl, rfl, rfl⟩

theorem State.rests_clearFlags (s : State) : s.Rests s.clearFlags :=
  (State.rests_mapPrinters (f := fun _ pr => { pr with flags := .clear }) fun _ _ => rfl).trans
    (State.rests_of_eq ⟨rfl, rfl, rfl, rfl, rfl⟩)

theorem execReadChanges_settles (port : Port) (tag : Tag) (body : List Byte) :
    s.Settles (execReadChanges port tag body s) :=
  supervisorCommand_settles fun a ha => .rests ha ((a.rests_reply ..).trans (State.rests_clearFlags _))

theorem execSilenceAlarm_settles (port : Port) (tag : Tag) (body : List Byte) :
    s.Settles (execSilenceAlarm port tag body s) :=
  supervisorCommand_settles fun _ ha => .besideOutputs ha ⟨rfl, rfl, rfl, rfl, rfl⟩

theorem execSelectEntry_settles (port : Port) (tag : Tag) (body : List Byte) :
    s.Settles (execSelectEntry port tag body s) :=
  supervisorCommand_settles fun _ ha => .want fun _ _ => .beside ha ⟨rfl, rfl, rfl, rfl, rfl⟩

theorem execReadEntry_settles (port : Port) (tag : Tag) (body : List Byte) :
    s.Settles (execReadEntry port tag body s) :=
  supervisorCommand_settles fun _ ha => .reply ha

theorem execWriteEntry_settles (port : Port) (tag : Tag) (body : List Byte) :
    s.Settles (execWriteEntry port tag body s) :=
  supervisorCommand_settles fun _ _ => .bind fun _ _ => .commit

theorem execSetClock_settles (port : Port) (tag : Tag) (body : List Byte) :
    s.Settles (execSetClock port tag body s) :=
  supervisorCommand_settles fun _ ha => .need fun _ => .beside ha ⟨rfl, rfl, rfl, rfl, rfl⟩

theorem execReadOffice_settles (port : Port) (tag : Tag) (body : List Byte) :
    s.Settles (execReadOffice port tag body s) :=
  supervisorCommand_settles fun _ ha => .reply ha

/-! ## The other events -/

theorem execFrameGap_settles (port : Port) : s.Settles (execFrameGap port s) :=
  event_settles fun _ _ => State.framingFault_restSound port []

theorem execCapability_settles (p : PrinterId) (tag : Tag) (body : List Byte) :
    s.Settles (execCapability p tag body s) :=
  printerFrame_settles fun _ h => by cases h; exact State.commit_restSound _ _ _

theorem execStatus_settles (p : PrinterId) (tag : Tag) (body : List Byte) : s.Settles (execStatus p tag body s) :=
  printerFrame_settles fun _ h => by cases h; exact State.commit_restSound _ _ _

theorem execTop_settles (p : PrinterId) (tag : Tag) (body : List Byte) : s.Settles (execTop p tag body s) :=
  printerFrame_settles fun _ h => State.takeTop_restSound h

theorem execPrinterFrameGap_settles (p : PrinterId) : s.Settles (execPrinterFrameGap p s) :=
  event_settles_commit

theorem execIdleMark_settles (p : PrinterId) : s.Settles (execIdleMark p s) :=
  event_settles_commit

theorem execSettleTimer_settles (p : PrinterId) : s.Settles (execSettleTimer p s) :=
  event_settles_commit

theorem execSilenceTimer_settles (p : PrinterId) : s.Settles (execSilenceTimer p s) :=
  event_settles_commit

theorem execJabber_settles (p : PrinterId) : s.Settles (execJabber p s) :=
  event_settles_commit

theorem execJabberQuiet_settles (p : PrinterId) : s.Settles (execJabberQuiet p s) :=
  event_settles_commit

theorem execCapabilityWait_settles (p : PrinterId) : s.Settles (execCapabilityWait p s) :=
  event_settles_commit

theorem execWithdrawalTimer_settles (p : PrinterId) : s.Settles (execWithdrawalTimer p s) :=
  event_settles_commit

theorem execClockPulse_settles : s.Settles (execClockPulse s) :=
  .next fun hs => State.Rests.restSound (State.rests_of_eq ⟨rfl, rfl, rfl, rfl, rfl⟩) hs

theorem execAlarmIn_settles (active : Bool) : s.Settles (execAlarmIn active s) :=
  event_settles_commit

theorem execActivityPulse_settles (p : PrinterId) : s.Settles (execActivityPulse p s) :=
  event_settles fun hs _ => (State.rests_modPrinter rfl).restSound hs

theorem execFlash_settles (p : PrinterId) : s.Settles (execFlash p s) :=
  event_settles fun hs _ => (State.rests_modPrinter rfl).restSound hs

theorem execFrameSent_settles (port : Port) : s.Settles (execFrameSent port s) :=
  event_settles fun hs _ => (s.rests_modPort port _).restSound hs

/-! ## Every command, every step -/

theorem exec_settles (i : Instr) : s.Settles (exec i s) := by
  cases i with
  | openShift port tag body => exact execOpenShift_settles port tag body
  | issue port tag body => exact execIssue_settles port tag body
  | cancel port tag body => exact execCancel_settles port tag body
  | void port tag body => exact execVoid_settles port tag body
  | refund port tag body => exact execRefund_settles port tag body
  | closeShift port tag body => exact execCloseShift_settles port tag body
  | declare port tag body => exact execDeclare_settles port tag body
  | queryShift port tag body => exact execQueryShift_settles port tag body
  | receivePack port tag body => exact execReceivePack_settles port tag body
  | loadPack port tag body => exact execLoadPack_settles port tag body
  | unloadPack port tag body => exact execUnloadPack_settles port tag body
  | forceUnload port tag body => exact execForceUnload_settles port tag body
  | writeOffPack port tag body => exact execWriteOffPack_settles port tag body
  | retirePack port tag body => exact execRetirePack_settles port tag body
  | readPack port tag body => exact execReadPack_settles port tag body
  | testPrint port tag body => exact execTestPrint_settles port tag body
  | setService port tag body => exact execSetService_settles port tag body
  | resetLine port tag body => exact execResetLine_settles port tag body
  | resolveDispute port tag body => exact execResolveDispute_settles port tag body
  | readSpoils port tag body => exact execReadSpoils_settles port tag body
  | readEntries port tag body => exact execReadEntries_settles port tag body
  | readShift port tag body => exact execReadShift_settles port tag body
  | reopenCount port tag body => exact execReopenCount_settles port tag body
  | signOff port tag body => exact execSignOff_settles port tag body
  | openDay port tag body => exact execOpenDay_settles port tag body
  | closeDay port tag body => exact execCloseDay_settles port tag body
  | nextFault port tag body => exact execNextFault_settles port tag body
  | readFault port tag body => exact execReadFault_settles port tag body
  | ackFault port tag body => exact execAckFault_settles port tag body
  | readChanges port tag body => exact execReadChanges_settles port tag body
  | silenceAlarm port tag body => exact execSilenceAlarm_settles port tag body
  | selectEntry port tag body => exact execSelectEntry_settles port tag body
  | readEntry port tag body => exact execReadEntry_settles port tag body
  | writeEntry port tag body => exact execWriteEntry_settles port tag body
  | setClock port tag body => exact execSetClock_settles port tag body
  | readOffice port tag body => exact execReadOffice_settles port tag body
  | unknownKind port kind tag => exact execUnknownKind_settles port kind tag
  | frameError port cause => exact execFrameError_settles port cause
  | frameGap port => exact execFrameGap_settles port
  | lineBreak port => exact execLineBreak_settles port
  | attach port => exact execAttach_settles port
  | capability printer tag body => exact execCapability_settles printer tag body
  | status printer tag body => exact execStatus_settles printer tag body
  | printed printer tag body => exact execPrinted_settles printer tag body
  | jammed printer tag body => exact execJammed_settles printer tag body
  | withdrawn printer tag body => exact execWithdrawn_settles printer tag body
  | tooLate printer tag body => exact execTooLate_settles printer tag body
  | top printer tag body => exact execTop_settles printer tag body
  | printerFrameError printer cause => exact execPrinterFrameError_settles printer cause
  | printerFrameGap printer => exact execPrinterFrameGap_settles printer
  | idleMark printer => exact execIdleMark_settles printer
  | linkGap printer cause => exact execLinkGap_settles printer cause
  | settleTimer printer => exact execSettleTimer_settles printer
  | silenceTimer printer => exact execSilenceTimer_settles printer
  | jabber printer => exact execJabber_settles printer
  | jabberQuiet printer => exact execJabberQuiet_settles printer
  | capabilityWait printer => exact execCapabilityWait_settles printer
  | printTimer printer => exact execPrintTimer_settles printer
  | pauseTimer printer => exact execPauseTimer_settles printer
  | withdrawalTimer printer => exact execWithdrawalTimer_settles printer
  | queryTimer printer => exact execQueryTimer_settles printer
  | loadAnswerTimer printer => exact execLoadAnswerTimer_settles printer
  | unloadAnswerTimer printer => exact execUnloadAnswerTimer_settles printer
  | grant printer => exact execGrant_settles printer
  | jobWait window tag => exact execJobWait_settles window tag
  | routeWait window tag => exact execRouteWait_settles window tag
  | clockPulse => exact execClockPulse_settles
  | alarmIn active => exact execAlarmIn_settles active
  | activityPulse printer => exact execActivityPulse_settles printer
  | flash printer => exact execFlash_settles printer
  | resetAsserted => exact execResetAsserted_settles
  | resetReleased straps => exact execResetReleased_settles straps
  | powerUp backupGood straps => exact execPowerUp_settles backupGood straps
  | powerFail => exact execPowerFail_settles
  | printerUnknownKind printer kind => exact execPrinterUnknownKind_settles printer kind
  | frameSent port => exact execFrameSent_settles port

/-- Settles O14: a command that ends its step leaves everything settled, and any other changes nothing that could
want settling. -/
theorem stepLeavesAllSettled : Obligations.StepLeavesAllSettled := by
  intro s t hs h
  unfold step at h
  cases hp : s.pending with
  | nil =>
    rw [hp] at h
    cases h
    exact hs
  | cons c rest =>
    rw [hp] at h
    refine exec_settles c (State.Rests.restSound ?_ hs) t h
    exact State.rests_of_eq ⟨rfl, rfl, rfl, rfl, rfl⟩

end Sys2Proof.Machine
end

section
/-! The checks of R175 on a frame of a terminal port, and the lines that take none (O22); the service state (O39). -/

namespace Sys2Proof.Machine

variable {s : State}

/-! ## Taking a frame (R24, R171, R175, R185) -/

theorem State.listens_iff {port : Port} : s.listens port = true ↔ s.Hears port := by
  unfold State.listens State.running State.Hears
  rw [Bool.and_eq_true, beq_iff_eq]

theorem State.listens_eq_false {port : Port} (h : ¬s.Hears port) : s.listens port = false :=
  Bool.eq_false_iff.2 fun hl => h (State.listens_iff.1 hl)

theorem State.decodes_iff {p : PrinterId} : s.decodes p = true ↔ s.HearsPrinter p := by
  unfold State.decodes State.running State.HearsPrinter
  rw [Bool.and_eq_true, beq_iff_eq, beq_iff_eq]

theorem State.decodes_eq_false {p : PrinterId} (h : ¬s.HearsPrinter p) : s.decodes p = false :=
  Bool.eq_false_iff.2 fun hd => h (State.decodes_iff.1 hd)

theorem fits_eq_false {lo hi : Nat} {body : List Byte} (h : body.length < lo ∨ hi < body.length) :
    fits lo hi body = false := by
  unfold fits
  rw [Bool.eq_false_iff, Ne, Bool.and_eq_true, decide_eq_true_eq, decide_eq_true_eq]
  omega

/-- What R175 makes of a frame before its own command: nothing on a deaf port, PERMISSION on the wrong kind of
port, ENTRY_INVALID for a length that its layout does not have. -/
def State.ChecksFrame (s : State) (a : Answer) (f : FrameRow) : Prop :=
  (¬s.Hears f.port → a = .next s)
    ∧ (s.Hears f.port → (f.port = .supervisor ↔ f.supervisor = false) →
        a = .next (s.answered f.port (refusedFrame .permission f.kind f.tag)))
    ∧ (s.Hears f.port → (f.port = .supervisor ↔ f.supervisor = true) →
        f.body.length < f.lo ∨ f.hi < f.body.length →
        a = .next (s.answered f.port (refusedFrame .entryInvalid f.kind f.tag)))

theorem windowCommand_checksFrame {kind : Byte} {lo hi : Nat} {port : Port} {tag : Tag} {body : List Byte}
    {act : Window → State → Except Code State} :
    s.ChecksFrame (windowCommand kind lo hi port tag body s act) ⟨port, kind, tag, body, false, lo, hi⟩ := by
  refine ⟨fun hd => windowCommand_deaf (State.listens_eq_false hd), fun hh side => ?_, fun hh side hlen => ?_⟩
  · obtain rfl : port = .supervisor := side.2 rfl
    unfold windowCommand
    rw [if_pos hh.listens]
    exact congrArg _ (State.answer_error hh.listens)
  · cases port with
    | supervisor => exact absurd (side.1 rfl) Bool.false_ne_true
    | window w =>
      rw [windowCommand, if_pos hh.listens]
      dsimp only
      rw [fits_eq_false hlen, if_neg Bool.false_ne_true]
      exact congrArg _ (State.answer_error hh.listens)

theorem supervisorCommand_checksFrame {kind : Byte} {lo hi : Nat} {port : Port} {tag : Tag} {body : List Byte}
    {act : State → Except Code State} :
    s.ChecksFrame (supervisorCommand kind lo hi port tag body s act) ⟨port, kind, tag, body, true, lo, hi⟩ := by
  refine ⟨fun hd => supervisorCommand_deaf (State.listens_eq_false hd), fun hh side => ?_, fun hh side hlen => ?_⟩
  · cases port with
    | supervisor => exact absurd (side.1 rfl) (by simp)
    | window w =>
      unfold supervisorCommand
      rw [if_pos hh.listens]
      exact congrArg _ (State.answer_error hh.listens)
  · obtain rfl : port = .supervisor := side.2 rfl
    rw [supervisorCommand, if_pos hh.listens]
    dsimp only
    rw [fits_eq_false hlen, if_neg Bool.false_ne_true]
    exact congrArg _ (State.answer_error hh.listens)

/-- Every command of section 9.4 stands behind the checks of R175. -/
theorem exec_checksFrame {c : Instr} {f : FrameRow} (hf : s.frame c = some f) : s.ChecksFrame (exec c s) f := by
  cases c with
  | openShift port tag body =>
    cases hf
    exact (windowCommand_checksFrame : s.ChecksFrame (execOpenShift port tag body s) _)
  | issue port tag body =>
    cases hf
    exact (windowCommand_checksFrame : s.ChecksFrame (execIssue port tag body s) _)
  | cancel port tag body =>
    cases hf
    exact (windowCommand_checksFrame : s.ChecksFrame (execCancel port tag body s) _)
  | void port tag body =>
    cases hf
    exact (windowCommand_checksFrame : s.ChecksFrame (execVoid port tag body s) _)
  | refund port tag body =>
    cases hf
    exact (windowCommand_checksFrame : s.ChecksFrame (execRefund port tag body s) _)
  | closeShift port tag body =>
    cases hf
    exact (windowCommand_checksFrame : s.ChecksFrame (execCloseShift port tag body s) _)
  | declare port tag body =>
    cases hf
    exact (windowCommand_checksFrame : s.ChecksFrame (execDeclare port tag body s) _)
  | queryShift port tag body =>
    cases hf
    exact (windowCommand_checksFrame : s.ChecksFrame (execQueryShift port tag body s) _)
  | receivePack port tag body =>
    cases hf
    exact (supervisorCommand_checksFrame : s.ChecksFrame (execReceivePack port tag body s) _)
  | loadPack port tag body =>
    cases hf
    exact (supervisorCommand_checksFrame : s.ChecksFrame (execLoadPack port tag body s) _)
  | unloadPack port tag body =>
    cases hf
    exact (supervisorCommand_checksFrame : s.ChecksFrame (execUnloadPack port tag body s) _)
  | forceUnload port tag body =>
    cases hf
    exact (supervisorCommand_checksFrame : s.ChecksFrame (execForceUnload port tag body s) _)
  | writeOffPack port tag body =>
    cases hf
    exact (supervisorCommand_checksFrame : s.ChecksFrame (execWriteOffPack port tag body s) _)
  | retirePack port tag body =>
    cases hf
    exact (supervisorCommand_checksFrame : s.ChecksFrame (execRetirePack port tag body s) _)
  | readPack port tag body =>
    cases hf
    exact (supervisorCommand_checksFrame : s.ChecksFrame (execReadPack port tag body s) _)
  | testPrint port tag body =>
    cases hf
    exact (supervisorCommand_checksFrame : s.ChecksFrame (execTestPrint port tag body s) _)
  | setService port tag body =>
    cases hf
    exact (supervisorCommand_checksFrame : s.ChecksFrame (execSetService port tag body s) _)
  | resetLine port tag body =>
    cases hf
    exact (supervisorCommand_checksFrame : s.ChecksFrame (execResetLine port tag body s) _)
  | resolveDispute port tag body =>
    cases hf
    exact (supervisorCommand_checksFrame : s.ChecksFrame (execResolveDispute port tag body s) _)
  | readSpoils port tag body =>
    cases hf
    exact (supervisorCommand_checksFrame : s.ChecksFrame (execReadSpoils port tag body s) _)
  | readEntries port tag body =>
    cases hf
    exact (supervisorCommand_checksFrame : s.ChecksFrame (execReadEntries port tag body s) _)
  | readShift port tag body =>
    cases hf
    exact (supervisorCommand_checksFrame : s.ChecksFrame (execReadShift port tag body s) _)
  | reopenCount port tag body =>
    cases hf
    exact (supervisorCommand_checksFrame : s.ChecksFrame (execReopenCount port tag body s) _)
  | signOff port tag body =>
    cases hf
    exact (supervisorCommand_checksFrame : s.ChecksFrame (execSignOff port tag body s) _)
  | openDay port tag body =>
    cases hf
    exact (supervisorCommand_checksFrame : s.ChecksFrame (execOpenDay port tag body s) _)
  | closeDay port tag body =>
    cases hf
    exact (supervisorCommand_checksFrame : s.ChecksFrame (execCloseDay port tag body s) _)
  | nextFault port tag body =>
    cases hf
    exact (supervisorCommand_checksFrame : s.ChecksFrame (execNextFault port tag body s) _)
  | readFault port tag body =>
    cases hf
    exact (supervisorCommand_checksFrame : s.ChecksFrame (execReadFault port tag body s) _)
  | ackFault port tag body =>
    cases hf
    exact (supervisorCommand_checksFrame : s.ChecksFrame (execAckFault port tag body s) _)
  | readChanges port tag body =>
    cases hf
    exact (supervisorCommand_checksFrame : s.ChecksFrame (execReadChanges port tag body s) _)
  | silenceAlarm port tag body =>
    cases hf
    exact (supervisorCommand_checksFrame : s.ChecksFrame (execSilenceAlarm port tag body s) _)
  | selectEntry port tag body =>
    cases hf
    exact (supervisorCommand_checksFrame : s.ChecksFrame (execSelectEntry port tag body s) _)
  | readEntry port tag body =>
    cases hf
    exact (supervisorCommand_checksFrame : s.ChecksFrame (execReadEntry port tag body s) _)
  | writeEntry port tag body =>
    cases hf
    exact (supervisorCommand_checksFrame : s.ChecksFrame (execWriteEntry port tag body s) _)
  | setClock port tag body =>
    cases hf
    exact (supervisorCommand_checksFrame : s.ChecksFrame (execSetClock port tag body s) _)
  | readOffice port tag body =>
    cases hf
    exact (supervisorCommand_checksFrame : s.ChecksFrame (execReadOffice port tag body s) _)
  | _ => cases hf

theorem execUnknownKind_deaf {port : Port} {kind : Byte} {tag : Tag} (hk : commandKind kind = false)
    (h : ¬s.Hears port) : execUnknownKind port kind tag s = .next s := by
  unfold execUnknownKind
  rw [hk, if_neg Bool.false_ne_true, State.listens_eq_false h, if_neg Bool.false_ne_true]

theorem execUnknownKind_refuses {port : Port} {kind : Byte} {tag : Tag} (hk : commandKind kind = false)
    (h : s.Hears port) :
    execUnknownKind port kind tag s = .next (s.answered port (refusedFrame .unknownKind kind tag)) := by
  unfold execUnknownKind
  rw [hk, if_neg Bool.false_ne_true, if_pos h.listens]
  exact congrArg _ (State.sound_send h.listens _)

/-- Every frame of a printer stands behind the state of its link. -/
theorem exec_printerFrame {c : Instr} {p : PrinterId} {body : List Byte} {n : Nat}
    (hf : printerFrameOf c = some (p, body, n)) :
    ∃ act : State → Option State, exec c s = printerFrame p n body s act := by
  cases c with
  | capability _ tag _ =>
    cases hf
    exact ⟨_, show execCapability p tag body s = _ from rfl⟩
  | status _ tag _ =>
    cases hf
    exact ⟨_, show execStatus p tag body s = _ from rfl⟩
  | printed _ tag _ =>
    cases hf
    exact ⟨_, show execPrinted p tag body s = _ from rfl⟩
  | jammed _ tag _ =>
    cases hf
    exact ⟨_, show execJammed p tag body s = _ from rfl⟩
  | withdrawn _ tag _ =>
    cases hf
    exact ⟨_, show execWithdrawn p tag body s = _ from rfl⟩
  | tooLate _ tag _ =>
    cases hf
    exact ⟨_, show execTooLate p tag body s = _ from rfl⟩
  | top _ tag _ =>
    cases hf
    exact ⟨_, show execTop p tag body s = _ from rfl⟩
  | _ => cases hf

/-- Settles O22, by the two shells of the commands and the shell of the printers' frames. -/
theorem frameChecks : Obligations.FrameChecks := by
  refine ⟨fun c s f hf => exec_checksFrame hf, fun port kind tag s hk => ?_, fun c s p body n hf hd => ?_⟩
  · exact ⟨execUnknownKind_deaf hk, execUnknownKind_refuses hk⟩
  · obtain ⟨act, e⟩ := exec_printerFrame (s := s) hf
    rw [e]
    exact printerFrame_deaf (State.decodes_eq_false hd)

/-! ## The service state (R30) -/

/-- Settles O39, line by line of the table. -/
theorem serviceState : Obligations.ServiceState := by
  intro pr
  dsimp only
  unfold Printer.service
  have fault : (pr.conditions.coverOpen || pr.conditions.headFault || pr.conditions.jamPresent || pr.mismatch) = true
      ↔ (pr.conditions.coverOpen = true ∨ pr.conditions.headFault = true ∨ pr.conditions.jamPresent = true
        ∨ pr.mismatch = true) := by
    simp only [Bool.or_eq_true, or_assoc]
  refine ⟨fun hlink => if_pos hlink, fun hlink hwait => ?_, fun hlink hwait => ?_⟩
  all_goals rw [if_neg (not_not.2 hlink)]
  · exact if_pos hwait
  rw [hwait, if_neg Bool.false_ne_true]
  refine ⟨fun h => if_pos h, fun h => ?_⟩
  rw [h, if_neg Bool.false_ne_true]
  refine ⟨fun h => if_pos (Option.isSome_iff_ne_none.2 h), fun h => ?_⟩
  rw [h, Option.isSome_none, if_neg Bool.false_ne_true]
  refine ⟨fun h => if_pos h, fun h => ?_⟩
  rw [h, if_neg Bool.false_ne_true]
  refine ⟨fun h => if_pos h, fun h => ?_⟩
  rw [h, if_neg Bool.false_ne_true]
  refine ⟨fun h => if_pos (Option.isSome_iff_ne_none.2 h), fun h => ?_⟩
  rw [h, Option.isSome_none, if_neg Bool.false_ne_true]
  refine ⟨fun h => if_pos (fault.2 h), fun h => ?_⟩
  rw [if_neg (mt fault.1 h)]
  refine ⟨fun h => if_pos h, fun h => ?_⟩
  rw [h, if_neg Bool.false_ne_true]
  exact ⟨fun h => if_pos (Option.isNone_iff_eq_none.2 h), fun h => if_neg (mt Option.isNone_iff_eq_none.1 h)⟩

end Sys2Proof.Machine
end

section
/-! The frames that a printer line does not expect (R39, R182), and the events of its link (R24 to R26, R28). -/

namespace Sys2Proof.Machine

variable {s : State} {p : PrinterId}

/-! ## Unexpected frames (R39, R182) -/

theorem State.HearsPrinter.decodes (h : s.HearsPrinter p) : s.decodes p = true := State.decodes_iff.2 h

/-- An event of a line that is UP raises PROTOCOL. -/
theorem event_protocol (h : s.HearsPrinter p) :
    event s (s.printers[p].link == .up) (fun s => s.protocol p) = .next (s.protocol p) :=
  event_occurs h.1 (beq_iff_eq.2 h.2)

theorem execPrinterFrameError_genuine {cause : FramingFault} (h : s.HearsPrinter p) (hc : genuine cause true = true) :
    execPrinterFrameError p cause s = .next (s.protocol p) := by
  unfold execPrinterFrameError
  rw [hc, Bool.not_true, if_neg Bool.false_ne_true]
  exact event_protocol h

theorem execPrinterUnknownKind_unsent {kind : Byte} (h : s.HearsPrinter p) (hk : printerKind kind = false) :
    execPrinterUnknownKind p kind s = .next (s.protocol p) := by
  unfold execPrinterUnknownKind
  rw [hk, if_neg Bool.false_ne_true]
  exact event_protocol h

/-- A body that is not of its layout's length (R182). -/
theorem exec_printerFrame_length {c : Instr} {body : List Byte} {n : Nat} (h : s.HearsPrinter p)
    (hf : printerFrameOf c = some (p, body, n)) (hl : body.length ≠ n) : exec c s = .next (s.protocol p) := by
  obtain ⟨act, e⟩ := exec_printerFrame (s := s) hf
  rw [e]
  exact printerFrame_unexpected h.decodes (.inl hl)

/-- R39: no ticket stands in PRINTING for a frame to speak of, or its tag is not that slot's. -/
theorem unaddressed_cases {slot : Option Ticket} {tag : Tag} (hx : slot = none ∨ tag ≠ 1#8) :
    slot = none ∨ ∃ f, slot = some f ∧ tag ≠ slotTag false := by
  cases slot with
  | none => exact .inl rfl
  | some f => exact .inr ⟨f, rfl, hx.resolve_left (Option.some_ne_none f)⟩

theorem execPrinted_unexpected {tag : Tag} {body : List Byte} (h : s.HearsPrinter p)
    (hx : s.printers[p].printing = none ∨ tag ≠ 1#8) : execPrinted p tag body s = .next (s.protocol p) := by
  refine printerFrame_unexpected h.decodes (.inr ?_)
  obtain hp | ⟨f, hp, htag⟩ := unaddressed_cases hx
  · rw [hp]
  · rw [hp]
    exact if_neg htag

theorem execJammed_unexpected {tag : Tag} {body : List Byte} (h : s.HearsPrinter p)
    (hx : s.printers[p].printing = none ∨ tag ≠ 1#8) : execJammed p tag body s = .next (s.protocol p) := by
  refine printerFrame_unexpected h.decodes (.inr ?_)
  obtain hp | ⟨f, hp, htag⟩ := unaddressed_cases hx
  · rw [hp]
  · rw [hp]
    exact if_neg htag

/-- R38: WITHDRAWN and TOO_LATE answer a withdrawal outstanding, under the tag of STAGED. -/
theorem answersWithdrawal_eq_false {w : Bool} {tag : Tag} (hx : w = false ∨ tag ≠ 2#8) :
    ¬(w && tag == slotTag true) = true := by
  rw [Bool.and_eq_true, beq_iff_eq]
  rintro ⟨hw, htag⟩
  exact hx.elim (fun h => Bool.false_ne_true (h.symm.trans hw)) fun h => h htag

theorem execWithdrawn_unasked {tag : Tag} {body : List Byte} (h : s.HearsPrinter p)
    (hx : s.printers[p].withdrawal = false ∨ tag ≠ 2#8) : execWithdrawn p tag body s = .next (s.protocol p) :=
  printerFrame_unexpected h.decodes (.inr (if_neg (answersWithdrawal_eq_false hx)))

theorem execTooLate_unasked {tag : Tag} {body : List Byte} (h : s.HearsPrinter p)
    (hx : s.printers[p].withdrawal = false ∨ tag ≠ 2#8) : execTooLate p tag body s = .next (s.protocol p) :=
  printerFrame_unexpected h.decodes (.inr (if_neg (answersWithdrawal_eq_false hx)))

theorem execWithdrawn_otherSerial {tag : Tag} {body : List Byte} {f : Ticket} (h : s.HearsPrinter p)
    (hs : s.printers[p].staged = some f) (hn : f.serial ≠ num body 0 3) :
    execWithdrawn p tag body s = .next (s.protocol p) := by
  refine printerFrame_unexpected h.decodes (.inr ?_)
  rw [hs]
  dsimp only
  rw [if_neg hn, ite_self]

/-- R38: TOO_LATE for another serial, or with PRINTING occupied. -/
theorem execTooLate_misplaced {tag : Tag} {body : List Byte} {f : Ticket} (h : s.HearsPrinter p)
    (hs : s.printers[p].staged = some f) (hx : f.serial ≠ num body 0 3 ∨ s.printers[p].printing ≠ none) :
    execTooLate p tag body s = .next (s.protocol p) := by
  refine printerFrame_unexpected h.decodes (.inr ?_)
  have hnot : ¬(decide (f.serial = num body 0 3) && (s.printers[p]).printing.isNone) = true := by
    rw [Bool.and_eq_true, decide_eq_true_eq, Option.isNone_iff_eq_none]
    exact fun hc => hx.elim (fun hn => hn hc.1) fun hp => hp hc.2
  dsimp only
  rw [hs]
  dsimp only
  rw [if_neg hnot, ite_self]

theorem execTop_unasked {tag : Tag} {body : List Byte} (h : s.HearsPrinter p)
    (hl : s.printers[p].loadCheck = none) (hu : s.printers[p].unloadCheck = none)
    (hq : s.printers[p].query = none) : execTop p tag body s = .next (s.protocol p) := by
  refine printerFrame_unexpected h.decodes (.inr ?_)
  unfold State.takeTop
  dsimp only
  rw [hl, hu, hq]
  rfl

/-- Settles O54, frame by frame: each is ignored but for PROTOCOL. -/
theorem unexpectedPrinterFrames : Obligations.UnexpectedPrinterFrames := by
  intro s p c h hc
  refine settled_of_raising (w := s) ?_ rfl
  obtain ⟨cause, hg, rfl⟩ | rfl | ⟨kind, hk, rfl⟩ | ⟨body, n, hf, hl⟩ | ⟨tag, body, rfl | rfl, hx⟩
    | ⟨tag, body, rfl | rfl, hx⟩ | ⟨tag, n, f, hn, rfl | rfl, hs, hx⟩ | ⟨tag, n, f, rfl, hs, hx⟩
    | ⟨tag, body, rfl, hl, hu, hq⟩ := hc
  · exact execPrinterFrameError_genuine h hg
  · exact event_protocol h
  · exact execPrinterUnknownKind_unsent h hk
  · exact exec_printerFrame_length h hf hl
  · exact execPrinted_unexpected h hx
  · exact execJammed_unexpected h hx
  · exact execWithdrawn_unasked h hx
  · exact execTooLate_unasked h hx
  · exact execWithdrawn_otherSerial h hs (by rwa [num_be_only (by omega)])
  · exact execTooLate_misplaced h hs (.inl (by rwa [num_be_only (by omega)]))
  · exact execTooLate_misplaced h hs (.inr hx)
  · exact execTop_unasked (tag := tag) h hl hu hq

/-! ## The link (R24 to R26) -/

/-- An event that commits and raises nothing of its own. -/
theorem settled_of_step {a : Answer} {u w : State} (ha : a = .next (w.commit s [])) (e : w = u) :
    ∃ t, a = .next t ∧ State.Settled s u t [] := by
  obtain ⟨t, ht, hset, -⟩ := settled_of_event ha e
  exact ⟨t, ht, hset⟩

/-- An event of one link state passes in every other. -/
theorem event_otherLink {l : Link} {act : State → State} (h : s.printers[p].link ≠ l) :
    event s (s.printers[p].link == l) act = .next s :=
  event_passes (.inr (beq_eq_false_iff_ne.2 h))

theorem event_atLink {l : Link} {act : State → State} (hr : s.phase = .running) (h : s.printers[p].link = l) :
    event s (s.printers[p].link == l) act = .next (act s) :=
  event_occurs hr (beq_iff_eq.2 h)

theorem execIdleMark_down (hr : s.phase = .running) (h : s.printers[p].link = .down) :
    execIdleMark p s = .next ((s.modPrinter p fun pr => { pr with link := .settling }).commit s []) :=
  event_atLink hr h

theorem execSettleTimer_settling (hr : s.phase = .running) (h : s.printers[p].link = .settling) :
    execSettleTimer p s = .next (((s.modPrinter p fun pr =>
      { pr with link := .up, capabilityWait := true }).endCondition (.printer p) .linkLost).commit s []) :=
  event_atLink hr h

theorem execSilenceTimer_up (hr : s.phase = .running) (h : s.printers[p].link = .up) :
    execSilenceTimer p s = .next ((s.linkLoss p .down).commit s (s.linkLossReports p)) :=
  event_atLink hr h

theorem execJabber_up (hr : s.phase = .running) (h : s.printers[p].link = .up) :
    execJabber p s = .next ((s.linkLoss p .jabber).commit s (s.linkLossReports p)) :=
  event_atLink hr h

/-- R26: a printer whose line in JABBER has been quiet, its latch on or off. -/
def Printer.quietened (q : Printer) (latch : Bool) : Printer :=
  if latch = true then { q with quiet := true } else { q with link := .settling, quiet := false }

theorem execJabberQuiet_jabber (hr : s.phase = .running) (h : s.printers[p].link = .jabber) :
    execJabberQuiet p s
      = .next ((s.modPrinter p (·.quietened (s.limits.latches.getLsbD p.val))).commit s []) :=
  event_atLink hr h

theorem execLinkGap_settling {cause : GapCause} (hr : s.phase = .running) (h : s.printers[p].link = .settling) :
    execLinkGap p cause s = .next ((s.modPrinter p fun pr => { pr with link := .down }).commit s []) := by
  unfold execLinkGap
  rw [h]
  exact event_occurs hr rfl

/-- A gap in DOWN or UP is no event of the line (log 2). -/
theorem execLinkGap_passes {cause : GapCause} (h : s.printers[p].link = .down ∨ s.printers[p].link = .up) :
    execLinkGap p cause s = .next s := by
  unfold execLinkGap
  obtain h | h := h
  all_goals
    rw [h]
    exact event_passes (.inr rfl)

/-- R26: in JABBER a character restarts the measure of quiet, and silence does not (log 22). -/
theorem execLinkGap_character (hr : s.phase = .running) (h : s.printers[p].link = .jabber) :
    execLinkGap p .character s = .next (s.modPrinter p fun pr => { pr with quiet := false }) := by
  unfold execLinkGap
  rw [h]
  exact event_occurs hr rfl

theorem execLinkGap_silence (h : s.printers[p].link = .jabber) : execLinkGap p .silence s = .next s := by
  unfold execLinkGap
  rw [h]
  exact event_passes (.inr rfl)

/-- R24, R25: a link that settles, and the LINK_LOST that ends with it. -/
theorem State.settledUp_eq (s : State) (p : PrinterId) :
    (s.modPrinter p fun pr => { pr with link := .up, capabilityWait := true }).endCondition (.printer p) .linkLost
      = { s with
          printers := s.printers.set p { s.printers[p] with link := .up, capabilityWait := true }
          reports := s.reports.map fun r =>
            if r.source = .printer p ∧ r.kind = .linkLost ∧ r.state ≠ .cleared then
              { r with
                active := some false
                state := if r.state = .acknowledged then .cleared else r.state }
            else r } := by
  unfold State.endCondition
  simp only [Report.uncleared_iff]
  rfl

theorem State.linkLoss_link (s : State) (p : PrinterId) (link : Link) :
    (s.linkLoss p link).printers[p].link = link := by
  rw [State.linkLoss_eq]
  exact congrArg Printer.link ((vecGet_set ..).trans (if_pos rfl))

/-- R25: the reports of a link loss, LINK_LOST among them. -/
theorem State.linkLost_mem (s : State) (p : PrinterId) :
    { source := .printer p, kind := .linkLost } ∈ s.linkLossReports p :=
  List.mem_append_right _ (List.mem_singleton.2 rfl)

/-- The conditions of a printer that a step reports where they have come. -/
theorem printerCondition_mem {k : Kind} (hk : k ∈ [.jabber, .coverOpen, .headFault, .jam, .serialDispute]) :
    (Source.printer p, k) ∈ stateConditions := by
  refine List.mem_append_left _ (List.mem_flatten.2 ⟨_, List.mem_map.2 ⟨p, mem_allPrinters p, rfl⟩,
    List.mem_map.2 ⟨k, ?_, rfl⟩⟩)
  simp only [List.mem_cons, List.not_mem_nil, or_false] at hk ⊢
  tauto

/-- R26: a line that goes to JABBER has JABBER reported. -/
theorem State.jabber_told {told : List Occurrence} (h : s.printers[p].link = .up) :
    ((s.linkLoss p .jabber).commit s told).Told (.printer p) .jabber := by
  refine State.commit_condition _ (printerCondition_mem (k := .jabber) (by simp)) ?_ ?_
  · show (s.printers[p].link == .jabber) = false
    rw [h]
    rfl
  · show ((s.linkLoss p .jabber).printers[p].link == .jabber) = true
    rw [State.linkLoss_link]
    rfl

/-! ## The characters of a line (R24) -/

theorem lineBytes_eq (gap : Nat → Nat) (frames : List Frame) :
    lineBytes gap frames = ((List.range (frames.length + 1)).map fun i =>
      List.replicate (gap i) 0x96#8 ++ (frames[i]?).elim [] Frame.line).flatten := by
  have hframes : (frames.zipIdx.map fun x => List.replicate (gap x.2) Config.idleByte ++ x.1.line)
      = (List.range frames.length).map fun i =>
          List.replicate (gap i) 0x96#8 ++ (frames[i]?).elim [] Frame.line := by
    refine List.ext_getElem (by simp) fun i hi hi' => ?_
    have hlt : i < frames.length := by simpa using hi'
    simp [List.getElem?_eq_getElem hlt, Config.idleByte]
  unfold lineBytes
  rw [hframes, List.range_succ, List.map_append, List.flatten_append, List.map_singleton, List.flatten_singleton,
    List.getElem?_eq_none (Nat.le_refl _)]
  simp [Config.idleByte]

/-- Settles O55, link state by link state. -/
theorem linkEvents : Obligations.LinkEvents := by
  intro s p hr q becomes lost quietened
  refine ⟨fun h => ⟨settled_of_step (execIdleMark_down hr h) rfl, fun cause => execLinkGap_passes (.inl h)⟩,
    fun h => ⟨fun cause => settled_of_step (execLinkGap_settling hr h) rfl,
      settled_of_step (execSettleTimer_settling hr h) (s.settledUp_eq p)⟩,
    fun h => ⟨?_, ?_⟩,
    fun h => ⟨settled_of_step (execJabberQuiet_jabber hr h) rfl, execLinkGap_character hr h, execLinkGap_silence h⟩,
    fun h => (event_otherLink h : execIdleMark p s = _), fun h => (event_otherLink h : execSettleTimer p s = _),
    fun h => ⟨(event_otherLink h : execSilenceTimer p s = _), (event_otherLink h : execJabber p s = _)⟩,
    fun h => (event_otherLink h : execJabberQuiet p s = _), fun h cause => execLinkGap_passes (.inr h), ?_,
    fun gap => lineBytes_eq gap _⟩
  · obtain ⟨t, ht, hset, htold⟩ := settled_of_event (execSilenceTimer_up hr h) rfl
    exact ⟨t, ht, hset, htold _ (s.linkLost_mem p)⟩
  · refine ⟨_, execJabber_up hr h, State.commit_settled .., ?_, State.jabber_told h⟩
    exact State.commit_told _ (s.linkLost_mem p)
  · unfold State.lineIdle State.running
    rw [hr]
    rfl

end Sys2Proof.Machine
end

section
/-! STATUS (R31, R34, R37) and the capability of a printer, declared or taken as BASIC (R28, R29, R37, R41). -/

namespace Sys2Proof.Machine

variable {s : State} {p : PrinterId}

/-! ## Bytes -/

theorem num_byte_head (b : Byte) (after : List Byte) : num (b :: after) 0 1 = b.toNat := by
  simp [num]

theorem num_cons_succ (b : Byte) (after : List Byte) (off width : Nat) :
    num (b :: after) (off + 1) width = num after off width := by
  simp [num]

theorem toNat_bne_zero (b : Byte) : (b.toNat != 0) = (b != 0#8) := by
  rw [Bool.eq_iff_iff, bne_iff_ne, bne_iff_ne, Ne, Ne, ← BitVec.toNat_inj]
  rfl

theorem toNat_beq_zero (b : Byte) : (b.toNat == 0) = (b == 0#8) := by
  rw [Bool.eq_iff_iff, beq_iff_eq, beq_iff_eq, ← BitVec.toNat_inj]
  rfl

/-! ## The slots -/

theorem State.modPrinter_congr {f g : Printer → Printer} (h : f s.printers[p] = g s.printers[p]) :
    s.modPrinter p f = s.modPrinter p g := by
  unfold State.modPrinter
  rw [h]

theorem Printer.askWithdrawal_idle {pr : Printer} (h : pr.staged = none ∨ pr.withdrawal = true) :
    pr.askWithdrawal = pr := by
  unfold Printer.askWithdrawal
  cases hs : pr.staged with
  | none => rfl
  | some f =>
    have hw : pr.withdrawal = true := h.resolve_left (by rw [hs]; exact Option.some_ne_none f)
    exact if_pos hw

/-- R37: WITHDRAW sent, the withdrawal outstanding. -/
theorem Printer.askWithdrawal_sends {pr : Printer} {f : Ticket} (hs : pr.staged = some f)
    (hw : pr.withdrawal = false) :
    pr.askWithdrawal = { pr with withdrawal := true, sent := pr.sent ++ [withdrawFrame f.serial] } := by
  unfold Printer.askWithdrawal
  rw [hs]
  dsimp only
  rw [hw, if_neg Bool.false_ne_true]

theorem Printer.promote_none {pr : Printer} (h : pr.staged = none) : pr.promote = pr := by
  unfold Printer.promote
  rw [h]

theorem Printer.promote_some {pr : Printer} {f : Ticket} (h : pr.staged = some f) :
    pr.promote = { pr with printing := some f, staged := none, printTimer := true } := by
  unfold Printer.promote
  rw [h]

/-! ## STATUS (R31) -/

theorem conditionsOf_singleton (flags : Byte) : conditionsOf [flags] =
    { paused := flags.getLsbD 0, coverOpen := flags.getLsbD 1, headFault := flags.getLsbD 2
      jamPresent := flags.getLsbD 3 } := by
  unfold conditionsOf
  rw [num_byte_head]
  rfl

theorem execStatus_takes {tag : Tag} {flags : Byte} (h : s.HearsPrinter p) :
    execStatus p tag [flags] s
      = .next ((s.modPrinter p (·.takeStatus (conditionsOf [flags]))).commit s []) :=
  printerFrame_takes h.decodes rfl rfl

/-- R31: COVER_OPEN, HEAD_FAULT or JAM_PRESENT has come. -/
theorem Conditions.worsens_iff {old new : Conditions} : old.worsens new = true
    ↔ (old.coverOpen = false ∧ new.coverOpen = true) ∨ (old.headFault = false ∧ new.headFault = true)
      ∨ (old.jamPresent = false ∧ new.jamPresent = true) := by
  unfold Conditions.worsens
  simp only [Bool.or_eq_true, Bool.and_eq_true, Bool.not_eq_true', or_assoc]

/-- R34: PAUSED ends with PRINTING empty and no withdrawal outstanding. -/
def Printer.released (q : Printer) (c : Conditions) : Bool :=
  q.conditions.paused && !c.paused && q.printing.isNone && !q.withdrawal

theorem Printer.released_iff {q : Printer} {c : Conditions} : q.released c = true
    ↔ q.conditions.paused = true ∧ c.paused = false ∧ q.printing = none ∧ q.withdrawal = false := by
  unfold Printer.released
  simp only [Bool.and_eq_true, Bool.not_eq_true', Option.isNone_iff_eq_none, and_assoc]

/-- R31, R34: the flags replaced, and a promotion that waited on PAUSED made. -/
def Printer.flagged (q : Printer) (c : Conditions) : Printer :=
  if q.released c then ({ q with conditions := c } : Printer).promote else { q with conditions := c }

theorem Printer.takeStatus_eq (q : Printer) (c : Conditions) : q.takeStatus c =
    if q.conditions.worsens c then (q.flagged c).askWithdrawal else q.flagged c := rfl

theorem Printer.flagged_promotes {q : Printer} {c : Conditions} (h : q.released c = true) (hs : q.staged ≠ none) :
    q.flagged c = { q with conditions := c, printing := q.staged, staged := none, printTimer := true } := by
  obtain ⟨f, hf⟩ := Option.ne_none_iff_exists'.1 hs
  exact (if_pos h).trans ((Printer.promote_some (pr := { q with conditions := c }) hf).trans (by rw [hf]))

theorem Printer.flagged_keeps {q : Printer} {c : Conditions} (h : ¬(q.released c = true ∧ q.staged ≠ none)) :
    q.flagged c = { q with conditions := c } := by
  unfold Printer.flagged
  split
  · next hr => exact Printer.promote_none (not_not.1 fun hs => h ⟨hr, hs⟩)
  · rfl

theorem Printer.takeStatus_promotes {q : Printer} {c : Conditions} (h : q.released c = true) (hs : q.staged ≠ none) :
    q.takeStatus c = { q with conditions := c, printing := q.staged, staged := none, printTimer := true } := by
  rw [Printer.takeStatus_eq, Printer.flagged_promotes h hs, Printer.askWithdrawal_idle (.inl rfl), ite_self]

/-- R34: nothing is promoted. -/
theorem Printer.takeStatus_unreleased {q : Printer} {c : Conditions}
    (h : ¬(q.released c = true ∧ q.staged ≠ none)) :
    q.takeStatus c = if q.conditions.worsens c then ({ q with conditions := c } : Printer).askWithdrawal
      else { q with conditions := c } := by
  rw [Printer.takeStatus_eq, Printer.flagged_keeps h]

theorem Printer.takeStatus_keeps {q : Printer} {c : Conditions} (h : ¬(q.released c = true ∧ q.staged ≠ none))
    (hw : ¬(q.conditions.worsens c = true ∧ q.staged ≠ none ∧ q.withdrawal = false)) :
    q.takeStatus c = { q with conditions := c } := by
  rw [Printer.takeStatus_unreleased h]
  split
  · next hworse =>
    refine Printer.askWithdrawal_idle ?_
    by_contra hne
    rw [not_or, Bool.not_eq_true] at hne
    exact hw ⟨hworse, hne⟩
  · rfl

theorem Printer.takeStatus_withdraws {q : Printer} {c : Conditions} {f : Ticket}
    (h : ¬(q.released c = true ∧ q.staged ≠ none)) (hworse : q.conditions.worsens c = true)
    (hs : q.staged = some f) (hw : q.withdrawal = false) :
    q.takeStatus c
      = { q with conditions := c, withdrawal := true, sent := q.sent ++ [withdrawFrame f.serial] } := by
  rw [Printer.takeStatus_unreleased h, if_pos hworse]
  exact Printer.askWithdrawal_sends (f := f) hs hw

theorem Printer.askWithdrawal_conditions (pr : Printer) : pr.askWithdrawal.conditions = pr.conditions := by
  unfold Printer.askWithdrawal
  split
  · split <;> rfl
  · rfl

theorem Printer.takeStatus_conditions (q : Printer) (c : Conditions) : (q.takeStatus c).conditions = c := by
  by_cases h : q.released c = true ∧ q.staged ≠ none
  · rw [Printer.takeStatus_promotes h.1 h.2]
  · rw [Printer.takeStatus_unreleased h]
    split
    · exact Printer.askWithdrawal_conditions _
    · rfl

theorem State.takeStatus_conditions (s : State) (p : PrinterId) (c : Conditions) :
    (s.modPrinter p (·.takeStatus c)).printers[p].conditions = c := by
  rw [State.modPrinter_get, if_pos rfl]
  exact Printer.takeStatus_conditions ..

/-- R31: a fault flag that a STATUS brings is reported. -/
theorem State.takeStatus_told {c : Conditions} {k : Kind} {flag : Conditions → Bool}
    (hk : k ∈ [.jabber, .coverOpen, .headFault, .jam, .serialDispute])
    (hflag : ∀ x : State, x.conditionHolds (.printer p) k = flag x.printers[p].conditions)
    (hold : flag s.printers[p].conditions = false) (hnew : flag c = true) :
    ((s.modPrinter p (·.takeStatus c)).commit s []).Told (.printer p) k := by
  refine State.commit_condition _ (printerCondition_mem hk) ((hflag s).trans hold) ?_
  rw [hflag, State.takeStatus_conditions]
  exact hnew

/-- Settles O47: a promotion, a withdrawal asked for, or the flags alone. -/
theorem printerStatus : Obligations.PrinterStatus := by
  intro s p tag flags h q new promotes worse
  have hpromotes : promotes ↔ q.released new = true ∧ q.staged ≠ none := by
    rw [Printer.released_iff]
    simp only [promotes, and_assoc]
  have step : execStatus p tag [flags] s = .next ((s.modPrinter p (·.takeStatus new)).commit s []) := by
    rw [execStatus_takes h, conditionsOf_singleton]
  have settled {r : Printer} (e : q.takeStatus new = r) :
      State.Settled s { s with printers := s.printers.set p r }
        ((s.modPrinter p (·.takeStatus new)).commit s []) [] := by
    subst e
    exact State.commit_settled ..
  refine ⟨_, step, fun hpr => ?_, fun hpr hw => ?_, fun f hpr hw hs ho => ?_, fun ho hn => ?_, fun ho hn => ?_,
    fun ho hn => ?_⟩
  · obtain ⟨hr, hs⟩ := hpromotes.1 hpr
    exact settled (Printer.takeStatus_promotes hr hs)
  · refine settled (Printer.takeStatus_keeps (mt hpromotes.2 hpr) ?_)
    rwa [Conditions.worsens_iff]
  · exact settled (Printer.takeStatus_withdraws (mt hpromotes.2 hpr) (Conditions.worsens_iff.2 hw) hs ho)
  · exact State.takeStatus_told (flag := (·.coverOpen)) (by simp) (fun _ => rfl) ho hn
  · exact State.takeStatus_told (flag := (·.headFault)) (by simp) (fun _ => rfl) ho hn
  · exact State.takeStatus_told (flag := (·.jamPresent)) (by simp) (fun _ => rfl) ho hn

/-! ## The capability (R28, R29) -/

theorem capabilityOf_declared {types limit staging : Byte} {model : Nat} (hm : model < 65536) :
    capabilityOf ([types, limit, staging] ++ be 2 model)
      = ⟨types.setWidth 4, max 64 (min 200 limit.toNat), staging != 0#8, model, false⟩ := by
  unfold capabilityOf clamp
  simp only [List.cons_append, List.nil_append]
  rw [num_byte_head, num_cons_succ, num_byte_head, num_cons_succ, num_cons_succ, num_byte_head, num_cons_succ,
    num_cons_succ, num_cons_succ, num_be_only (by omega), toNat_bne_zero]
  rfl

/-- R28, R41: a wait for the capability ends with a range to recover. -/
def Printer.recovers (q : Printer) : Bool := q.capabilityWait && q.range.any (!·.disputed)

theorem Printer.recovers_iff {q : Printer} : q.recovers = true
    ↔ q.capabilityWait = true ∧ ∃ g, q.range = some g ∧ g.disputed = false := by
  unfold Printer.recovers
  simp only [Bool.and_eq_true, Option.any_eq_true, Bool.not_eq_true']

/-- R37: what goes on the line to withdraw the staged ticket. -/
def Printer.withdrawals (q : Printer) (asked : Bool) : List Frame :=
  match q.staged with
  | some f => if asked = true ∧ q.withdrawal = false then [⟨0x41#8, 2#8, be 3 f.serial⟩] else []
  | none => []

/-- R28, R29, R37, R41: a printer whose capability has become known. -/
def Printer.declared (q : Printer) (got : Capability) (missing : Bool) : Printer :=
  { q with
    capability := some got, capabilityWait := false, mismatch := missing
    withdrawal := q.withdrawal || (missing && q.staged.isSome)
    query := if q.recovers then some .first else q.query
    sent := q.sent ++ q.withdrawals missing ++ if q.recovers then [⟨0x42#8, 0#8, []⟩] else [] }

theorem Printer.withdrawals_unasked (q : Printer) : q.withdrawals false = [] := by
  unfold Printer.withdrawals
  cases q.staged <;> simp

theorem Printer.withdrawals_idle {q : Printer} {asked : Bool} (h : q.staged = none ∨ q.withdrawal = true) :
    q.withdrawals asked = [] := by
  unfold Printer.withdrawals
  obtain h | h := h
  · rw [h]
  · cases q.staged <;> simp [h]

theorem Printer.withdrawals_some {q : Printer} {f : Ticket} (hs : q.staged = some f) (hw : q.withdrawal = false) :
    q.withdrawals true = [withdrawFrame f.serial] := by
  unfold Printer.withdrawals
  rw [hs]
  exact if_pos ⟨rfl, hw⟩

theorem Printer.askWithdrawal_eq (q : Printer) : q.askWithdrawal = { q with
    withdrawal := q.withdrawal || q.staged.isSome, sent := q.sent ++ q.withdrawals true } := by
  by_cases h : q.staged = none ∨ q.withdrawal = true
  · have hw : (q.withdrawal || q.staged.isSome) = q.withdrawal := by obtain h | h := h <;> simp [h]
    rw [Printer.askWithdrawal_idle h, Printer.withdrawals_idle h, hw, List.append_nil]
  · rw [not_or, Bool.not_eq_true] at h
    obtain ⟨f, hs⟩ := Option.ne_none_iff_exists'.1 h.1
    have hw : (q.withdrawal || q.staged.isSome) = true := by simp [hs]
    rw [Printer.askWithdrawal_sends hs h.2, Printer.withdrawals_some hs h.2, hw]

/-- R29, R37: the mismatch set or cleared, with the withdrawal a mismatch asks for. -/
def Printer.compared (q : Printer) (missing : Bool) : Printer :=
  if missing then { q with mismatch := true }.askWithdrawal else { q with mismatch := false }

theorem Printer.compared_eq (q : Printer) (missing : Bool) : q.compared missing = { q with
    mismatch := missing
    withdrawal := q.withdrawal || (missing && q.staged.isSome)
    sent := q.sent ++ q.withdrawals missing } := by
  cases missing with
  | false =>
    rw [Printer.withdrawals_unasked, Bool.false_and, Bool.or_false, List.append_nil]
    rfl
  | true => exact Printer.askWithdrawal_eq { q with mismatch := true }

theorem Printer.recoverIfDue_eq (q : Printer) : q.recoverIfDue = { q with
    query := if q.range.any (!·.disputed) then some .first else q.query
    sent := q.sent ++ if q.range.any (!·.disputed) then [⟨0x42#8, 0#8, []⟩] else [] } := by
  unfold Printer.recoverIfDue
  split
  · rfl
  · rw [List.append_nil]

/-- The steps of a capability, in their order, leave the printer `Printer.declared`. -/
theorem Printer.declared_of_wait {q : Printer} {got : Capability} {missing : Bool} (h : q.capabilityWait = true) :
    (({ q with capabilityWait := false, capability := some got } : Printer).compared missing).recoverIfDue
      = q.declared got missing := by
  rw [Printer.compared_eq, Printer.recoverIfDue_eq]
  unfold Printer.declared Printer.recovers
  rw [h, Bool.true_and]
  rfl

theorem Printer.declared_of_known {q : Printer} {got : Capability} {missing : Bool} (h : q.capabilityWait = false) :
    (({ q with capability := some got } : Printer).compared missing) = q.declared got missing := by
  rw [Printer.compared_eq]
  unfold Printer.declared Printer.recovers
  rw [h, Bool.false_and, if_neg Bool.false_ne_true, if_neg Bool.false_ne_true, List.append_nil]
  unfold Printer.withdrawals
  dsimp only

/-- R29: the loaded pack's type is not one the capability has. -/
def State.lacksType (s : State) (p : PrinterId) (got : Capability) : Bool :=
  (s.loadedPack p).any fun k => !got.types.getLsbD k.stock.val

theorem State.compareCapability_compared (s : State) (p : PrinterId) :
    s.compareCapability p = s.modPrinter p (·.compared (s.mismatches p)) := rfl

/-- A printer that knows its capability, and nothing else, decides what its loaded pack lacks. -/
theorem State.mismatches_modPrinter {f : Printer → Printer} {got : Capability}
    (h : ∀ q, (f q).loaded = q.loaded ∧ (f q).capability = some got) :
    (s.modPrinter p f).mismatches p = s.lacksType p got := by
  obtain ⟨hl, hc⟩ := h s.printers[p]
  unfold State.mismatches State.lacksType State.loadedPack
  rw [State.modPrinter_get, if_pos rfl, hl, hc]
  rfl

theorem State.endCapabilityWait_eq {got : Capability} (h : s.printers[p].capabilityWait = true) :
    s.endCapabilityWait p got = s.modPrinter p (·.declared got (s.lacksType p got)) := by
  unfold State.endCapabilityWait
  rw [State.compareCapability_compared, State.mismatches_modPrinter (got := got) (by exact fun _ => ⟨rfl, rfl⟩),
    State.modPrinter_modPrinter, State.modPrinter_modPrinter]
  exact State.modPrinter_congr (Printer.declared_of_wait h)

theorem State.declare_known {got : Capability} (h : s.printers[p].capabilityWait = false) :
    (s.modPrinter p fun pr => { pr with capability := some got }).compareCapability p
      = s.modPrinter p (·.declared got (s.lacksType p got)) := by
  rw [State.compareCapability_compared, State.mismatches_modPrinter (got := got) (by exact fun _ => ⟨rfl, rfl⟩),
    State.modPrinter_modPrinter]
  exact State.modPrinter_congr (Printer.declared_of_known h)

/-- R29: a missing type is reported with the pack. -/
theorem State.declared_mismatchReport (s : State) (p : PrinterId) (got : Capability) (missing : Bool) :
    (s.modPrinter p (·.declared got missing)).mismatchReport p = if s.lacksType p got then
      [{ source := .printer p, kind := .protocol, pack := s.printers[p].loaded }] else [] := by
  unfold State.mismatchReport
  rw [State.mismatches_modPrinter (got := got) (by exact fun _ => ⟨rfl, rfl⟩), State.modPrinter_get, if_pos rfl]
  rfl

theorem execCapability_takes {tag : Tag} {body : List Byte} (h : s.HearsPrinter p) (hl : body.length = 5) :
    execCapability p tag body s
      = .next ((s.modPrinter p (·.declared (capabilityOf body) (s.lacksType p (capabilityOf body)))).commit s
          (if s.lacksType p (capabilityOf body) then
            [{ source := .printer p, kind := .protocol, pack := s.printers[p].loaded }] else [])) := by
  refine printerFrame_takes h.decodes hl (congrArg some ?_)
  cases hw : s.printers[p].capabilityWait with
  | true => rw [if_pos rfl, State.endCapabilityWait_eq hw, State.declared_mismatchReport]
  | false => rw [if_neg Bool.false_ne_true, State.declare_known hw, State.declared_mismatchReport]

theorem execCapabilityWait_ends (h : s.HearsPrinter p) (hw : s.printers[p].capabilityWait = true) :
    execCapabilityWait p s
      = .next ((s.modPrinter p (·.declared .asBasic (s.lacksType p .asBasic))).commit s
          ({ source := .printer p, kind := .capabilityBasic } :: if s.lacksType p .asBasic then
            [{ source := .printer p, kind := .protocol, pack := s.printers[p].loaded }] else [])) := by
  have hoccurs : (s.printers[p].link == .up && s.printers[p].capabilityWait) = true := by
    rw [h.2, hw]
    rfl
  refine (event_occurs h.1 hoccurs).trans ?_
  dsimp only
  rw [State.endCapabilityWait_eq hw, State.declared_mismatchReport]

/-- CAPABILITY or the end of the wait: the printer declared, and what is raised. -/
theorem exec_capability {c : Instr} {got : Capability} (h : s.HearsPrinter p)
    (hc : (∃ (tag : Tag) (types limit staging : Byte) (model : Nat), model < 65536
          ∧ c = .capability p tag ([types, limit, staging] ++ be 2 model)
          ∧ got = ⟨types.setWidth 4, max 64 (min 200 limit.toNat), staging != 0#8, model, false⟩)
      ∨ c = .capabilityWait p ∧ s.printers[p].capabilityWait = true ∧ got = ⟨1#4, 120, false, 0, true⟩) :
    exec c s = .next ((s.modPrinter p (·.declared got (s.lacksType p got))).commit s
      ((if c = .capabilityWait p then [{ source := .printer p, kind := .capabilityBasic }] else [])
        ++ if s.lacksType p got then
          [{ source := .printer p, kind := .protocol, pack := s.printers[p].loaded }] else [])) := by
  obtain ⟨tag, types, limit, staging, model, hm, rfl, rfl⟩ | ⟨rfl, hw, rfl⟩ := hc
  · rw [if_neg (by simp), List.nil_append, ← capabilityOf_declared hm]
    exact execCapability_takes (tag := tag) h (by simp)
  · rw [if_pos rfl]
    exact execCapabilityWait_ends h hw

/-- R29, R41: what goes on the line is in the order of the withdrawal and the query. -/
theorem Printer.declared_sent (q : Printer) (got : Capability) (missing : Bool) {recovers : Prop} [Decidable recovers]
    (hr : q.recovers = true ↔ recovers) :
    (q.declared got missing).sent = q.sent ++ q.withdrawals missing
      ++ (if (q.declared got missing).query = q.query ∧ ¬recovers then [] else [⟨0x42#8, 0#8, []⟩]) := by
  unfold Printer.declared
  dsimp only
  by_cases h : recovers
  · rw [if_pos (hr.2 h), if_neg fun hc => hc.2 h]
  · rw [if_neg (mt hr.1 h), if_pos ⟨if_neg (mt hr.1 h), h⟩]

/-- Settles O48, by the printer as its capability leaves it. -/
theorem printerCapability : Obligations.PrinterCapability := by
  intro s p c got h hc q missing recovers
  have hrec : q.recovers = true ↔ recovers := Printer.recovers_iff
  have step := exec_capability h hc
  obtain ⟨t, ht, hset, htold⟩ := settled_of_event step rfl
  refine ⟨t, q.declared got missing, ht, hset, rfl, rfl, rfl, ?_, fun hr => ?_, fun hr => ?_, ?_, rfl,
    fun (hm : s.lacksType p got = true) => ?_, fun hw => ?_⟩
  · simp [Printer.declared, Option.isSome_iff_ne_none]
  · exact if_pos (hrec.2 hr)
  · exact if_neg (mt hrec.1 hr)
  · exact q.declared_sent got missing hrec
  · exact htold { source := .printer p, kind := .protocol, pack := q.loaded }
      (List.mem_append_right _ (by rw [if_pos hm]; exact List.mem_singleton.2 rfl))
  · exact htold { source := .printer p, kind := .capabilityBasic }
      (List.mem_append_left _ (by rw [if_pos hw]; exact List.mem_singleton.2 rfl))

end Sys2Proof.Machine
end

section
/-! Withdrawals (R36, R38): WITHDRAWN, TOO_LATE, the withdrawal timer and the pause timer. -/

namespace Sys2Proof.Machine

variable {s : State} {p : PrinterId} {f : Ticket}

theorem State.modPrinter_eq_set {g : Printer → Printer} {r : Printer} (h : g s.printers[p] = r) :
    s.modPrinter p g = { s with printers := s.printers.set p r } := by
  subst h
  rfl

theorem State.modPrinter_modShift (g : Printer → Printer) (w : Window) (h : Shift → Shift) :
    (s.modPrinter p g).modShift w h = (s.modShift w h).modPrinter p g := rfl

theorem State.send_modPrinter (port : Port) (frames : List Frame) (g : Printer → Printer) :
    (s.send port frames).modPrinter p g = (s.modPrinter p g).send port frames := by
  cases port <;> rfl

/-! ## What the end of a ticket leaves (R61, R87, R118) -/

theorem State.releaseTicket_job {ref : JobRef} (h : f.owner = some ref) :
    s.releaseTicket f = s.modShift ref.window (·.release f.reserved) := by
  unfold State.releaseTicket
  rw [h]

theorem State.releaseTicket_test (h : f.owner = none) : s.releaseTicket f = s := by
  unfold State.releaseTicket
  rw [h]

/-- R61: a job that backs off is no longer the holder. -/
def Arbiter.without (a : Arbiter) (ref : JobRef) : Arbiter :=
  if a.holder = some ref then { a with holder := none } else a

theorem State.backOff_job (s : State) (p : PrinterId) (ref : JobRef) :
    s.backOff p (some ref) = s.modPrinter p fun pr => { pr with arbiter := pr.arbiter.without ref } := by
  refine State.modPrinter_congr ?_
  dsimp only
  unfold Arbiter.without
  by_cases hh : s.printers[p].arbiter.holder = some ref
  · rw [if_pos hh, if_pos (by rw [Option.isSome_some, Bool.true_and, beq_iff_eq]; exact hh)]
  · rw [if_neg hh, if_neg (by rw [Option.isSome_some, Bool.true_and, beq_iff_eq]; exact hh)]

theorem State.backOff_test (s : State) (p : PrinterId) : s.backOff p none = s := State.modPrinter_id ..

theorem State.ticketEnds_job {ref : JobRef} {o : TicketOutcome} {x : TestOutcome} (h : f.owner = some ref) :
    s.ticketEnds p f o x = s.send (.window ref.window) [ticketReport ref.tag p f o] := by
  unfold State.ticketEnds
  rw [h]

theorem State.ticketEnds_test {x : TestPrint} {o : TicketOutcome} {u : TestOutcome} (h : f.owner = none)
    (hx : s.printers[p].test = some x) :
    s.ticketEnds p f o u
      = (s.modPrinter p fun pr => { pr with test := none }).send .supervisor [testDone x.tag p (some f) u] := by
  unfold State.ticketEnds
  rw [h, hx]

/-! ## WITHDRAWN (R38) -/

theorem execWithdrawn_takes (h : s.HearsPrinter p) (hw : s.printers[p].withdrawal = true)
    (hs : s.printers[p].staged = some f) (hf : f.serial < 2 ^ 24) :
    execWithdrawn p 2#8 (be 3 f.serial) s = .next ((s.withdrawStaged p f).commit s []) := by
  refine printerFrame_takes h.decodes (be_length ..) ?_
  rw [hw, hs, num_be_only (by omega)]
  exact (if_pos rfl).trans (if_pos rfl)

/-- With nothing staged, an answer just ends the withdrawal (log 28). -/
theorem execWithdrawn_empty {n : Nat} (h : s.HearsPrinter p) (hw : s.printers[p].withdrawal = true)
    (hs : s.printers[p].staged = none) :
    execWithdrawn p 2#8 (be 3 n) s
      = .next ((s.modPrinter p fun pr => { pr with withdrawal := false }).commit s []) := by
  refine printerFrame_takes h.decodes (be_length ..) ?_
  rw [hw, hs]
  rfl

/-- R38, R61: the printer a job's staged ticket is withdrawn from. -/
def Printer.withdrawn (q : Printer) (ref : JobRef) : Printer :=
  { q with staged := none, withdrawal := false, arbiter := q.arbiter.without ref }

theorem State.withdrawStaged_job {ref : JobRef} (h : f.owner = some ref) :
    s.withdrawStaged p f = (((s.returnBlank f.pack f.serial).modShift ref.window (·.release f.reserved)).modPrinter p
      (·.withdrawn ref)).send (.window ref.window) [ticketReport ref.tag p f .withdrawn] := by
  unfold State.withdrawStaged
  rw [State.modPrinter_returnBlank, State.releaseTicket_job h, State.modPrinter_modShift, h, State.backOff_job,
    State.modPrinter_modPrinter, State.ticketEnds_job h]
  rfl

theorem State.withdrawStaged_test {x : TestPrint} (h : f.owner = none) (hx : s.printers[p].test = some x) :
    s.withdrawStaged p f = ((s.returnBlank f.pack f.serial).modPrinter p fun pr =>
      { pr with staged := none, withdrawal := false, test := none }).send .supervisor
        [testDone x.tag p (some f) .withdrawn] := by
  unfold State.withdrawStaged
  rw [State.modPrinter_returnBlank, State.releaseTicket_test h, h, State.backOff_test,
    State.ticketEnds_test (x := x) h, State.modPrinter_modPrinter]
  · rfl
  · rw [State.modPrinter_get, if_pos rfl]
    exact hx

/-! ## TOO_LATE and the withdrawal timer (R38) -/

theorem Printer.endWithdrawal_some {q : Printer} (hs : q.staged = some f) :
    q.endWithdrawal = if q.printing = none then
        { q with withdrawal := false, printing := some f, staged := none, printTimer := true }
      else { q with withdrawal := false } := by
  have hpromote := Printer.promote_some (pr := { q with withdrawal := false }) hs
  split
  · next hp => exact (if_pos (Option.isNone_iff_eq_none.2 hp)).trans hpromote
  · next hp => exact if_neg (mt Option.isNone_iff_eq_none.1 hp)

theorem Printer.endWithdrawal_none {q : Printer} (hs : q.staged = none) :
    q.endWithdrawal = { q with withdrawal := false } := by
  unfold Printer.endWithdrawal
  dsimp only
  rw [Printer.promote_none (pr := { q with withdrawal := false }) hs, ite_self]

theorem execTooLate_takes (h : s.HearsPrinter p) (hw : s.printers[p].withdrawal = true)
    (hs : s.printers[p].staged = some f) (hf : f.serial < 2 ^ 24) (hp : s.printers[p].printing = none) :
    execTooLate p 2#8 (be 3 f.serial) s = .next ((s.modPrinter p (·.endWithdrawal)).commit s []) := by
  refine printerFrame_takes h.decodes (be_length ..) ?_
  dsimp only
  rw [hw, hs, hp, num_be_only (by omega)]
  exact (if_pos rfl).trans (if_pos (by simp))

theorem execTooLate_empty {n : Nat} (h : s.HearsPrinter p) (hw : s.printers[p].withdrawal = true)
    (hs : s.printers[p].staged = none) :
    execTooLate p 2#8 (be 3 n) s
      = .next ((s.modPrinter p fun pr => { pr with withdrawal := false }).commit s []) := by
  refine printerFrame_takes h.decodes (be_length ..) ?_
  dsimp only
  rw [hw, hs]
  rfl

theorem execWithdrawalTimer_expires (hr : s.phase = .running) (hw : s.printers[p].withdrawal = true) :
    execWithdrawalTimer p s = .next ((s.modPrinter p (·.endWithdrawal)).commit s []) :=
  event_occurs hr hw

/-! ## The pause timer (R36) -/

theorem execPauseTimer_expires (hr : s.phase = .running) (hs : s.printers[p].staged = some f)
    (ht : s.printers[p].pauseTimer ≠ none) :
    execPauseTimer p s = .next
      ((s.modPrinter p fun pr => { pr with pauseTimer := none }.askWithdrawal).commit s
        [{ source := .printer p, kind := .pauseTimeout, serial := some f.serial
           window := f.owner.map (·.window) }]) := by
  unfold execPauseTimer
  rw [hs]
  exact event_occurs hr (Option.isSome_iff_ne_none.2 ht)

theorem execPauseTimer_stopped (h : s.printers[p].staged = none ∨ s.printers[p].pauseTimer = none) :
    execPauseTimer p s = .next s := by
  unfold execPauseTimer
  cases hs : s.printers[p].staged with
  | none => exact event_passes (.inr rfl)
  | some f =>
    have ht : s.printers[p].pauseTimer = none := h.resolve_left (by rw [hs]; exact Option.some_ne_none f)
    exact event_passes (.inr (by rw [ht]; rfl))

/-- Settles O52, answer by answer and timer by timer. -/
theorem withdrawals : Obligations.Withdrawals := by
  intro s p hr q becomes
  refine ⟨fun f hs hf => ?_, fun hs hw => ⟨?_, fun h n => ⟨?_, ?_⟩⟩,
    fun hw => (event_passes (.inr hw) : execWithdrawalTimer p s = _), execPauseTimer_stopped⟩
  · have hended := State.modPrinter_eq_set (g := (·.endWithdrawal)) (Printer.endWithdrawal_some hs)
    refine ⟨fun h hw => ⟨fun ref ho => ?_, fun x ho hx => ?_, fun hp => ?_⟩, fun hw => ?_, fun ht hw => ?_⟩
    · exact settled_of_step (execWithdrawn_takes h hw hs hf) (State.withdrawStaged_job ho)
    · exact settled_of_step (execWithdrawn_takes h hw hs hf) (State.withdrawStaged_test ho hx)
    · exact settled_of_step (execTooLate_takes h hw hs hf hp) hended
    · exact settled_of_step (execWithdrawalTimer_expires hr hw) hended
    · refine settled_of_raising (execPauseTimer_expires hr hs ht) (State.modPrinter_eq_set ?_)
      exact Printer.askWithdrawal_sends (pr := { q with pauseTimer := none }) hs hw
  · exact settled_of_step (execWithdrawalTimer_expires hr hw) (State.modPrinter_eq_set (Printer.endWithdrawal_none hs))
  · exact settled_of_step (execWithdrawn_empty h hw hs) rfl
  · exact settled_of_step (execTooLate_empty h hw hs) rfl

end Sys2Proof.Machine
end

section
/-! PRINTED for a test print (R71, R75, R79) and for a job's ticket (R34, R59, R73 to R76, R87, R119). -/

namespace Sys2Proof.Machine

variable {s : State} {p : PrinterId} {f : Ticket}

/-! ## The slots after a PRINTED (R34) -/

/-- R34: the staged ticket moves up behind the ticket printed. -/
def Printer.promotes (q : Printer) : Bool := !q.conditions.paused && !q.withdrawal && q.staged.isSome

/-- R34: PRINTING emptied. -/
def Printer.vacated (q : Printer) : Printer := { q with printing := none, printTimer := false }

theorem Printer.finishPrinting_def (q : Printer) : q.finishPrinting =
    if q.conditions.paused || q.withdrawal then q.vacated else q.vacated.promote := rfl

theorem Printer.promotes_eq_false {q : Printer} (h : (q.conditions.paused || q.withdrawal) = true ∨ q.staged = none) :
    q.promotes = false := by
  unfold Printer.promotes
  rw [← Bool.not_or]
  obtain h | h := h
  · rw [h]; rfl
  · rw [h, Option.isSome_none, Bool.and_false]

theorem Printer.finishPrinting_eq (q : Printer) : q.finishPrinting = { q with
    printing := if q.promotes then q.staged else none
    staged := if q.promotes then none else q.staged
    printTimer := q.promotes } := by
  rw [Printer.finishPrinting_def]
  by_cases h : (q.conditions.paused || q.withdrawal) = true ∨ q.staged = none
  · rw [Printer.promotes_eq_false h]
    obtain h | h := h
    · exact if_pos h
    · rw [Printer.promote_none (pr := q.vacated) h, ite_self]
      rfl
  · rw [not_or] at h
    obtain ⟨g, hs⟩ := Option.ne_none_iff_exists'.1 h.2
    have hpro : q.promotes = true := by
      unfold Printer.promotes
      rw [← Bool.not_or, Bool.eq_false_iff.2 h.1, hs]
      rfl
    rw [if_neg h.1, Printer.promote_some (pr := q.vacated) hs, hpro, if_pos rfl, if_pos rfl, hs]
    rfl

theorem Printer.promotes_iff {q : Printer} : q.promotes = true
    ↔ q.conditions.paused = false ∧ q.withdrawal = false ∧ q.staged ≠ none := by
  unfold Printer.promotes
  simp only [Bool.and_eq_true, Bool.not_eq_true', Option.isSome_iff_ne_none, and_assoc]

theorem serialRead_eq (n : Nat) : serialRead n = if n = 0xFFFFFF then none else some n := rfl

/-- R73: a PRINTED under the tag of PRINTING. -/
theorem execPrinted_test {n : Nat} (h : s.HearsPrinter p) (hp : s.printers[p].printing = some f)
    (ho : f.owner = none) (hn : n < 2 ^ 24) :
    execPrinted p 1#8 (be 3 n) s = .next ((s.printedTest p f (serialRead n)).commit s []) := by
  refine printerFrame_takes h.decodes (be_length ..) ?_
  rw [hp, num_be_only (by omega)]
  refine (if_pos rfl).trans ?_
  rw [ho]

theorem execPrinted_job {n : Nat} {ref : JobRef} (h : s.HearsPrinter p) (hp : s.printers[p].printing = some f)
    (ho : f.owner = some ref) (hn : n < 2 ^ 24) :
    execPrinted p 1#8 (be 3 n) s = .next ((s.printedJob p f ref (serialRead n)).commit s
      (if serialRead n = some f.serial then [] else [disputeReport p f ref])) := by
  refine printerFrame_takes h.decodes (be_length ..) ?_
  rw [hp, num_be_only (by omega)]
  refine (if_pos rfl).trans ?_
  rw [ho]

/-! ## A test print (R71, R75, R79) -/

/-- R71, R79: a printer whose test print has come out. -/
def Printer.testPrinted (q : Printer) (differs : Bool) : Printer :=
  { q.finishPrinting.pulse with test := none, stockHold := q.stockHold || differs }

theorem Printer.finishPrinting_stockHold (q : Printer) : q.finishPrinting.stockHold = q.stockHold := by
  rw [Printer.finishPrinting_eq]

theorem Printer.finishPrinting_test (q : Printer) : q.finishPrinting.test = q.test := by
  rw [Printer.finishPrinting_eq]

theorem State.printedTest_eq {read : Option Nat} {x : TestPrint} (ho : f.owner = none)
    (hx : s.printers[p].test = some x) :
    s.printedTest p f read = ((s.writeRun f.pack f.serial 1 .test (some p) none).modPrinter p
      (·.testPrinted (read != some f.serial))).send .supervisor
        [testDone x.tag p (some f) (if read != some f.serial then .disputed read else .printed)] := by
  unfold State.printedTest
  dsimp only
  rw [State.modPrinter_writeRun, State.ticketEnds_test (x := x) ho, State.holdIf, State.send_modPrinter,
    State.modPrinter_modPrinter, State.modPrinter_modPrinter]
  · congr 1
    refine State.modPrinter_congr ?_
    show _ = Printer.testPrinted _ _
    unfold Printer.testPrinted
    rw [← Printer.finishPrinting_stockHold]
    rfl
  · rw [State.modPrinter_get, if_pos rfl, State.writeRun_printers]
    exact (Printer.finishPrinting_test _).trans hx

/-- R71: the bytes of TEST DONE after a PRINTED. -/
theorem testDone_printed (tag : Tag) (p : PrinterId) (f : Ticket) (read : Option Nat) :
    testDone tag p (some f) (if read != some f.serial then .disputed read else .printed)
      = ⟨0x88#8, tag, be 1 p.val ++ be 1 (if read = some f.serial then 0 else 1) ++ be 2 f.pack ++ be 3 f.serial
          ++ (if read = some f.serial then absent 3 else beOpt 3 read) ++ [0#8]⟩ := by
  by_cases h : read = some f.serial
  · rw [if_neg (by simp [h]), if_pos h, if_pos h]
    rfl
  · rw [if_pos (by simp [h]), if_neg h, if_neg h]
    rfl

/-- R22: a stock hold that a step sets is reported where no dispute held. -/
theorem State.stockHold_told {u : State} {told : List Occurrence} (hu : u.printers[p].stockHold = true)
    (hs : s.serialDispute p = false) : (u.commit s told).Told (.printer p) .serialDispute := by
  refine State.commit_condition _ (printerCondition_mem (k := .serialDispute) (by simp)) hs ?_
  show u.serialDispute p = true
  unfold State.serialDispute
  rw [hu, Bool.true_or, Bool.true_or]

theorem Printer.testPrinted_eq (q : Printer) (differs : Bool) {promotes : Prop} [Decidable promotes]
    (hpro : q.promotes = true ↔ promotes) : q.testPrinted differs = { q with
      printing := if promotes then q.staged else none
      staged := if promotes then none else q.staged
      printTimer := decide promotes, test := none, lamp := q.lamp.pulsed
      stockHold := q.stockHold || differs } := by
  have hdecide : q.promotes = decide promotes := Bool.eq_iff_iff.2 (hpro.trans decide_eq_true_iff.symm)
  unfold Printer.testPrinted
  rw [Printer.finishPrinting_eq, hdecide]
  simp only [decide_eq_true_eq]
  rfl

/-- Settles O50, by the printer and the run that a PRINTED leaves. -/
theorem printedForTest : Obligations.PrintedForTest := by
  intro s p f x n h hp ho hx hn q read same promotes
  have hdiffers : (read != some f.serial) = !decide same := by
    rw [bne, beq_eq_decide]
  have step := execPrinted_test h hp ho hn
  rw [State.printedTest_eq ho hx, testDone_printed] at step
  refine ⟨_, step, ?_, fun hsame hs => State.stockHold_told ?_ hs⟩
  · rw [← hdiffers, ← q.testPrinted_eq _ Printer.promotes_iff]
    exact State.commit_settled ..
  · have htrue : (read != some f.serial) = true := bne_iff_ne.2 hsame
    rw [State.send_printers, State.modPrinter_get, if_pos rfl]
    exact Bool.or_eq_true_iff.2 (.inr htrue)

end Sys2Proof.Machine
end

section
/-! PRINTED for a job's ticket (R34, R59, R73 to R76, R87, R113, R119, R168). -/

namespace Sys2Proof.Machine

variable {s : State} {p : PrinterId} {f : Ticket} {j : Job} {read : Option Nat}

/-! ## The printer -/

theorem Printer.finishPrinting_staged {q : Printer} (staged : Option Ticket) (h : staged.isSome = q.staged.isSome) :
    ({ q with staged := staged } : Printer).finishPrinting = { q with
      printing := if q.promotes then staged else none
      staged := if q.promotes then none else staged
      printTimer := q.promotes } := by
  have hpro : ({ q with staged := staged } : Printer).promotes = q.promotes := by
    unfold Printer.promotes
    dsimp only
    rw [h]
  rw [Printer.finishPrinting_eq, hpro]

/-- R59: the staged ticket behind a ticket printed, with the reservation that may pass to it. -/
def Printer.behind (q : Printer) (passes : Bool) : Option Ticket :=
  q.staged.map fun g => { g with reserved := g.reserved || passes }

theorem Printer.passReservation_eq (q : Printer) (f : Ticket) (differs : Bool) :
    (if differs then q.passReservation f else q) = { q with staged := q.behind (differs && q.passes f) } := by
  unfold Printer.behind
  cases hp : differs && q.passes f with
  | true =>
    obtain ⟨hd, hpass⟩ := Bool.and_eq_true_iff.1 hp
    rw [hd, if_pos rfl, Printer.passReservation, if_pos hpass]
    simp only [Bool.or_true]
  | false =>
    have hsame : (if differs then q.passReservation f else q) = q := by
      cases differs with
      | false => rfl
      | true => exact if_neg (Bool.eq_false_iff.1 hp)
    simp only [hsame, Bool.or_false, Option.map_id']

/-- R34, R59, R76, R168: a printer whose job's ticket has come out. -/
def Printer.jobPrinted (q : Printer) (passes differs : Bool) : Printer :=
  { q with
    printing := if q.promotes then q.behind passes else none
    staged := if q.promotes then none else q.behind passes
    printTimer := q.promotes, stockHold := q.stockHold || differs
    lamp := if q.lamp.aspect = .on then { q.lamp with lit := false, pulse := true } else q.lamp }

theorem Printer.jobPrinted_eq (q : Printer) (f : Ticket) (differs : Bool) :
    { ((if differs then q.passReservation f else q).finishPrinting).pulse with
      stockHold := ((if differs then q.passReservation f else q).finishPrinting).pulse.stockHold || differs }
      = q.jobPrinted (differs && q.passes f) differs := by
  rw [Printer.passReservation_eq, Printer.finishPrinting_staged (q.behind _) Option.isSome_map]
  rfl

/-! ## The shift's record (R74, R76, R119) -/

/-- R119: the entry that a ticket printed as sent extends. -/
def Shift.extension (h : Shift) (j : Job) (f : Ticket) (same : Bool) : Option Nat :=
  j.lastEntry.filter fun m => same && (h.entries[m]?).any fun e =>
    e.allowance == .main && e.pack == f.pack && e.first + e.count == f.serial

/-- R74, R76: the entry a ticket makes where it extends none. -/
def Job.printedEntry (j : Job) (f : Ticket) (read : Option Nat) (same : Bool) : Entry :=
  { allowance := if same then .main else .disputed, tag := j.ref.tag, pack := f.pack
    first := f.serial, count := 1, unit := j.unit, tender := j.tender
    concession := j.concession, split := j.split, disputed := !same
    readSerial := if same then none else read, writtenOff := false }

/-- R74, R76, R118, R119: a shift once a ticket of a job is recorded. -/
def Shift.recorded (h : Shift) (j : Job) (f : Ticket) (read : Option Nat) (same passes : Bool) : Shift :=
  { h with
    reservations := h.reservations - (if f.reserved && !passes then 1 else 0)
    entries := match h.extension j f same with
      | some m => h.entries.modify m fun e => { e with count := e.count + 1 }
      | none => h.entries ++ [j.printedEntry f read same] }

/-- The entry that a ticket of a job stands in once it is recorded. -/
def Shift.recordedAt (h : Shift) (j : Job) (f : Ticket) (same : Bool) : Option Nat :=
  some ((h.extension j f same).getD h.entries.length)

theorem Shift.extension_true (h : Shift) (j : Job) (f : Ticket) :
    h.extension j f true = if h.extends j.lastEntry f.pack f.serial then j.lastEntry else none := by
  unfold Shift.extension Shift.extends
  cases j.lastEntry with
  | none => simp
  | some m => simp [Option.filter]

theorem Shift.extension_false (h : Shift) (j : Job) (f : Ticket) : h.extension j f false = none := by
  unfold Shift.extension
  cases j.lastEntry <;> simp [Option.filter]

theorem Shift.recordIssued_eq (h : Shift) (j : Job) (f : Ticket) (read : Option Nat) :
    h.recordIssued j f = (h.recorded j f read true false, h.recordedAt j f true) := by
  unfold Shift.recordIssued Shift.recorded Shift.recordedAt Shift.release
  rw [Shift.extension_true, Bool.not_false, Bool.and_true]
  by_cases he : h.extends j.lastEntry f.pack f.serial = true
  · rw [if_pos he, if_pos he]
    cases hl : j.lastEntry with
    | none => rw [hl] at he; exact absurd he Bool.false_ne_true
    | some m => rfl
  · rw [if_neg he, if_neg he]
    rfl

theorem Shift.recordDisputed_eq (h : Shift) (j : Job) (f : Ticket) (read : Option Nat) (passes : Bool) :
    h.recordDisputed j f read passes = (h.recorded j f read false passes, h.recordedAt j f false) := by
  unfold Shift.recordDisputed Shift.recorded Shift.recordedAt Shift.release
  rw [Shift.extension_false]
  rfl

/-- A ticket recorded as it was read; a reservation passes only where the serial differs. -/
theorem Shift.record_eq (h : Shift) {same passes : Bool} (hp : same = true → passes = false) :
    (if same then h.recordIssued j f else h.recordDisputed j f read passes)
      = (h.recorded j f read same passes, h.recordedAt j f same) := by
  cases same with
  | true => rw [hp rfl]; exact h.recordIssued_eq j f read
  | false => exact h.recordDisputed_eq j f read passes

/-! ## The posting and its report (R74, R87, R113) -/

/-- R113: the shift with a recorded ticket's charge posted. -/
def State.postedShift (s : State) (j : Job) (f : Ticket) (read : Option Nat) (same passes : Bool) : Shift :=
  ((s.shifts[j.ref.window]).recorded j f read same passes).post j.tender j.unit s.splits[j.split]

/-- R87: the amount posted for a ticket. -/
def State.postedAmount (s : State) (j : Job) (f : Ticket) (read : Option Nat) (same passes : Bool) : Int :=
  (s.postedShift j f read same passes).tenders.get j.tender - (s.shifts[j.ref.window]).tenders.get j.tender

/-- R87: TICKET REPORT for a ticket printed, as sent or in dispute. -/
theorem ticketReport_printed (tag : Tag) (p : PrinterId) (f : Ticket) (read : Option Nat) (same : Bool) (amount : Int)
    (printed : Nat) :
    ticketReport tag p f (if same then .issued amount printed else .disputed read amount printed)
      = ⟨0x82#8, tag, be 1 (if same then 0 else 1) ++ be 1 p.val ++ be 2 f.pack ++ be 3 f.serial
          ++ (if same then [] else beOpt 3 read) ++ beInt 4 amount ++ be 1 printed⟩ := by
  unfold ticketReport
  cases same <;> simp [TicketOutcome.code, TicketOutcome.fields, Out.ticketReport]

/-- R74, R76, R87, R119: what recording, charging and reporting a job's ticket leaves. -/
theorem State.settleJobTicket_eq (s : State) (p : PrinterId) {same passes : Bool}
    (hsame : (read == some f.serial) = same) (hp : same = true → passes = false) :
    s.settleJobTicket p f j read passes = ({ s with
      shifts := s.shifts.set j.ref.window { s.postedShift j f read same passes with
        tickets := min ((s.shifts[j.ref.window]).tickets + 1) 65535 }
      jobs := s.jobs.map fun i => if i.ref = j.ref then
          { i with
            printed := i.printed + 1, charged := i.charged + s.postedAmount j f read same passes
            lastEntry := (s.shifts[j.ref.window]).recordedAt j f same }
        else i } : State).send (.window j.ref.window) [⟨0x82#8, j.ref.tag,
          be 1 (if same then 0 else 1) ++ be 1 p.val ++ be 2 f.pack ++ be 3 f.serial
            ++ (if same then [] else beOpt 3 read) ++ beInt 4 (s.postedAmount j f read same passes)
            ++ be 1 (j.printed + 1)⟩] := by
  unfold State.settleJobTicket
  dsimp only
  rw [hsame, Shift.record_eq _ hp, ticketReport_printed]
  rfl

theorem State.modPrinter_settleJobTicket (g : Printer → Printer) (q : PrinterId) (passes : Bool) :
    (s.modPrinter q g).settleJobTicket p f j read passes
      = (s.settleJobTicket p f j read passes).modPrinter q g := rfl

/-- R73 to R76: the ticket's blank issued, its shift, job and window told, and the printer moved on. -/
theorem State.printedJob_eq (hj : s.job? j.ref = some j) :
    s.printedJob p f j.ref read = ((s.issueBlank f.pack).settleJobTicket p f j read
      (read != some f.serial && s.printers[p].passes f)).modPrinter p
        (·.jobPrinted (read != some f.serial && s.printers[p].passes f) (read != some f.serial)) := by
  unfold State.printedJob State.holdIf
  dsimp only
  rw [hj]
  dsimp only
  rw [State.modPrinter_issueBlank, State.modPrinter_settleJobTicket, State.modPrinter_modPrinter]
  exact State.modPrinter_congr (Printer.jobPrinted_eq ..)

/-! ## SHIFT_LIMITED (R114) -/

/-- R114: a limit indicator that a step sets is reported. -/
theorem State.limited_told {u : State} {told : List Occurrence} {w : Window} (hs : s.shifts[w].limited = false)
    (hu : u.shifts[w].limited = true) : (u.commit s told).Told (.window w) .shiftLimited := by
  have hkept : (u.housekeep.shifts[w]).limited = true := by
    have := congrArg Shift.limited (State.shift_of_bare (s := u) u.housekeep_bare w)
    exact this.trans hu
  refine State.commit_told_of_mem (o := { source := .window w, kind := .shiftLimited }) _
    (List.mem_append_left _ (List.mem_append_right _ (List.mem_map.2 ⟨w, List.mem_filter.2 ⟨?_, ?_⟩, rfl⟩)))
  · exact mem_allWindows w
  · rw [hs, hkept]
    rfl

/-- Settles O49, by what the ticket leaves of its blank, its printer, its shift and its job. -/
theorem printedForJob : Obligations.PrintedForJob := by
  intro s p f j n h hp ho hj hn q w hh read same follower passes behind promotes extended entries posted amount u
  have hsame : (read == some f.serial) = same := beq_eq_decide ..
  have hdiffers : (read != some f.serial) = !same := congrArg _ hsame
  have hpasses : (!same && q.passes f) = passes := (Bool.and_assoc ..).symm
  have htold : (if read = some f.serial then [] else [disputeReport p f j.ref])
      = if same then [] else [disputeReport p f j.ref] := if_congr decide_eq_true_iff.symm rfl rfl
  have step : execPrinted p 1#8 (be 3 n) s = .next ((s.printedJob p f j.ref read).commit s
      (if read = some f.serial then [] else [disputeReport p f j.ref])) := execPrinted_job h hp ho hn
  have hw : s.printedJob p f j.ref read = u := by
    rw [State.printedJob_eq hj, hdiffers, hpasses, State.settleJobTicket_eq _ _ hsame, State.send_modPrinter]
    · rfl
    · intro hs
      rw [← hpasses, hs]
      rfl
  rw [hw, htold] at step
  refine ⟨_, step, State.commit_settled .., fun hlim hpost => State.limited_told hlim ?_, fun hs => ?_⟩
  · rw [State.send_shifts]
    exact (congrArg Shift.limited ((vecGet_set ..).trans (if_pos rfl))).trans hpost
  · refine State.commit_told (o := disputeReport p f j.ref) _ ?_
    rw [hs]
    exact List.mem_singleton.2 rfl

end Sys2Proof.Machine
end

section
/-!
CANCEL and CLOSE SHIFT, with the jobs they end (R37, R64, R65, R67, R130); TEST PRINT (R69), SET SERVICE (R32) and
RESET LINE (R27).
-/

namespace Sys2Proof.Machine

variable {s : State}

/-! ## Jobs ended (R37, R64, R65, R67) -/

theorem State.endJobs_jobs (s : State) (chosen : Job → Bool) (e : Ending) : (s.endJobs chosen e).jobs =
    s.jobs.map fun j => if chosen j = true ∧ (j.state = .queued ∨ j.state = .active) then
      { j with state := .ending e, current := none, jobWait := none, routeWait := none } else j := by
  refine List.map_congr_left fun j _ => ?_
  rw [Job.toEnding_eq]
  by_cases hc : chosen j = true
  · simp only [hc, if_true, true_and]
  · rw [if_neg hc, if_neg fun h => hc h.1]

theorem State.endJobs_printer (s : State) (chosen : Job → Bool) (e : Ending) (p : PrinterId) :
    (s.endJobs chosen e).printers[p]
      = if s.stagedOf p chosen then (s.printers[p]).askWithdrawal else s.printers[p] :=
  s.mapPrinters_get p _

/-- R37: the staged ticket is a chosen ACTIVE job's. -/
theorem State.stagedOf_iff {p : PrinterId} {chosen : Job → Bool} : s.stagedOf p chosen = true
    ↔ ∃ f ∈ s.printers[p].staged, ∃ ref ∈ f.owner, ∃ j ∈ s.job? ref, j.state = .active ∧ chosen j = true := by
  unfold State.stagedOf
  simp only [Option.any_eq_true, Option.bind_eq_some_iff, Bool.and_eq_true, beq_iff_eq, Option.mem_def]
  constructor
  · rintro ⟨f, hf, j, ⟨ref, ho, hj⟩, hc⟩
    exact ⟨f, hf, ref, ho, j, hj, hc⟩
  · rintro ⟨f, hf, ref, ho, j, hj, hc⟩
    exact ⟨f, hf, j, ⟨ref, ho, hj⟩, hc⟩

theorem execCancel_ok {w : Window} {tag named : Tag} (h : s.Hears (.window w))
    (hj : ∃ j ∈ s.jobs, j.ref = { window := w, tag := named }) :
    execCancel (.window w) tag [named] s = .next (((s.answered (.window w)
      (acceptedFrame Cmd.cancel tag [named])).endJobs (fun j => j.ref == { window := w, tag := named })
        .cancelled).commit (s.sound (.window w)) []) := by
  have hfound : (s.sound (.window w)).job? { window := w, tag := named } |>.isSome := by
    obtain ⟨j, hj, href⟩ := hj
    exact List.find?_isSome.2 ⟨j, hj, beq_iff_eq.2 href⟩
  refine windowCommand_ok h rfl ?_
  dsimp only
  rw [num_byte_head, BitVec.ofNat_toNat, BitVec.setWidth_eq, need_bind hfound, State.accept,
    State.sound_send h.listens]
  rfl

theorem execCloseShift_ok {w : Window} {tag : Tag} (h : s.Hears (.window w)) (ho : s.shifts[w].state = .opened) :
    execCloseShift (.window w) tag [] s = .next (((({ s with
        shifts := s.shifts.set w { s.shifts[w] with state := .draining } } : State).answered (.window w)
          (acceptedFrame Cmd.closeShift tag [])).endJobs (fun j => j.ref.window == w) .cancelled).commit
            (s.sound (.window w)) []) := by
  refine windowCommand_ok h rfl ((need_bind (beq_iff_eq.2 ho)).trans ?_)
  refine congrArg (fun v : State => Except.ok ((v.endJobs (fun j => j.ref.window == w) .cancelled).commit
    (s.sound (.window w)) [])) ?_
  exact State.sound_send (port := .window w)
    (s := { s with shifts := s.shifts.set w { s.shifts[w] with state := .draining } }) h.listens _

/-- Settles O28, by the two commands' checks and the ending of jobs, field by field. -/
theorem cancelAndCloseShift : Obligations.CancelAndCloseShift := by
  refine ⟨fun s w tag named h hj => ?_, fun s w tag h ho => ?_, ?_⟩
  · obtain ⟨t, ht, hset, -⟩ := settled_of_commit (execCancel_ok (tag := tag) h hj) rfl
    exact ⟨t, ht, hset⟩
  · obtain ⟨t, ht, hset, -⟩ := settled_of_commit (execCloseShift_ok (tag := tag) h ho) rfl
    exact ⟨t, ht, hset⟩
  · intro s chosen e u
    refine ⟨rfl, s.endJobs_jobs chosen e, fun p => ⟨fun f ref j hs ho hj hact hc hw => ?_, fun hnot => ?_⟩⟩
    · have hstaged : s.stagedOf p chosen = true := State.stagedOf_iff.2 ⟨f, hs, ref, ho, j, hj, hact, hc⟩
      exact (s.endJobs_printer chosen e p).trans ((if_pos hstaged).trans (Printer.askWithdrawal_sends hs hw))
    · refine (s.endJobs_printer chosen e p).trans ?_
      split
      · next hstaged =>
        refine Printer.askWithdrawal_idle (.inr (hnot.resolve_left fun hall => ?_))
        obtain ⟨f, hf, ref, ho, j, hj, hact, hc⟩ := State.stagedOf_iff.1 hstaged
        exact (hall f hf ref ho j hj).elim (fun hne => hne hact) fun hc' => Bool.false_ne_true (hc'.symm.trans hc)
      · rfl

/-! ## TEST PRINT (R69) -/

theorem fieldBytes_length (fs : List (List Byte)) : (fieldBytes fs).length = bodyLength fs := by
  rw [bodyLength_eq]
  induction fs with
  | nil => rfl
  | cons f fs ih =>
    rw [fieldBytes_cons, List.length_cons, List.length_append, ih]
    simp only [List.length_cons, List.map_cons, List.sum_cons]
    omega

theorem execTestPrint_ok {tag : Tag} {p : PrinterId} {fields : List (List Byte)} {c : Capability}
    (h : s.Hears .supervisor) (h1 : 1 ≤ fields.length) (h12 : fields.length ≤ 12)
    (h40 : ∀ f ∈ fields, f.length ≤ 40) (h200 : bodyLength fields ≤ 200) (hhold : s.hold = false)
    (hready : s.printers[p].service = .ready) (hfree : s.printers[p].occupied = false)
    (hcap : s.printers[p].capability = some c) (hfit : bodyLength fields ≤ c.maxBody) :
    execTestPrint .supervisor tag (be 1 p.val ++ be 1 fields.length ++ fieldBytes fields) s
      = .next (({ s with printers := s.printers.set p { s.printers[p] with
          test := some { tag := tag, fields := fields, sent := false } } } : State).answered .supervisor
            (acceptedFrame Cmd.testPrint tag (be 1 p.val))) := by
  have hp : p.val < 8 := p.isLt
  have hlen := fieldBytes_length fields
  have hdrop : (be 1 p.val ++ be 1 fields.length ++ fieldBytes fields).drop 2 = fieldBytes fields :=
    List.drop_left' (by simp)
  have hprinter : num (be 1 p.val ++ be 1 fields.length ++ fieldBytes fields) 0 1 = p.val := by
    rw [List.append_assoc]
    exact num_be_head (by omega)
  have hcount : num (be 1 p.val ++ be 1 fields.length ++ fieldBytes fields) 1 1 = fields.length :=
    num_be_mid (by simp) (by omega)
  have hfits : fits 2 Config.maxFrameBody (be 1 p.val ++ be 1 fields.length ++ fieldBytes fields) = true := by
    simp only [fits, Config.maxFrameBody, List.length_append, be_length, hlen, Bool.and_eq_true, decide_eq_true_eq]
    omega
  refine supervisorCommand_ok h hfits ?_
  dsimp only
  rw [hprinter, hcount, hdrop, named_val, want_bind rfl, want_bind (ticketBody_fieldBytes h1 h12 h40 h200)]
  refine (need_bind ?_).trans ((need_bind ?_).trans ((need_bind ?_).trans ?_))
  · show (!s.hold) = true
    rw [hhold]; rfl
  · show ((s.printers[p]).service == .ready && !(s.printers[p]).occupied) = true
    rw [hready, hfree]; rfl
  · show ((s.printers[p]).capability.any fun c => decide (bodyLength fields ≤ c.maxBody)) = true
    rw [hcap]; exact decide_eq_true hfit
  · exact accept_answered (v := { s with printers := s.printers.set p { s.printers[p] with
      test := some { tag := tag, fields := fields, sent := false } } }) h.listens rfl

/-! ## SET SERVICE (R32) -/

theorem State.isFallback_eq_false {p : PrinterId} (h : ∀ i : StockType, s.fallback[i] ≠ some p) :
    s.isFallback p = false :=
  List.any_eq_false.2 fun i _ => by rw [beq_iff_eq]; exact h i

theorem execSetService_ok {tag : Tag} {p : PrinterId} {reserved out : Byte} (h : s.Hears .supervisor)
    (hpool : reserved ≠ 0#8 ∨ s.printers[p].pool = true ∨ s.isFallback p = false)
    (hfree : s.printers[p].occupied = false) :
    execSetService .supervisor tag (be 1 p.val ++ [reserved, out]) s
      = .next (((({ s with printers := s.printers.set p { s.printers[p] with
          pool := reserved == 0#8, outOfService := out != 0#8 } } : State).answered .supervisor
            (acceptedFrame Cmd.setService tag (be 1 p.val))).commit (s.sound .supervisor) [])) := by
  have hp : p.val < 8 := p.isLt
  have hreserved : num (be 1 p.val ++ [reserved, out]) 1 1 = reserved.toNat :=
    (num_cons_succ ..).trans (num_byte_head ..)
  have hout : num (be 1 p.val ++ [reserved, out]) 2 1 = out.toNat :=
    (num_cons_succ ..).trans ((num_cons_succ ..).trans (num_byte_head ..))
  refine supervisorCommand_ok h (by simp [fits]) ?_
  dsimp only
  rw [hreserved, hout, num_be_head (by omega), named_val, want_bind rfl, toNat_beq_zero, toNat_bne_zero]
  refine (need_bind ?_).trans ((need_bind ?_).trans ?_)
  · show (!((reserved == 0#8) && !(s.printers[p]).pool && s.isFallback p)) = true
    obtain hr | hpool | hf := hpool
    · rw [beq_eq_false_iff_ne.2 hr]; rfl
    · rw [hpool, Bool.not_true, Bool.and_false]; rfl
    · rw [hf, Bool.and_false]; rfl
  · show (!(s.printers[p]).occupied) = true
    rw [hfree]; rfl
  · refine congrArg (fun v : State => Except.ok (v.commit (s.sound .supervisor) [])) ?_
    exact accept_eq_answered (v := { s with printers := s.printers.set p { s.printers[p] with
      pool := reserved == 0#8, outOfService := out != 0#8 } }) rfl h.listens

/-! ## RESET LINE (R27) -/

theorem execResetLine_ok {tag : Tag} {p : PrinterId} (h : s.Hears .supervisor) :
    execResetLine .supervisor tag (be 1 p.val) s = .next (((s.answered .supervisor
      (acceptedFrame Cmd.resetLine tag (be 1 p.val))).forceDown p).commit (s.sound .supervisor)
        (s.forceDownReports p)) := by
  refine supervisorCommand_ok h (by simp [fits]) ?_
  rw [named_num_only p, want_bind rfl]
  exact congrArg (fun v : State => Except.ok ((v.forceDown p).commit (s.sound .supervisor) (s.forceDownReports p)))
    (accept_eq_answered rfl h.listens)

theorem State.forceDown_down {p : PrinterId} (h : s.printers[p].link = .down) : s.forceDown p = s := by
  unfold State.forceDown
  rw [h]

theorem State.forceDown_unsettled {p : PrinterId}
    (h : s.printers[p].link = .settling ∨ s.printers[p].link = .jabber) :
    s.forceDown p = s.modPrinter p fun pr => { pr with link := .down, quiet := false } := by
  unfold State.forceDown
  obtain h | h := h
  all_goals rw [h]

theorem State.forceDown_up {p : PrinterId} (h : s.printers[p].link = .up) : s.forceDown p = s.linkLoss p .down := by
  unfold State.forceDown
  rw [h]

theorem State.forceDownReports_up {p : PrinterId} (h : s.printers[p].link = .up) :
    s.forceDownReports p = s.linkLossReports p := if_pos h

theorem State.forceDownReports_other {p : PrinterId} (h : s.printers[p].link ≠ .up) : s.forceDownReports p = [] :=
  if_neg h

/-- Settles O37, by the commands' checks in order and the state of the link. -/
theorem testServiceAndResetLine : Obligations.TestServiceAndResetLine := by
  refine ⟨?_, ?_, ?_⟩
  · intro s tag p fields c h h1 h12 h40 h200 hspoils hready hload hunload htest hcap hfit
    rw [← bodyLength_eq] at h200 hfit
    exact execTestPrint_ok h h1 h12 h40 h200 (State.hold_eq_false hspoils) hready
      (Printer.occupied_eq_false hload hunload htest) hcap hfit
  · intro s tag p reserved out h hpool hload hunload htest
    obtain ⟨t, ht, hset, -⟩ := settled_of_commit
      (execSetService_ok (tag := tag) h (hpool.imp_right (.imp_right State.isFallback_eq_false))
        (Printer.occupied_eq_false hload hunload htest)) rfl
    exact ⟨t, ht, hset⟩
  · intro s tag p h answered
    obtain ⟨t, ht, hset, htold⟩ := settled_of_commit (execResetLine_ok (tag := tag) (p := p) h) rfl
    have hset : State.Settled s (answered.forceDown p) t (s.forceDownReports p) := hset
    refine ⟨t, ht, fun hl => ?_, fun hl => ?_, fun hl => ⟨?_, ?_⟩⟩
    · rwa [State.forceDownReports_other (by rw [hl]; decide), State.forceDown_down (s := answered) hl] at hset
    · have hne : s.printers[p].link ≠ .up := by obtain hl | hl := hl <;> rw [hl] <;> decide
      rwa [State.forceDownReports_other hne, State.forceDown_unsettled (s := answered) hl] at hset
    · rwa [State.forceDownReports_up hl, State.forceDown_up (s := answered) hl] at hset
    · rw [State.forceDownReports_up hl] at htold
      exact htold _ (s.linkLost_mem p)

end Sys2Proof.Machine
end

section
/-! RESOLVE DISPUTE (R43, R80, R81): the mark cleared, the pack written off where asked, the markers freed. -/

namespace Sys2Proof.Machine

variable {s : State}

theorem State.clearMarkers_eq (s : State) (pack : Nat) : s.clearMarkers pack = { s with
    printers := Vector.ofFn fun p : PrinterId =>
      if s.printers[p].loaded = some pack ∧ s.printers[p].range = none ∧ s.packDisputed pack = false then
        { s.printers[p] with stockHold := false }
      else s.printers[p] } := by
  unfold State.clearMarkers State.mapPrinters
  simp only [Bool.and_eq_true, beq_iff_eq, Option.isNone_iff_eq_none, Bool.not_eq_true', and_assoc]

theorem State.modShift_eq_set {w : Window} {g : Shift → Shift} {h : Shift} (e : g s.shifts[w] = h) :
    s.modShift w g = { s with shifts := s.shifts.set w h } := by
  subst e
  rfl

theorem Shift.resolveEntry_eq {h : Shift} {n : Nat} {e : Entry} (he : h.entries[n]? = some e) (off : Bool) :
    h.resolveEntry n off = { h with
      entries := h.entries.set n { e with disputed := false, writtenOff := e.writtenOff || off } } := by
  unfold Shift.resolveEntry
  rw [List.modify_eq_set_getElem?, he]
  rfl

/-- R80, checks 3 and 4 passed: the pack that WRITE-OFF writes off, if any. -/
theorem State.disputedPack_ok {e : Entry} {off : Bool} (h : off = true → s.spoils.length < 232
      ∧ ∃ k, s.pack? e.pack = some k ∧ k.loadCheck = none ∧ (k.location = .safe ∨ k.location = .compromised)) :
    s.disputedPack e off = .ok (if off then s.pack? e.pack else none) := by
  cases off with
  | false => rfl
  | true =>
    obtain ⟨hspoils, k, hk, hcheck, hloc⟩ := h rfl
    have hhold : (!s.hold) = true := by rw [State.hold_eq_false hspoils]; rfl
    have hpack : ((k.location == .safe || k.location == .compromised) && k.loadCheck.isNone) = true := by
      rw [hcheck, Bool.and_eq_true, Bool.or_eq_true, beq_iff_eq, beq_iff_eq]
      exact ⟨hloc, rfl⟩
    refine (need_bind hhold).trans ((want_bind hk).trans ((need_bind hpack).trans ?_))
    rw [if_pos rfl, hk]
    rfl

/-- The write-off of a pack does not touch the receiver. -/
theorem State.sound_writeOff (s : State) (k : Pack) :
    (s.sound .supervisor).writeOff k = (s.writeOff k).sound .supervisor := by
  unfold State.writeOff
  split <;> rfl

/-- R81: the entry of a shift resolved, its pack written off where one is named. -/
def State.resolvedWith (s : State) (w : Window) (n : Nat) (off : Bool) (pack : Option Pack) : State :=
  pack.elim (s.modShift w (·.resolveEntry n off)) (s.modShift w (·.resolveEntry n off)).writeOff

theorem State.sound_resolvedWith (s : State) (w : Window) (n : Nat) (off : Bool) (pack : Option Pack) :
    (s.sound .supervisor).resolvedWith w n off pack = (s.resolvedWith w n off pack).sound .supervisor := by
  cases pack with
  | none => rfl
  | some k => exact State.sound_writeOff (s.modShift w (·.resolveEntry n off)) k

theorem State.writeOff_listens (s : State) (k : Pack) :
    (s.writeOff k).listens .supervisor = s.listens .supervisor := by
  unfold State.writeOff
  split <;> rfl

theorem State.resolvedWith_listens (s : State) (w : Window) (n : Nat) (off : Bool) (pack : Option Pack) (id : Nat) :
    ((s.resolvedWith w n off pack).clearMarkers id).listens .supervisor = s.listens .supervisor := by
  cases pack with
  | none => rfl
  | some k => exact State.writeOff_listens (s.modShift w (·.resolveEntry n off)) k

theorem num_beBool_last {before : List Byte} {off : Nat} (ho : before.length = off) (b : Bool) :
    num (before ++ beBool b) off 1 = b.toNat := by
  cases b with
  | false => exact num_be_last (width := 1) (n := 0) ho (by decide)
  | true => exact num_be_last (width := 1) (n := 1) ho (by decide)

theorem execResolveDispute_ok {tag : Tag} {w : Window} {n : Nat} {e : Entry} {off : Bool} {pack : Option Pack}
    (h : s.Hears .supervisor) (hn : n < 256) (hstate : s.shifts[w].state ≠ .idle)
    (he : s.shifts[w].entries[n]? = some e) (hd : e.disputed = true) (hpack : s.disputedPack e off = .ok pack) :
    execResolveDispute .supervisor tag (be 1 w.val ++ be 1 n ++ beBool off) s
      = .next ((((s.resolvedWith w n off pack).clearMarkers e.pack).answered .supervisor
          (acceptedFrame Cmd.resolveDispute tag (be 1 w.val ++ be 1 n ++ be 2 (pack.elim 0 Pack.unused)))).commit
            (s.sound .supervisor) []) := by
  have hw : w.val < 12 := w.isLt
  have hwindow : num (be 1 w.val ++ be 1 n ++ beBool off) 0 1 = w.val := by
    rw [List.append_assoc]
    exact num_be_head (by omega)
  have hnumber : num (be 1 w.val ++ be 1 n ++ beBool off) 1 1 = n := num_be_mid (by simp) (by omega)
  have hoff : num (be 1 w.val ++ be 1 n ++ beBool off) 2 1 = off.toNat := num_beBool_last (by simp) off
  have hchoice : (off.toNat == 1) = off := by cases off <;> rfl
  have hvalid : decide (off.toNat ≤ 1) = true := decide_eq_true (Bool.toNat_le off)
  refine supervisorCommand_ok h (by simp [fits, beBool]) ?_
  dsimp only
  rw [hwindow, hnumber, hoff, hchoice, named_val, want_bind rfl]
  refine (need_bind hvalid).trans ((need_bind (bne_iff_ne.2 hstate)).trans ((want_bind he).trans
    ((need_bind hd).trans ?_)))
  show (s.disputedPack e off >>= _) = _
  rw [hpack]
  refine congrArg (fun v : State => Except.ok (v.commit (s.sound .supervisor) [])) ?_
  refine accept_eq_answered (v := (s.resolvedWith w n off pack).clearMarkers e.pack) ?_
    ((s.resolvedWith_listens w n off pack e.pack).trans h.listens)
  exact congrArg (State.clearMarkers · e.pack) (s.sound_resolvedWith w n off pack)

/-- Settles O40, by the command's checks in order and the write-off. -/
theorem resolveDispute : Obligations.ResolveDispute := by
  intro s tag w n e writeOff h hn hstate he hd hoff resolved pack settled cleared
  have hresolved : s.modShift w (·.resolveEntry n writeOff) = resolved :=
    State.modShift_eq_set (Shift.resolveEntry_eq he writeOff)
  have hsettled : s.resolvedWith w n writeOff pack = settled := by
    unfold State.resolvedWith
    rw [hresolved]
    show pack.elim resolved resolved.writeOff = settled
    unfold settled
    cases pack <;> rfl
  have step := execResolveDispute_ok (tag := tag) h hn hstate he hd (State.disputedPack_ok hoff)
  obtain ⟨t, ht, hset, -⟩ := settled_of_commit step rfl
  refine ⟨t, ht, ?_⟩
  rw [State.clearMarkers_eq, hsettled] at hset
  exact hset

end Sys2Proof.Machine
end

section
/-!
SELECT ENTRY (R178), WRITE ENTRY for each table (R97, R99, R136, R164, R179 to R181) and SET CLOCK (R189).
-/

namespace Sys2Proof.Machine

variable {s : State} {tag : Tag}

/-! ## SELECT ENTRY (R178) -/

/-- A cursor is read back from its table and its index. -/
theorem cursorNamed_self (c : Cursor) : cursorNamed c.table c.index = some c := by
  cases c with
  | concession i => exact congrArg (Option.map Cursor.concession) (named_val i)
  | split i => exact congrArg (Option.map Cursor.split) (named_val i)
  | routing p => exact congrArg (Option.map Cursor.routing) (named_val p)
  | fallback t => exact congrArg (Option.map Cursor.fallback) (named_val t)
  | tolerance t => cases t <;> rfl
  | limits => rfl

theorem Cursor.table_lt (c : Cursor) : c.table < 256 := by
  cases c <;> simp [Cursor.table]

theorem Cursor.index_lt (c : Cursor) : c.index < 256 := by
  cases c with
  | concession i | split i | routing i | fallback i => exact Nat.lt_trans i.isLt (by decide)
  | tolerance t => cases t <;> decide
  | limits => decide

theorem execSelectEntry_ok (h : s.Hears .supervisor) (c : Cursor) :
    execSelectEntry .supervisor tag (be 1 c.table ++ be 1 c.index) s
      = .next (({ s with cursor := c } : State).answered .supervisor
          (acceptedFrame Cmd.selectEntry tag (be 1 c.table ++ be 1 c.index))) := by
  refine supervisorCommand_ok h (by simp [fits]) ?_
  rw [num_be_head c.table_lt, num_be_last (by simp) c.index_lt, cursorNamed_self, want_bind rfl]
  exact accept_answered (v := { s with cursor := c }) h.listens rfl

/-! ## WRITE ENTRY (R179) -/

/-- R179: an entry body written to a table. -/
def State.writeTable (s : State) (body : List Byte) : Cursor → Except Code State
  | .concession i => s.writeConcession i body
  | .split i => s.writeSplit i body
  | .routing p => s.writeRouting p body
  | .fallback t => s.writeFallback t body
  | .tolerance t => s.writeTolerance t body
  | .limits => s.writeLimits body

/-- The table that the cursor names is the one written. -/
theorem State.writeEntry_at {c : Cursor} {body : List Byte} (h : s.cursor = c) :
    s.writeEntry body = s.writeTable body c := by
  unfold State.writeEntry
  rw [h]
  cases c <;> rfl

theorem execWriteEntry_ok {body : List Byte} {u : State} (h : s.Hears .supervisor)
    (hlen : body.length = s.cursor.bodyLength)
    (hw : (s.sound .supervisor).writeTable body s.cursor = .ok (u.sound .supervisor))
    (hu : u.listens .supervisor = true) :
    execWriteEntry .supervisor tag body s
      = .next ((u.answered .supervisor (acceptedFrame Cmd.writeEntry tag u.cursorBody)).commit
          (s.sound .supervisor) []) := by
  have hfits : fits s.cursor.bodyLength s.cursor.bodyLength body = true := by
    rw [fits, hlen, Bool.and_eq_true, decide_eq_true_eq]
    exact ⟨Nat.le_refl _, Nat.le_refl _⟩
  refine supervisorCommand_ok h hfits ?_
  rw [State.writeEntry_at (s := s.sound .supervisor) (c := s.cursor) rfl, hw]
  exact congrArg (fun v : State => Except.ok (v.commit (s.sound .supervisor) [])) (accept_eq_answered rfl hu)

/-- An entry that is written is answered as stored, and what follows of it is settled. -/
theorem settled_of_write {body : List Byte} {c : Cursor} {u : State} (h : s.Hears .supervisor)
    (hc : s.cursor = c) (hlen : body.length = c.bodyLength)
    (hw : (s.sound .supervisor).writeTable body c = .ok (u.sound .supervisor)) (hu : u.listens .supervisor = true) :
    ∃ t, exec (.writeEntry .supervisor tag body) s = .next t
      ∧ State.Settled s (u.answered .supervisor
          (acceptedFrame 0x39#8 tag (be 1 u.cursor.table ++ be 1 u.cursor.index ++ u.entryBody u.cursor))) t [] := by
  subst hc
  obtain ⟨t, ht, hset, -⟩ := settled_of_commit (execWriteEntry_ok (tag := tag) h hlen hw hu) rfl
  exact ⟨t, ht, hset⟩

/-! ## The tables -/

theorem State.writeConcession_ok {i : EntryIndex} {valid : Byte} {discount minimum step : Nat}
    (hlock : s.tableLock = false) (hd : discount < 65536) (hm : minimum < 2 ^ 24) (hs : step < 256)
    (hstep : valid = 0#8 ∨ step = 1 ∨ step = 5 ∨ step = 10 ∨ step = 50) :
    s.writeConcession i (valid :: be 2 discount ++ be 3 minimum ++ be 1 step) = .ok { s with
      concessions := s.concessions.set i (if valid = 0#8 then
          { valid := false, discount := 0, minimum := 0, step := 1 }
        else { valid := true, discount := discount, minimum := min minimum 1999999, step := step }) } := by
  have hzero : (valid.toNat = 0) = (valid = 0#8) := propext (BitVec.toNat_inj (x := valid) (y := 0#8))
  have hdiscount : num (valid :: be 2 discount ++ be 3 minimum ++ be 1 step) 1 2 = discount := by
    rw [List.cons_append, List.cons_append, num_cons_succ, List.append_assoc]
    exact num_be_head (by omega)
  have hminimum : num (valid :: be 2 discount ++ be 3 minimum ++ be 1 step) 3 3 = minimum :=
    num_be_mid (by simp) (by omega)
  have hnumber : num (valid :: be 2 discount ++ be 3 minimum ++ be 1 step) 6 1 = step :=
    num_be_last (by simp) (by omega)
  have hvalid : num (valid :: be 2 discount ++ be 3 minimum ++ be 1 step) 0 1 = valid.toNat := num_byte_head ..
  have hallowed : (valid.toNat == 0 || stepAllowed step) = true := by
    simp only [stepAllowed, Bool.or_eq_true, beq_iff_eq, hzero]
    tauto
  unfold State.writeConcession
  rw [hdiscount, hminimum, hnumber, hvalid, need_bind (by rw [hlock]; rfl), need_bind hallowed]
  simp only [hzero]
  rfl

/-- R99: the bytes of one part of a split. -/
def Part.bytes (part : Part) : List Byte := be 1 part.head.val ++ be 3 part.share

/-- The parts of a split are read back from their bytes. -/
theorem partsFrom_bytes {split : Split} (h : ∀ part ∈ split, part.share ≤ 65536) (before rest : List Byte) :
    partsFrom (before ++ (split.map Part.bytes).flatten ++ rest) split.length before.length = some split := by
  induction split generalizing before with
  | nil => rfl
  | cons part split ih =>
    have hhead : part.head.val < 8 := part.head.isLt
    have hshare : part.share ≤ Config.wholeShare := h part List.mem_cons_self
    have hbody : before ++ ((part :: split).map Part.bytes).flatten ++ rest
        = before ++ part.bytes ++ (split.map Part.bytes).flatten ++ rest := by
      simp only [List.map_cons, List.flatten_cons, List.append_assoc]
    have hrest := ih (fun x hx => h x (List.mem_cons_of_mem _ hx)) (before ++ part.bytes)
    have hlen : (before ++ part.bytes).length = before.length + 4 := by
      simp [Part.bytes]
    rw [hlen] at hrest
    rw [hbody, List.length_cons, partsFrom]
    have hnum : num (before ++ part.bytes ++ (split.map Part.bytes).flatten ++ rest) before.length 1
        = part.head.val := by
      unfold Part.bytes
      simp only [List.append_assoc]
      exact num_be_of_lt rfl (by omega)
    have hthree : num (before ++ part.bytes ++ (split.map Part.bytes).flatten ++ rest) (before.length + 1) 3
        = part.share := by
      unfold Part.bytes
      rw [← List.append_assoc before, List.append_assoc _ _ rest]
      exact num_be_mid (by simp) (Nat.lt_of_le_of_lt hshare (by decide))
    rw [hnum, hthree, named_val]
    dsimp only
    rw [if_pos hshare, hrest]
    rfl

/-- R98: neighbours in a rising list of parts rise. -/
theorem Split.neighbours_rise {split : Split} (h : split.Pairwise fun a b => a.share ≤ b.share) :
    (split.zip split.tail).all (fun ab => ab.1.share ≤ ab.2.share) = true := by
  induction split with
  | nil => rfl
  | cons a split ih =>
    obtain ⟨ha, hrest⟩ := List.pairwise_cons.1 h
    cases split with
    | nil => rfl
    | cons b split => exact Bool.and_eq_true_iff.2 ⟨decide_eq_true (ha b List.mem_cons_self), ih hrest⟩

theorem Split.sound_of_rise {split : Split} (hrise : split.Pairwise fun a b => a.share ≤ b.share)
    (hlast : ∀ part ∈ split.getLast?, part.share = 65536) : Split.sound split = true := by
  refine Bool.and_eq_true_iff.2 ⟨Split.neighbours_rise hrise, ?_⟩
  cases hl : split.getLast? with
  | none => rfl
  | some part => exact beq_iff_eq.2 (hlast part hl)

theorem State.writeSplit_ok {i : EntryIndex} {split : Split} {rest : List Byte} (hlock : s.tableLock = false)
    (hlen : split.length ≤ 4) (hrise : split.Pairwise fun a b => a.share ≤ b.share)
    (hshare : ∀ part ∈ split, part.share ≤ 65536) (hlast : ∀ part ∈ split.getLast?, part.share = 65536) :
    s.writeSplit i (be 1 split.length ++ (split.map Part.bytes).flatten ++ rest)
      = .ok { s with splits := s.splits.set i split } := by
  have hcount : num (be 1 split.length ++ (split.map Part.bytes).flatten ++ rest) 0 1 = split.length := by
    rw [List.append_assoc]
    exact num_be_head (by omega)
  have hparts : partsFrom (be 1 split.length ++ (split.map Part.bytes).flatten ++ rest) split.length 1 = some split :=
    partsFrom_bytes hshare (be 1 split.length) rest
  unfold State.writeSplit
  rw [hcount, hparts, need_bind (by rw [hlock]; rfl), need_bind (decide_eq_true hlen), want_bind rfl,
    need_bind (Split.sound_of_rise hrise hlast)]
  rfl

theorem severityNamed_rank (v : Severity) : severityNamed v.rank = some v := by
  cases v <;> rfl

theorem State.writeRouting_ok {p : PrinterId} {windows : Nat} {minimum : Severity} (hw : windows < 65536) :
    s.writeRouting p (be 2 windows ++ be 1 minimum.rank) = .ok { s with
      routing := s.routing.set p { windows := BitVec.ofNat 12 windows, minimum := minimum } } := by
  have hrank : minimum.rank < 256 := by cases minimum <;> decide
  unfold State.writeRouting
  rw [num_be_head (by omega), num_be_last (by simp) hrank, severityNamed_rank, want_bind rfl]
  rfl

theorem State.writeFallback_printer {t : StockType} {p : PrinterId} (hp : s.printers[p].pool = false) :
    s.writeFallback t (be 1 p.val) = .ok { s with fallback := s.fallback.set t (some p) } := by
  have hlt : p.val < 8 := p.isLt
  have hreserved : (!s.printers[p].pool) = true := by rw [hp]; rfl
  unfold State.writeFallback
  rw [num_be_only (by omega), if_neg (by omega), named_val, want_bind rfl, need_bind hreserved]
  rfl

theorem State.writeFallback_none {t : StockType} :
    s.writeFallback t [0xFF#8] = .ok { s with fallback := s.fallback.set t none } := if_pos rfl

theorem State.writeTolerance_ok {t : Tender} {amount : Nat} (ha : amount < 2 ^ 32) :
    s.writeTolerance t (be 4 amount)
      = .ok { s with tolerance := s.tolerance.set t (min amount 100000) } := by
  unfold State.writeTolerance
  rw [num_be_only (by omega)]
  rfl

/-- A field is read from the part of the body that holds it. -/
theorem num_front {front after : List Byte} {off width : Nat} (h : off + width ≤ front.length) :
    num (front ++ after) off width = num front off width := by
  unfold num
  rw [List.drop_append_of_le_length (by omega), List.take_append_of_le_length (by rw [List.length_drop]; omega)]

theorem num_byte_last {before : List Byte} {off : Nat} (ho : before.length = off) (b : Byte) :
    num (before ++ [b]) off 1 = b.toNat := by
  unfold num
  rw [List.drop_left' ho]
  simp

/-- R180: the settings of a LIMITS body, field by field. -/
theorem limitsOf_eq {burst pause routeWait jobWait lowStock : Nat} {latches : BitVec 8} {enable : Byte}
    (hb : burst < 256) (hp : pause < 256) (hr : routeWait < 65536) (hj : jobWait < 65536) (hl : lowStock < 65536) :
    limitsOf (be 1 burst ++ be 1 pause ++ be 2 routeWait ++ be 2 jobWait ++ be 2 lowStock ++ be 1 latches.toNat
        ++ [enable])
      = { burst := max 1 (min 16 burst), pause := max 5 (min 120 pause), routeWait := max 5 (min 300 routeWait)
          jobWait := max 10 (min 600 jobWait), lowStock := min 500 lowStock, latches := latches
          alarmEnable := enable != 0#8 } := by
  have hburst : num (be 1 burst) 0 1 = burst := num_be_only (by omega)
  have hpause : num (be 1 burst ++ be 1 pause) 1 1 = pause := num_be_last (by simp) (by omega)
  have hroute : num (be 1 burst ++ be 1 pause ++ be 2 routeWait) 2 2 = routeWait := num_be_last (by simp) (by omega)
  have hjob : num (be 1 burst ++ be 1 pause ++ be 2 routeWait ++ be 2 jobWait) 4 2 = jobWait :=
    num_be_last (by simp) (by omega)
  have hlow : num (be 1 burst ++ be 1 pause ++ be 2 routeWait ++ be 2 jobWait ++ be 2 lowStock) 6 2 = lowStock :=
    num_be_last (by simp) (by omega)
  have hlatches : num (be 1 burst ++ be 1 pause ++ be 2 routeWait ++ be 2 jobWait ++ be 2 lowStock
      ++ be 1 latches.toNat) 8 1 = latches.toNat := num_be_last (by simp) latches.isLt
  have henable : num (be 1 burst ++ be 1 pause ++ be 2 routeWait ++ be 2 jobWait ++ be 2 lowStock
      ++ be 1 latches.toNat ++ [enable]) 9 1 = enable.toNat := num_byte_last (by simp) enable
  unfold limitsOf clamp
  simp (disch := simp) only [num_front, hburst, hpause, hroute, hjob, hlow, hlatches, henable, toNat_bne_zero,
    Nat.zero_max, BitVec.ofNat_toNat, BitVec.setWidth_eq]

/-- R26, R180: a line of JABBER that was quiet settles where its latch is off. -/
theorem State.settleQuiet_eq (s : State) : s.settleQuiet = { s with
    printers := Vector.ofFn fun p : PrinterId =>
      if s.printers[p].link = .jabber ∧ s.printers[p].quiet = true ∧ s.limits.latches.getLsbD p.val = false then
        { s.printers[p] with link := .settling, quiet := false }
      else s.printers[p] } := by
  unfold State.settleQuiet State.mapPrinters
  simp only [Bool.and_eq_true, beq_iff_eq, Bool.not_eq_true', and_assoc]
  rfl

/-! ## SET CLOCK (R189) -/

theorem execSetClock_ok {time day : Nat} (h : s.Hears .supervisor) (ht : time < 86400) (hd : day < 65536) :
    execSetClock .supervisor tag (be 3 time ++ be 2 day) s = .next (({ s with
      clock := { time := time, day := day }, clockUnset := false } : State).answered .supervisor
        (acceptedFrame Cmd.setClock tag (be 3 time ++ be 2 day))) := by
  have hvalid : (decide (time < Config.secondsPerDay) && decide (day < Config.dayNumbers)) = true := by
    rw [Bool.and_eq_true, decide_eq_true_eq, decide_eq_true_eq]
    exact ⟨ht, hd⟩
  refine supervisorCommand_ok h (by simp [fits]) ?_
  dsimp only
  rw [num_be_head (by omega), num_be_last (by simp) (by omega), need_bind hvalid]
  exact accept_answered (v := { s with clock := { time := time, day := day }, clockUnset := false }) h.listens rfl

/-- Settles O44, table by table. -/
theorem settingsCommands : Obligations.SettingsCommands := by
  intro s tag h writes
  refine ⟨fun c => execSelectEntry_ok h c, ?_, ?_, ?_, ?_, ?_, ?_, ?_, fun time day => execSetClock_ok h⟩
  · intro i valid discount minimum step hc hlock hd hm hs hstep
    refine settled_of_write h hc (by simp [Cursor.bodyLength]) ?_ h.listens
    exact State.writeConcession_ok (s := s.sound .supervisor) hlock hd hm hs hstep
  · intro i split rest hc hlock hlen hrise hshare hlast hrest
    have hbytes : ((split.map Part.bytes).flatten).length = 4 * split.length := by
      simp [List.length_flatten, List.map_map, Function.comp_def, Part.bytes, Nat.mul_comm]
    refine settled_of_write h hc ?_ ?_ h.listens
    · show (be 1 split.length ++ (split.map Part.bytes).flatten ++ rest).length = _
      simp only [List.length_append, be_length, hbytes, Cursor.bodyLength]
      omega
    · exact State.writeSplit_ok (s := s.sound .supervisor) hlock hlen hrise hshare hlast
  · intro p windows minimum hc hw
    refine settled_of_write h hc (by simp [Cursor.bodyLength]) ?_ h.listens
    exact State.writeRouting_ok (s := s.sound .supervisor) hw
  · intro t p hc hp
    refine settled_of_write h hc (by simp [Cursor.bodyLength]) ?_ h.listens
    exact State.writeFallback_printer (s := s.sound .supervisor) hp
  · intro t hc
    refine settled_of_write h hc rfl ?_ h.listens
    exact State.writeFallback_none (s := s.sound .supervisor)
  · intro t amount hc ha
    refine settled_of_write h hc (by simp [Cursor.bodyLength]) ?_ h.listens
    exact State.writeTolerance_ok (s := s.sound .supervisor) ha
  · intro burst pause routeWait jobWait lowStock latches enable hc hb hp hr hj hl limits
    refine settled_of_write h hc (by simp [Cursor.bodyLength]) ?_ h.listens
    show State.writeLimits _ _ = _
    rw [State.writeLimits, limitsOf_eq hb hp hr hj hl, State.settleQuiet_eq]
    rfl

end Sys2Proof.Machine
end

section
/-! The waits of a job (R62, R63, R66). -/

namespace Sys2Proof.Machine

variable {s : State} {j : Job}

/-- R62, R66: the outcome of a job whose job wait has expired. -/
theorem Job.waitOutcome_code (j : Job) : (j.endOutcome j.waitOutcome).code
    = if j.printed = j.quantity then 0 else if j.target = none then 2 else 3 := by
  unfold Job.endOutcome Job.waitOutcome
  split
  · rfl
  · cases j.target <;> rfl

/-- R66: the bytes of JOB END after a job wait. -/
theorem jobEnd_wait (j : Job) : jobEnd j (j.endOutcome j.waitOutcome) = ⟨0x83#8, j.ref.tag,
    be 1 (if j.printed = j.quantity then 0 else if j.target = none then 2 else 3) ++ be 1 j.printed
      ++ be 2 j.jamSpoiled ++ beInt 4 j.charged⟩ := by
  rw [← Job.waitOutcome_code]
  rfl

theorem execJobWait_found (hj : s.job? j.ref = some j) : execJobWait j.ref.window j.ref.tag s
    = event s (j.state == .queued && j.jobWait.isSome) fun s =>
        (({ s with jobs := s.jobs.filter (·.ref != j.ref) } : State).send (.window j.ref.window)
          [jobEnd j (j.endOutcome j.waitOutcome)]).commit s [] := by
  unfold execJobWait
  dsimp only
  rw [hj]

theorem execRouteWait_found (hj : s.job? j.ref = some j) : execRouteWait j.ref.window j.ref.tag s
    = event s (j.state == .queued && j.routeWait.isSome) fun s =>
        s.modJob j.ref fun i => { i with routePassed := true, routeWait := none } := by
  unfold execRouteWait
  dsimp only
  rw [hj]

/-- A wait of a QUEUED job expires where it runs. -/
theorem waiting_eq {o : Option Nat} (hq : j.state = .queued) :
    (j.state == .queued && o.isSome) = decide (o ≠ none) := by
  rw [hq, beq_self_eq_true, Bool.true_and]
  cases o <;> rfl

/-- Settles O59, wait by wait. -/
theorem jobWaits : Obligations.JobWaits := by
  intro s j hr hj hq outcome
  refine ⟨fun hw => ?_, fun hw => ?_, fun hw => ?_, fun hw => ?_⟩
  · refine settled_of_step ((execJobWait_found hj).trans
      (event_occurs hr ((waiting_eq hq).trans (decide_eq_true hw)))) ?_
    rw [jobEnd_wait]
    have hleft : s.jobs.filter (·.ref != j.ref) = s.jobs.filter fun i => decide (i.ref ≠ j.ref) :=
      List.filter_congr fun i _ => by rw [bne, beq_eq_decide, decide_not]
    rw [hleft]
  · exact (execRouteWait_found hj).trans (event_occurs hr ((waiting_eq hq).trans (decide_eq_true hw)))
  · exact (execJobWait_found hj).trans (event_passes (.inr (by rw [hw, Option.isSome_none, Bool.and_false])))
  · exact (execRouteWait_found hj).trans (event_passes (.inr (by rw [hw, Option.isSome_none, Bool.and_false])))

end Sys2Proof.Machine
end

section
/-! What an arbiter chooses (R52 to R54, R70). -/

namespace Sys2Proof.Machine

variable {s : State} {p : PrinterId} {jobs : List Job} {pointer : Window} {j : Job}

/-! ## The rotation (R54) -/

/-- R54: how far a window stands after the pointer. -/
def distanceAfter (pointer w : Window) : Window := w - (pointer + 1)

theorem distanceAfter_val : ∀ pointer w : Window,
    (distanceAfter pointer w).val = (w.val + 12 - (pointer.val + 1)) % 12 := by decide

theorem eq_add_iff_distanceAfter {w i : Window} : w = pointer + 1 + i ↔ distanceAfter pointer w = i := by
  unfold distanceAfter
  rw [sub_eq_iff_eq_add, add_comm]

theorem allWindows_sorted : allWindows.Pairwise (· < ·) := List.pairwise_lt_finRange 12

theorem firstInRotation_eq (pointer : Window) (jobs : List Job) : firstInRotation pointer jobs
    = allWindows.findSome? fun i => jobs.find? fun j => distanceAfter pointer j.ref.window == i := by
  unfold firstInRotation rotationAfter
  rw [List.findSome?_map]
  have hwindow (i : Window) (j : Job) :
      (j.ref.window == pointer + 1 + i) = (distanceAfter pointer j.ref.window == i) := by
    rw [Bool.eq_iff_iff, beq_iff_eq, beq_iff_eq]
    exact eq_add_iff_distanceAfter
  simp only [Function.comp_def, hwindow]

/-- The rotation passes every window. -/
theorem firstInRotation_eq_none : firstInRotation pointer jobs = none ↔ jobs = [] := by
  rw [firstInRotation_eq, List.findSome?_eq_none_iff]
  constructor
  · intro h
    refine List.eq_nil_iff_forall_not_mem.2 fun j hj => ?_
    have := List.find?_eq_none.1 (h (distanceAfter pointer j.ref.window) (mem_allWindows _)) j hj
    exact this (beq_self_eq_true _)
  · rintro rfl i -
    rfl

/-- R54, step 3: the job found is the first of the first window that has one. -/
theorem firstInRotation_eq_some (h : firstInRotation pointer jobs = some j) :
    (∀ i ∈ jobs, distanceAfter pointer j.ref.window ≤ distanceAfter pointer i.ref.window)
      ∧ jobs.find? (fun i => distanceAfter pointer i.ref.window == distanceAfter pointer j.ref.window) = some j := by
  rw [firstInRotation_eq] at h
  obtain ⟨nearer, d, farther, hwindows, hfound, hnone⟩ := List.findSome?_eq_some_iff.1 h
  obtain rfl : distanceAfter pointer j.ref.window = d :=
    beq_iff_eq.1 (List.find?_some (p := fun j : Job => distanceAfter pointer j.ref.window == d) hfound)
  refine ⟨fun i hi => ?_, hfound⟩
  have hmem := mem_allWindows (distanceAfter pointer i.ref.window)
  have hsorted := allWindows_sorted
  rw [hwindows] at hmem hsorted
  obtain hnear | hmem := List.mem_append.1 hmem
  · exact absurd (beq_self_eq_true _) (List.find?_eq_none.1 (hnone _ hnear) i hi)
  · obtain heq | hfar := List.mem_cons.1 hmem
    · exact heq.ge
    · exact (List.rel_of_pairwise_cons (List.pairwise_append.1 hsorted).2.1 hfar).le

/-! ## Specific jobs before pool jobs (R54) -/

/-- R54: an eligible job that no job of the other class bars: specific where an eligible one is, else pool. -/
def State.contends (s : State) (p : PrinterId) (i : Job) : Bool :=
  s.eligible p i && (s.jobs.any (fun j => s.eligible p j && j.target.isSome) == i.target.isSome)

theorem State.contends_iff {i : Job} : s.contends p i = true ↔ s.eligible p i = true
    ∧ (i.target = none ↔ ∀ k ∈ s.jobs, s.eligible p k = true → k.target = none) := by
  unfold State.contends
  have hclass : (∀ k ∈ s.jobs, s.eligible p k = true → k.target = none)
      ↔ s.jobs.any (fun j => s.eligible p j && j.target.isSome) = false := by
    simp only [List.any_eq_false, Bool.and_eq_true, not_and, Bool.not_eq_true, Option.isSome_eq_false_iff,
      Option.isNone_iff_eq_none]
  rw [Bool.and_eq_true, beq_iff_eq, hclass]
  cases i.target <;> cases s.jobs.any (fun j => s.eligible p j && j.target.isSome) <;> simp

theorem State.preferred_eligible (s : State) (p : PrinterId) :
    preferred (s.jobs.filter (s.eligible p)) = s.jobs.filter (s.contends p) := by
  unfold preferred
  rw [List.any_filter, List.filter_filter]
  split
  · next h => exact List.filter_congr fun i _ => by rw [State.contends, h, Bool.true_beq, Bool.and_comm]
  · next h =>
    rw [Bool.not_eq_true] at h
    refine List.filter_congr fun i hi => ?_
    have hpool := Bool.eq_false_iff.2 (List.any_eq_false.1 h i hi)
    rw [State.contends, h, Bool.false_beq]
    cases he : s.eligible p i with
    | false => rfl
    | true => rw [he, Bool.true_and] at hpool; rw [hpool]; rfl

theorem State.contends_none : s.jobs.filter (s.contends p) = [] ↔ ∀ j ∈ s.jobs, s.eligible p j = false := by
  rw [← State.preferred_eligible]
  have hempty (l : List Job) : preferred l = [] ↔ l = [] := by
    unfold preferred
    split
    · next h =>
      obtain ⟨j, hj, ht⟩ := List.any_eq_true.1 h
      exact iff_of_false (List.ne_nil_of_mem (List.mem_filter.2 ⟨hj, ht⟩)) (List.ne_nil_of_mem hj)
    · rfl
  rw [hempty, List.filter_eq_nil_iff]
  simp only [Bool.not_eq_true]

/-! ## The choice -/

/-- R70: a test print waiting for its grant. -/
theorem State.pending_iff {x : TestPrint} : (s.printers[p].test.filter (!·.sent)) = some x
    ↔ s.printers[p].test = some x ∧ x.sent = false := by
  rw [Option.filter_eq_some_iff, Bool.not_eq_true']

theorem State.pending_none (h : ∀ x, s.printers[p].test = some x → x.sent = true) :
    s.printers[p].test.filter (!·.sent) = none :=
  Option.filter_eq_none_iff.2 fun x hx => by rw [h x hx]; decide

theorem State.choose_test {x : TestPrint} :
    s.choose p = .test x ↔ s.printers[p].test = some x ∧ x.sent = false := by
  rw [← State.pending_iff]
  unfold State.choose
  split
  · next y hy => rw [hy, Option.some.injEq, Choice.test.injEq]
  · next hnone =>
    rw [hnone]
    refine iff_of_false (fun h => ?_) (Option.some_ne_none x).symm
    split at h
    · split at h <;> cases h
    · split at h <;> cases h

theorem State.claimant_some {ref : JobRef} (hh : s.printers[p].arbiter.holder = some ref) (hj : s.job? ref = some j)
    (hs : s.suits p j = true) (hb : s.printers[p].arbiter.burst < s.limits.burst) : s.claimant p = some j := by
  unfold State.claimant
  dsimp only
  rw [hh, Option.bind_some, hj, Option.filter_some_pos hs]
  exact Option.filter_some_pos (decide_eq_true hb)

theorem State.claimant_none (h : ∀ (ref : JobRef) (j : Job), s.printers[p].arbiter.holder = some ref →
    s.job? ref = some j → s.suits p j = false ∨ s.limits.burst ≤ s.printers[p].arbiter.burst) :
    s.claimant p = none := by
  refine Option.filter_eq_none_iff.2 fun j hj hb => ?_
  obtain ⟨hfound, hs⟩ := Option.filter_eq_some_iff.1 hj
  obtain ⟨ref, hh, hjob⟩ := Option.bind_eq_some_iff.1 hfound
  obtain hf | hle := h ref j hh hjob
  · exact Bool.false_ne_true (hf.symm.trans hs)
  · exact absurd (of_decide_eq_true hb) hle.not_gt

theorem State.choose_holder (ht : s.printers[p].test.filter (!·.sent) = none) (hc : s.claimant p = some j) :
    s.choose p = if s.entryHolds p j then .holder j else .nothing := by
  unfold State.choose
  rw [ht, hc]

theorem State.choose_contending (ht : s.printers[p].test.filter (!·.sent) = none) (hc : s.claimant p = none) :
    s.choose p = (firstInRotation s.printers[p].arbiter.rotation (s.jobs.filter (s.contends p))).elim .nothing
      .burst := by
  unfold State.choose
  rw [ht, hc, State.preferred_eligible]
  cases firstInRotation s.printers[p].arbiter.rotation (s.jobs.filter (s.contends p)) <;> rfl

/-- Settles O58, in the order of the arbiter's steps. -/
theorem arbiterChoice : Obligations.ArbiterChoice := by
  intro s p a distance
  refine ⟨fun x => State.choose_test, fun ht => ⟨fun ref j hh hj hs hb => ?_, fun hbarred => ?_⟩⟩
  · exact State.choose_holder (State.pending_none ht) (State.claimant_some hh hj hs hb)
  · rw [State.choose_contending (State.pending_none ht) (State.claimant_none hbarred)]
    cases hfirst : firstInRotation s.printers[p].arbiter.rotation (s.jobs.filter (s.contends p)) with
    | none =>
      refine ⟨iff_of_true rfl (State.contends_none.1 (firstInRotation_eq_none.1 hfirst)), fun j hj => ?_⟩
      cases hj
    | some j =>
      obtain ⟨hnearest, hfound⟩ := firstInRotation_eq_some hfirst
      have hmem := List.mem_filter.1 (List.mem_of_find?_eq_some hfound)
      obtain ⟨hel, hclass⟩ := State.contends_iff.1 hmem.2
      have contends {i : Job} (hi : s.eligible p i = true) (hsame : i.target = none ↔ j.target = none) :
          s.contends p i = true := State.contends_iff.2 ⟨hi, hsame.trans hclass⟩
      refine ⟨iff_of_false (by simp) fun hnone => Bool.false_ne_true ((hnone j hmem.1).symm.trans hel), ?_⟩
      rintro _ ⟨⟩
      refine ⟨hmem.1, hel, hclass.1, fun i hi hie hsame => ?_, ?_⟩
      · have := hnearest i (List.mem_filter.2 ⟨hi, contends hie hsame⟩)
        rwa [Fin.le_def, distanceAfter_val, distanceAfter_val] at this
      · rw [List.find?_filter] at hfound
        obtain ⟨-, before, after, hjobs, hbefore⟩ := List.find?_eq_some_iff_append.1 hfound
        refine ⟨before, after, hjobs, fun i hi hw hsame => ?_⟩
        by_contra hie
        have hfree := hbefore i hi
        rw [contends (Bool.not_eq_false _ ▸ hie) hsame, hw] at hfree
        simp at hfree

end Sys2Proof.Machine
end

section
/-! A terminal port attaches, breaks and sends (R67, R162, R170 to R172, R176). -/

namespace Sys2Proof.Machine

variable {s : State} {port : Port} {w : Window}

theorem State.modPort_modPort (s : State) (port : Port) (f g : PortRecord → PortRecord) :
    (s.modPort port f).modPort port g = s.modPort port (g ∘ f) := by
  cases port with
  | supervisor => rfl
  | window w =>
    have hw : (s.ports.set w (f s.ports[w]))[w] = f s.ports[w] := (vecGet_set ..).trans (if_pos rfl)
    have hports : (s.ports.set w (f s.ports[w])).set w (g (s.ports.set w (f s.ports[w]))[w])
        = s.ports.set w (g (f s.ports[w])) := by
      rw [hw]
      exact Vector.set_set ..
    exact congrArg (fun ports => ({ s with ports := ports } : State)) hports

/-! ## Attaching (R172) -/

/-- R170, R172: a port ATTACHED, with the first frame that falls due on it. -/
def PortRecord.greeted (r : PortRecord) (f : Frame) : PortRecord :=
  { attached := true, rx := .fresh, tx := r.tx ++ [f] }

theorem State.attach_greeted (s : State) (port : Port) (f : Frame) :
    (s.modPort port fun r => { r with attached := true, rx := .fresh }).send port [f]
      = s.modPort port (·.greeted f) := by
  unfold State.send
  rw [State.modPort_modPort]
  rfl

theorem State.portStatus_modPort (s : State) (port : Port) (f : PortRecord → PortRecord) :
    (s.modPort port f).portStatus port = s.portStatus port := by
  cases port <;> rfl

theorem execAttach_supervisor (hr : s.phase = .running) (ha : s.svPort.attached = false) :
    execAttach .supervisor s
      = .next (s.modPort .supervisor (·.greeted (s.portStatus .supervisor))) := by
  have hoccurs : (!(s.port .supervisor).attached) = true := congrArg (!·) ha
  refine (event_occurs hr hoccurs).trans (congrArg Host.Outcome.next ?_)
  dsimp only
  rw [State.attach_greeted, State.portStatus_modPort]

theorem execAttach_window (hr : s.phase = .running) (ha : s.ports[w].attached = false) :
    execAttach (.window w) s
      = .next (((s.modPort (.window w) (·.greeted (s.portStatus (.window w)))).endCondition (.window w)
          .lineBreak).modWindowFlags w fun f => { f with line := true }) := by
  have hoccurs : (!(s.port (.window w)).attached) = true := congrArg (!·) ha
  refine (event_occurs hr hoccurs).trans (congrArg Host.Outcome.next ?_)
  dsimp only
  rw [State.attach_greeted, State.portStatus_modPort]

/-- R154: what the end of a condition leaves. -/
theorem State.endCondition_eq (s : State) (a : Source) (k : Kind) : s.endCondition a k = { s with
    reports := s.reports.map fun r => if r.source = a ∧ r.kind = k ∧ r.state ≠ .cleared then
        { r with
          active := some false
          state := if r.state = .acknowledged then .cleared else r.state }
      else r } := by
  refine congrArg (fun reports => ({ s with reports := reports } : State)) (List.map_congr_left fun r _ => ?_)
  exact if_congr Report.uncleared_iff rfl rfl

/-! ## Breaking (R67, R162, R171) -/

/-- R162: the LINE_BREAK of a window whose shift is not IDLE. -/
def State.breakReports (s : State) (w : Window) : List Occurrence :=
  if s.shifts[w].state = .idle then [] else [{ source := .window w, kind := .lineBreak }]

theorem execLineBreak_window (h : s.Hears (.window w)) : execLineBreak (.window w) s
    = .next ((({ s with ports := s.ports.set w .start } : State).endJobs (fun j => j.ref.window == w)
        .detached).commit s (s.breakReports w)) :=
  event_occurs h.1 h.2

theorem execLineBreak_supervisor (h : s.Hears .supervisor) :
    execLineBreak .supervisor s = .next (s.modPort .supervisor fun _ => .start) := event_occurs h.1 h.2

/-! ## Sending (R176) -/

theorem execFrameSent_hears (h : s.Hears port) :
    execFrameSent port s = .next (s.modPort port fun r => { r with tx := r.tx.tail }) := event_occurs h.1 h.2

/-! ## Events that do not occur (log 2) -/

theorem event_unheard {act : State → State} (h : ¬s.Hears port) : event s (s.port port).attached act = .next s :=
  event_passes ((not_and_or.1 h).imp_right Bool.eq_false_iff.2)

theorem execLineBreak_unheard (h : ¬s.Hears port) : execLineBreak port s = .next s := event_unheard h

theorem execFrameSent_unheard (h : ¬s.Hears port) : execFrameSent port s = .next s := event_unheard h

theorem execFrameGap_unheard (h : ¬s.Hears port) : execFrameGap port s = .next s := event_unheard h

theorem execAttach_passes (h : s.phase ≠ .running ∨ (s.port port).attached = true) :
    execAttach port s = .next s :=
  event_passes (h.imp_right (congrArg (!·)))

/-- Settles O23, event by event. -/
theorem portAttachBreakSend : Obligations.PortAttachBreakSend := by
  refine ⟨fun s => execAttach_supervisor, fun s w hr ha => (execAttach_window hr ha).trans ?_,
    fun s => execLineBreak_supervisor, fun s w h => ?_, fun s => execFrameSent_hears, fun s w => execFrameSent_hears,
    fun s port => ⟨fun h => ⟨execLineBreak_unheard h, execFrameSent_unheard h, execFrameGap_unheard h⟩,
      execAttach_passes⟩⟩
  · rw [State.endCondition_eq]
    rfl
  · obtain ⟨t, ht, hset, htold⟩ := settled_of_event (execLineBreak_window h) rfl
    refine ⟨t, ht, hset, fun hs => htold { source := .window w, kind := .lineBreak } ?_⟩
    unfold State.breakReports
    rw [if_neg hs]
    exact List.mem_singleton.2 rfl

end Sys2Proof.Machine
end

section
/-! ISSUE (R46 to R49, R62, R63): its body read back, and the job it makes. -/

namespace Sys2Proof.Machine

variable {s : State} {fields : List (List Byte)} {fare concession split tender quantity selector : Nat}

/-! ## The body -/

/-- 9.8, ISSUE: the fields of the body. -/
def issueBody (fare concession split tender quantity selector : Nat) (fields : List (List Byte)) : List Byte :=
  be 3 fare ++ be 1 concession ++ be 1 split ++ be 1 tender ++ be 1 quantity ++ be 1 selector
    ++ be 1 fields.length ++ fieldBytes fields

/-- What follows a field does not matter to it. -/
theorem num_append {l more : List Byte} {off width : Nat} (h : off + width ≤ l.length) :
    num (l ++ more) off width = num l off width := by
  unfold num
  rw [List.drop_append_of_le_length (by omega), List.take_append_of_le_length (by rw [List.length_drop]; omega)]

theorem issueBody_fare (h : fare < 16777216) :
    num (issueBody fare concession split tender quantity selector fields) 0 3 = fare := by
  unfold issueBody
  iterate 7 rw [num_append (by simp)]
  exact num_be_only h

theorem issueBody_concession (h : concession < 256) :
    num (issueBody fare concession split tender quantity selector fields) 3 1 = concession := by
  unfold issueBody
  iterate 6 rw [num_append (by simp)]
  exact num_be_last (by simp) h

theorem issueBody_split (h : split < 256) :
    num (issueBody fare concession split tender quantity selector fields) 4 1 = split := by
  unfold issueBody
  iterate 5 rw [num_append (by simp)]
  exact num_be_last (by simp) h

theorem issueBody_tender (h : tender < 256) :
    num (issueBody fare concession split tender quantity selector fields) 5 1 = tender := by
  unfold issueBody
  iterate 4 rw [num_append (by simp)]
  exact num_be_last (by simp) h

theorem issueBody_quantity (h : quantity < 256) :
    num (issueBody fare concession split tender quantity selector fields) 6 1 = quantity := by
  unfold issueBody
  iterate 3 rw [num_append (by simp)]
  exact num_be_last (by simp) h

theorem issueBody_selector (h : selector < 256) :
    num (issueBody fare concession split tender quantity selector fields) 7 1 = selector := by
  unfold issueBody
  iterate 2 rw [num_append (by simp)]
  exact num_be_last (by simp) h

theorem issueBody_fieldCount (h : fields.length < 256) :
    num (issueBody fare concession split tender quantity selector fields) 8 1 = fields.length := by
  unfold issueBody
  rw [num_append (by simp)]
  exact num_be_last (by simp) h

theorem issueBody_drop :
    (issueBody fare concession split tender quantity selector fields).drop 9 = fieldBytes fields :=
  List.drop_left' (by simp)

theorem issueBody_length :
    (issueBody fare concession split tender quantity selector fields).length = 9 + bodyLength fields := by
  unfold issueBody
  rw [List.length_append, fieldBytes_length]
  simp

/-! ## The fields' meanings -/

theorem Tender.code_lt (t : Tender) : t.code < 3 := by cases t <;> decide

theorem tenderNamed_code (t : Tender) : tenderNamed t.code = some t := by cases t <;> rfl

/-- 9.8, ISSUE byte 7: a selector names a pool job's stock type, or a specific job's printer with a stock type or
the one of the pack loaded there. -/
def State.Selects (s : State) (selector : Nat) (target : Option PrinterId) (stock : StockType) : Prop :=
  (target = none ∧ selector = stock.val)
    ∨ ∃ p : PrinterId, target = some p ∧ (selector = 128 + 16 * (stock.val + 1) + p.val
        ∨ selector = 128 + p.val ∧ ∃ k, s.loadedPack p = some k ∧ k.stock = stock)

theorem State.Selects.lt {target : Option PrinterId} {stock : StockType} (h : s.Selects selector target stock) :
    selector < 256 := by
  have hstock := stock.isLt
  obtain ⟨-, rfl⟩ | ⟨p, -, rfl | ⟨rfl, -⟩⟩ := h <;> omega

/-- R48, check 7, and R49. -/
theorem State.Selects.selected {target : Option PrinterId} {stock : StockType} (h : s.Selects selector target stock) :
    s.selected (selectorOf selector) = .ok (target, stock) := by
  have hstock := stock.isLt
  obtain ⟨rfl, rfl⟩ | ⟨p, rfl, hp⟩ := h
  · have hpool : selectorOf stock.val = .pool stock.val := if_pos (by omega)
    rw [hpool]
    exact want_bind (named_val stock)
  · have hlt := p.isLt
    obtain rfl | ⟨rfl, k, hk, rfl⟩ := hp
    · have hspecific : selectorOf (128 + 16 * (stock.val + 1) + p.val) = .specific p.val (stock.val + 1) :=
        (if_neg (by omega)).trans (by congr 1 <;> omega)
      rw [hspecific]
      refine (want_bind (named_val p)).trans ((if_neg (Nat.succ_ne_zero _)).trans ?_)
      exact want_bind (named_val stock)
    · have hspecific : selectorOf (128 + p.val) = .specific p.val 0 :=
        (if_neg (by omega)).trans (by congr 1 <;> omega)
      rw [hspecific]
      exact (want_bind (named_val p)).trans ((if_pos rfl).trans (want_bind hk))

/-! ## The job -/

/-- R48: the checks that an ISSUE for a window passes on the state. -/
structure State.MayIssue (s : State) (w : Window) (tag : Tag) : Prop where
  day : s.dayOpen = true
  shift : s.shifts[w].state = .opened
  fresh : ∀ j ∈ s.jobs, j.ref ≠ { window := w, tag := tag }
  room : s.jobs.length < Config.maxJobs
  share : s.liveJobs w < Config.maxJobsPerWindow

theorem State.issueJob_eq {w : Window} {tag : Tag} {concession split : EntryIndex} {tender : Tender}
    {target : Option PrinterId} {stock : StockType} (h : s.MayIssue w tag) (hfare : fare ≤ 1999999)
    (hconcession : s.concessions[concession].valid = true) (hsplit : s.splits[split] ≠ [])
    (hquantity : quantity ≤ 63) (hselects : s.Selects selector target stock)
    (hfields : ticketBody fields.length (fieldBytes fields) = some fields) (hcount : fields.length ≤ 12) :
    s.issueJob w tag (issueBody fare concession.val split.val tender.code quantity selector fields) = .ok
      { ref := { window := w, tag := tag }, target := target, stock := stock, concession := concession,
        split := split, tender := tender, baseFare := fare, unit := unitCharge fare s.concessions[concession],
        quantity := if quantity = 0 then 64 else quantity, printed := 0, jamSpoiled := 0, state := .queued,
        fields := fields, routePassed := false, current := none, lastEntry := none, charged := 0,
        jobWait := some s.limits.jobWait
        routeWait := if target = none then some s.limits.routeWait else none } := by
  have hc := concession.isLt
  have hs := split.isLt
  have ht := tender.code_lt
  have hstate : (s.dayOpen && s.shifts[w].state == .opened) = true := by rw [h.day, h.shift]; rfl
  have hfresh : (s.job? { window := w, tag := tag }).isNone = true := by
    rw [State.job?_isNone, List.all_eq_true]
    exact fun j hj => bne_iff_ne.2 (h.fresh j hj)
  have hparts : (!(s.splits[split] : Split).isEmpty) = true := by
    rw [← bne_nil_eq]
    exact bne_iff_ne.2 hsplit
  unfold State.issueJob
  rw [issueBody_fare (by omega), issueBody_concession (by omega), issueBody_split (by omega),
    issueBody_tender (by omega), issueBody_quantity (by omega), issueBody_selector hselects.lt,
    issueBody_fieldCount (by omega), issueBody_drop]
  rw [need_bind hstate, need_bind hfresh, need_bind (decide_eq_true h.room), need_bind (decide_eq_true h.share)]
  dsimp only
  rw [need_bind (b := decide (fare ≤ Config.maxFare)) (decide_eq_true hfare), named_val, want_bind rfl,
    need_bind hconcession, named_val, want_bind rfl, need_bind hparts, hselects.selected]
  refine (want_bind hfields).trans ((want_bind (tenderNamed_code tender)).trans
    ((need_bind (decide_eq_true hquantity)).trans ?_))
  cases target <;> rfl

theorem execIssue_ok {w : Window} {tag : Tag} {body : List Byte} {job : Job} (h : s.Hears (.window w))
    (hfits : fits 9 Config.maxFrameBody body = true) (hjob : (s.sound (.window w)).issueJob w tag body = .ok job) :
    execIssue (.window w) tag body s = .next (({ s with jobs := s.jobs ++ [job] } : State).answered (.window w)
      (acceptedFrame Cmd.issue tag (be 3 job.unit ++ be 4 (job.unit * job.quantity)))) := by
  refine windowCommand_ok h hfits (bind_eq_ok.2 ⟨job, hjob, congrArg Except.ok ?_⟩)
  exact State.sound_send (port := .window w) (s := { s with jobs := s.jobs ++ [job] }) h.listens _

theorem issueBody_fits (h : bodyLength fields ≤ 200) :
    fits 9 Config.maxFrameBody (issueBody fare concession split tender quantity selector fields) = true := by
  unfold fits
  rw [issueBody_length, Bool.and_eq_true, decide_eq_true_eq, decide_eq_true_eq]
  exact ⟨Nat.le_add_right .., by simp only [Config.maxFrameBody]; omega⟩

/-- Settles O27, by the command's checks in order. -/
theorem issueAccepted : Obligations.IssueAccepted := by
  intro s w tag fare quantity selector concession split tender fields target stock h hday hshift hfresh hroom hshare
    hfare hconcession hsplit hquantity hselects h1 h12 h40 h200 unit asked job
  rw [← bodyLength_eq] at h200
  have hjob := State.issueJob_eq (s := s.sound (.window w)) (tender := tender)
    ⟨hday, hshift, hfresh, hroom, hshare⟩ hfare hconcession hsplit hquantity hselects
    (ticketBody_fieldBytes h1 h12 h40 h200) h12
  exact execIssue_ok h (issueBody_fits h200) hjob

end Sys2Proof.Machine
end

section
/-! JAMMED (R61, R71, R82 to R84, R87): the run it spoils, the slots it empties, and the tickets it reports. -/

namespace Sys2Proof.Machine

variable {s : State} {p : PrinterId} {f g : Ticket}

/-! ## Tickets that end (R61, R71, R87, R118) -/

/-- R61, R71, R118: what tickets that end leave, apart from their reports: their reservations released, their jobs
backed off and their test print ended. -/
def State.released (s : State) (p : PrinterId) (l : List Ticket) : State :=
  { s with
    shifts := Vector.ofFn fun w : Window => { s.shifts[w] with
      reservations := s.shifts[w].reservations - lostReservations l w }
    printers := s.printers.set p ((s.printers[p]).backedOff l) }

/-- R71, R87: the report of a ticket that ends: TICKET REPORT of a job's, TEST DONE of a test print's. -/
def State.reportEnd (u : State) (p : PrinterId) (f : Ticket) (test : Option TestPrint) (o : TicketOutcome)
    (x : TestOutcome) : State :=
  match f.owner with
  | some ref => u.send (.window ref.window) [ticketReport ref.tag p f o]
  | none => match test with
    | some y => u.send .supervisor [testDone y.tag p (some f) x]
    | none => u

theorem State.released_printer (s : State) (p : PrinterId) (l : List Ticket) :
    (s.released p l).printers[p] = (s.printers[p]).backedOff l := (vecGet_set ..).trans (if_pos rfl)

/-- Tickets that end leave what lost ones do, apart from the frames. -/
theorem State.released_eq_lose (s : State) (p : PrinterId) (l : List Ticket) :
    s.released p l = { s.lose p l with ports := s.ports, svPort := s.svPort } := rfl

theorem State.released_released (s : State) (p : PrinterId) (l m : List Ticket) :
    (s.released p l).released p m = s.released p (l ++ m) := by
  rw [s.released_eq_lose p (l ++ m), ← State.lose_lose]
  rfl

theorem State.released_send (port : Port) (frames : List Frame) (l : List Ticket) :
    (s.send port frames).released p l = (s.released p l).send port frames := by
  cases port <;> rfl

theorem State.released_reportEnd (s : State) (test : Option TestPrint) (o : TicketOutcome) (x : TestOutcome)
    (l : List Ticket) :
    (s.reportEnd p f test o x).released p l = (s.released p l).reportEnd p f test o x := by
  unfold State.reportEnd
  cases f.owner with
  | some ref => exact State.released_send ..
  | none =>
    cases test with
    | some y => exact State.released_send ..
    | none => rfl

theorem State.returnBlank_reportEnd (s : State) (test : Option TestPrint) (o : TicketOutcome) (x : TestOutcome)
    (pack serial : Nat) :
    (s.reportEnd p f test o x).returnBlank pack serial = (s.returnBlank pack serial).reportEnd p f test o x := by
  unfold State.reportEnd
  cases f.owner with
  | some ref => rfl
  | none => cases test <;> rfl

theorem State.reportEnd_printers (s : State) (test : Option TestPrint) (o : TicketOutcome) (x : TestOutcome) :
    (s.reportEnd p f test o x).printers = s.printers := by
  unfold State.reportEnd
  cases f.owner with
  | some ref => rfl
  | none => cases test <;> rfl

theorem State.released_of_send {r : State} {port : Port} {frames : List Frame}
    (e : r.send port frames = s.loseTicket p f) (hports : r.ports = s.ports) (hsv : r.svPort = s.svPort) : s.released p [f] = r := by
  rw [State.loseTicket_eq] at e
  calc s.released p [f] = { r.send port frames with ports := s.ports, svPort := s.svPort } := by
        rw [e]; exact s.released_eq_lose p [f]
    _ = { r with ports := s.ports, svPort := s.svPort } := by cases port <;> rfl
    _ = r := by rw [← hports, ← hsv]

/-- R61, R71, R87, R118: a ticket that ends. -/
theorem State.ticketEnds_eq (s : State) (p : PrinterId) (f : Ticket) (o : TicketOutcome) (x : TestOutcome) :
    ((s.releaseTicket f).backOff p f.owner).ticketEnds p f o x
      = (s.released p [f]).reportEnd p f s.printers[p].test o x := by
  unfold State.reportEnd
  cases h : f.owner with
  | some ref =>
    have hlost : s.loseTicket p f = (((s.releaseTicket f).backOff p (some ref)).send (.window ref.window)
        [ticketReport ref.tag p f .lost]) := by
      rw [State.loseTicket, h, State.ticketEnds_job h]
    rw [State.ticketEnds_job h, State.released_of_send hlost.symm]
    · rw [State.releaseTicket_job h]; rfl
    · rw [State.releaseTicket_job h]; rfl
  | none =>
    rw [State.releaseTicket_test h, State.backOff_test]
    cases hx : s.printers[p].test with
    | some y =>
      have hlost : s.loseTicket p f = (s.modPrinter p fun pr => { pr with test := none }).send .supervisor
          [testDone y.tag p (some f) .lost] := by
        rw [State.loseTicket, State.releaseTicket_test h, h, State.backOff_test, State.ticketEnds_test h hx]
      rw [State.ticketEnds_test h hx, State.released_of_send hlost.symm rfl rfl]
    | none =>
      have ends (o : TicketOutcome) (x : TestOutcome) : s.ticketEnds p f o x = s := by
        rw [State.ticketEnds, h, hx]
      have hlost : s.loseTicket p f = s.send .supervisor [] := by
        rw [State.loseTicket, State.releaseTicket_test h, h, State.backOff_test, ends]
        exact congrArg (fun port => ({ s with svPort := port } : State)) (PortRecord.push_nil s.svPort).symm
      rw [ends]
      exact (State.released_of_send hlost.symm rfl rfl).symm

/-! ## The blanks a jam spoils (R82 to R84) -/

/-- R83, R84, R88, R116: a jam's run written and counted. -/
def State.jamWritten (s : State) (p : PrinterId) (f : Ticket) (count : Nat) : State :=
  { s with
    spoils := s.spoils ++
      [⟨f.pack, f.serial, count, if f.owner = none then .test else .jam, some p, f.owner, s.clock⟩]
    packs := s.packs.map fun x => if x.id = f.pack then
        { x with spoiled := x.spoiled + count, next := max x.next (f.serial + count) } else x
    shifts := Vector.ofFn fun w : Window => { s.shifts[w] with
      spoils := if f.owner.any (·.window == w) then min (s.shifts[w].spoils + count) 65535 else s.shifts[w].spoils }
    jobs := s.jobs.map fun j => if f.owner = some j.ref then
      { j with jamSpoiled := min (j.jamSpoiled + count) 65535 } else j }

theorem State.jamWritten_eq (s : State) (p : PrinterId) (f : Ticket) (count : Nat) :
    (s.writeRun f.pack f.serial count (if f.owner.isSome then .jam else .test) (some p) f.owner).countJam f.owner count
      = s.jamWritten p f count := by
  unfold State.jamWritten
  cases f.owner with
  | some ref =>
    have hshifts : s.shifts.set ref.window { s.shifts[ref.window] with
        spoils := raised s.shifts[ref.window].spoils count }
          = Vector.ofFn fun w : Window => { s.shifts[w] with
              spoils := if (some ref).any (·.window == w) then min (s.shifts[w].spoils + count) 65535
                else s.shifts[w].spoils } := vector_ext_get fun w => by
      rw [vecGet_set, vecGet_ofFn, Option.any_some]
      by_cases hw : w = ref.window
      · subst hw; rw [if_pos rfl, if_pos (beq_self_eq_true _)]; rfl
      · rw [if_neg hw, if_neg (by rw [beq_iff_eq]; exact Ne.symm hw)]
    simp only [Option.some.injEq, eq_comm (a := ref)]
    rw [← hshifts]
    rfl
  | none =>
    have hshifts : s.shifts = Vector.ofFn fun w : Window => { s.shifts[w] with
        spoils := if (none : Option JobRef).any (·.window == w) then min (s.shifts[w].spoils + count) 65535
          else s.shifts[w].spoils } :=
      vector_ext_get fun w => by rw [vecGet_ofFn]; rfl
    have hjobs : s.jobs = s.jobs.map fun j => if none = some j.ref then
        { j with jamSpoiled := min (j.jamSpoiled + count) 65535 } else j := by
      simp
    rw [← hshifts, ← hjobs]
    rfl

/-- R82, R84: the packs after a jam: the staged ticket's blank is returned where the run did not take it. -/
def State.jammedPacks (s : State) (f : Ticket) (count : Nat) (staged : Option Ticket) : List Pack :=
  s.packs.map fun x => if x.id = f.pack then
      { x with
        spoiled := x.spoiled + count
        next := if staged.isSome ∧ count = 1 then f.serial + 1 else max x.next (f.serial + count) }
    else x

theorem State.jammedPacks_kept (s : State) (p : PrinterId) {count : Nat} {staged : Option Ticket}
    (h : staged = none ∨ 2 ≤ count) : s.jammedPacks f count staged = (s.jamWritten p f count).packs := by
  have hkept : ¬(staged.isSome = true ∧ count = 1) := by
    rintro ⟨hs, rfl⟩
    obtain rfl | h := h
    · cases hs
    · omega
  unfold State.jammedPacks
  simp only [if_neg hkept]
  rfl

theorem State.jammedPacks_returned (s : State) (p : PrinterId) (hpack : g.pack = f.pack)
    (hserial : g.serial = f.serial + 1) :
    s.jammedPacks f 1 (some g) = ((s.jamWritten p f 1).returnBlank g.pack g.serial).packs := by
  unfold State.jammedPacks State.returnBlank State.modPack State.jamWritten
  rw [List.map_map, hpack, hserial]
  refine List.map_congr_left fun x _ => ?_
  dsimp only [Function.comp]
  by_cases hx : x.id = f.pack
  · simp only [if_pos hx, Option.isSome_some, and_self, if_true]
  · simp only [if_neg hx]

/-! ## The jam -/

/-- R83, R84: a printer whose slots a jam has emptied. -/
def Printer.jammed (q : Printer) : Printer :=
  { q with
    printing := none, staged := none, printTimer := false
    conditions := { q.conditions with jamPresent := true } }

/-- R83, R84: what a jam leaves, apart from the reports of its tickets. -/
def State.jammed (s : State) (p : PrinterId) (f : Ticket) (count : Nat) (lost : List Ticket) (packs : List Pack) :
    State :=
  { s.jamWritten p f count with
    packs := packs
    printers := s.printers.set p { (s.printers[p]).jammed with
      arbiter := { (s.printers[p]).arbiter with
        holder := (s.printers[p]).arbiter.holder.filter fun ref => lost.all (·.owner != some ref) }
      test := if lost.all (·.owner != none) then (s.printers[p]).test else none }
    shifts := Vector.ofFn fun w : Window => { s.shifts[w] with
      reservations := s.shifts[w].reservations - lostReservations lost w
      spoils := if f.owner.any (·.window == w) then min (s.shifts[w].spoils + count) 65535
        else s.shifts[w].spoils } }

theorem Printer.jammed_backedOff (q : Printer) (lost : List Ticket) : q.jammed.backedOff lost = { q.jammed with
    arbiter := { q.arbiter with holder := q.arbiter.holder.filter fun ref => lost.all (·.owner != some ref) }
    test := if lost.all (·.owner != none) then q.test else none } := by
  have htest : lost.find? (·.owner == none) = none ↔ lost.all (·.owner != none) = true := by
    rw [List.find?_eq_none, List.all_eq_true]
    simp only [beq_iff_eq, bne_iff_ne]
  unfold Printer.backedOff
  simp only [htest]
  rfl

theorem State.jammed_eq (s : State) (p : PrinterId) (f : Ticket) (count : Nat) (lost : List Ticket)
    (packs : List Pack) :
    (({ s.jamWritten p f count with packs := packs } : State).modPrinter p Printer.jammed).released p lost
      = s.jammed p f count lost packs := by
  have hprinters : (s.printers.set p (s.printers[p]).jammed).set p
      (((s.printers.set p (s.printers[p]).jammed)[p]).backedOff lost)
        = (s.jammed p f count lost packs).printers := by
    rw [vecGet_set, if_pos rfl, Printer.jammed_backedOff]
    exact Vector.set_set ..
  have hshifts : (Vector.ofFn fun w : Window => { (s.jamWritten p f count).shifts[w] with
      reservations := (s.jamWritten p f count).shifts[w].reservations - lostReservations lost w })
        = (s.jammed p f count lost packs).shifts := vector_ext_get fun w => by
    unfold State.jammed State.jamWritten
    rw [vecGet_ofFn, vecGet_ofFn, vecGet_ofFn]
  exact congrArg₂ (fun printers shifts => ({ s.jammed p f count lost packs with
    printers := printers, shifts := shifts } : State)) hprinters hshifts

theorem State.modPrinter_countJam (g : Printer → Printer) (owner : Option JobRef) (count : Nat) :
    (s.modPrinter p g).countJam owner count = (s.countJam owner count).modPrinter p g := by
  cases owner <;> rfl

/-- R83, R84: the printing ticket of a jam spoiled and reported. -/
theorem State.jam_printing (s : State) (p : PrinterId) (f : Ticket) (count : Nat) :
    (((((s.modPrinter p Printer.jammed).writeRun f.pack f.serial count (if f.owner.isSome then .jam else .test) (some p)
      f.owner).countJam f.owner count).releaseTicket f).backOff p f.owner).ticketEnds p f (.jammed count)
        (.jammed count)
      = (((s.jamWritten p f count).modPrinter p Printer.jammed).released p [f]).reportEnd p f (s.printers[p]).test
          (.jammed count) (.jammed count) := by
  rw [State.modPrinter_writeRun, State.modPrinter_countJam, State.jamWritten_eq, State.ticketEnds_eq,
    State.modPrinter_get, if_pos rfl]
  rfl

theorem State.jam_alone {count : Nat} (h : s.printers[p].staged = none) : s.jam p f count
    = (s.jammed p f count [f] (s.jammedPacks f count none)).reportEnd p f (s.printers[p]).test (.jammed count)
        (.jammed count) := by
  unfold State.jam
  dsimp only
  rw [h]
  rw [← State.jammed_eq, State.jammedPacks_kept s p (.inl rfl)]
  exact s.jam_printing p f count

/-- R71: the test print of a printer once its ticket has ended. -/
theorem Printer.backedOff_test (q : Printer) (f : Ticket) :
    (q.backedOff [f]).test = if f.owner = none then none else q.test := by
  unfold Printer.backedOff
  cases h : f.owner <;> simp [h]

/-- R84: a discarded ticket's blank returned unless the run took it. -/
def State.spare (s : State) (g : Ticket) (spoiled : Bool) : State :=
  if spoiled then s else s.returnBlank g.pack g.serial

theorem State.spare_reportEnd (s : State) (g : Ticket) (spoiled : Bool) (test : Option TestPrint) (o : TicketOutcome)
    (x : TestOutcome) : (s.reportEnd p f test o x).spare g spoiled = (s.spare g spoiled).reportEnd p f test o x := by
  cases spoiled with
  | true => rfl
  | false => exact State.returnBlank_reportEnd ..

theorem State.spare_released (s : State) (g : Ticket) (spoiled : Bool) (l : List Ticket) :
    (s.released p l).spare g spoiled = (s.spare g spoiled).released p l := by
  cases spoiled <;> rfl

theorem State.spare_printers (s : State) (g : Ticket) (spoiled : Bool) : (s.spare g spoiled).printers = s.printers := by
  cases spoiled <;> rfl

theorem State.discardStaged_eq (s : State) (p : PrinterId) (g : Ticket) (spoiled : Bool) :
    s.discardStaged p g spoiled = ((s.spare g spoiled).released p [g]).reportEnd p g (s.printers[p]).test
      (.discarded spoiled) .discarded := by
  rw [← s.spare_printers g spoiled]
  exact State.ticketEnds_eq (s.spare g spoiled) p g (.discarded spoiled) .discarded

/-- R84: the packs and the slots of a jam that discards a staged ticket. -/
theorem State.spare_jammed {count : Nat} (hpos : 1 ≤ count) (hpack : g.pack = f.pack)
    (hserial : g.serial = f.serial + 1) :
    ((s.jamWritten p f count).modPrinter p Printer.jammed).spare g (2 ≤ count)
      = ({ s.jamWritten p f count with packs := s.jammedPacks f count (some g) } : State).modPrinter p
          Printer.jammed := by
  by_cases h : 2 ≤ count
  · rw [s.jammedPacks_kept p (.inr h), State.spare, if_pos (decide_eq_true h)]
  · obtain rfl : count = 1 := by omega
    rw [s.jammedPacks_returned p hpack hserial]
    rfl

theorem State.jam_staged {count : Nat} (h : s.printers[p].staged = some g) (hpos : 1 ≤ count)
    (hpack : g.pack = f.pack) (hserial : g.serial = f.serial + 1) : s.jam p f count
    = ((s.jammed p f count [f, g] (s.jammedPacks f count (some g))).reportEnd p f (s.printers[p]).test (.jammed count)
        (.jammed count)).reportEnd p g (if f.owner = none then none else (s.printers[p]).test)
          (.discarded (2 ≤ count)) .discarded := by
  have htest : ((((s.jamWritten p f count).modPrinter p Printer.jammed).released p [f]).reportEnd p f
      (s.printers[p]).test (.jammed count) (.jammed count)).printers[p].test
        = if f.owner = none then none else (s.printers[p]).test := by
    rw [State.reportEnd_printers, State.released_printer, Printer.backedOff_test, State.modPrinter_get, if_pos rfl]
    rfl
  have hjam : s.jam p f count = ((((s.jamWritten p f count).modPrinter p Printer.jammed).released p [f]).reportEnd p f
      (s.printers[p]).test (.jammed count) (.jammed count)).discardStaged p g (2 ≤ count) := by
    rw [← State.jam_printing, State.jam, h]
    rfl
  rw [hjam, State.discardStaged_eq, htest, State.spare_reportEnd, State.spare_released,
    State.spare_jammed hpos hpack hserial, State.released_reportEnd, State.released_released, State.jammed_eq]
  rfl

/-! ## The command -/

theorem execJammed_takes {n : Byte} (h : s.HearsPrinter p) (hp : s.printers[p].printing = some f) :
    execJammed p 1#8 [n] s = .next ((s.jam p f (s.jamRun f n.toNat)).commit s
      (s.jamProtocol p f n.toNat ++ [jamReport p f])) := by
  refine printerFrame_takes h.decodes rfl ?_
  rw [hp, num_byte_head]
  exact if_pos rfl

/-- R82: the blanks that a jam spoils. -/
theorem State.jamRun_eq {k : Pack} (hk : s.pack? f.pack = some k) (n : Nat) :
    s.jamRun f n = min (max 1 (min 4 n)) (k.last + 1 - f.serial) := by
  unfold State.jamRun
  rw [hk]
  rfl

theorem State.jamProtocol_eq (n : Byte) : s.jamProtocol p f n.toNat =
    if n = 0#8 then [{ source := .printer p, kind := .protocol }]
    else if s.jamRun f n.toNat < max 1 (min 4 n.toNat) then
      [{ source := .printer p, kind := .protocol, pack := some f.pack, serial := some f.serial }]
    else [] :=
  if_congr (BitVec.toNat_inj (y := 0#8)) rfl rfl

/-- Settles O51, by what is staged behind the ticket jammed. -/
theorem jammed : Obligations.Jammed := by
  intro s p f k n h hp hk hserial hstaged q asked count lost tell jammed first u
  have hcount : s.jamRun f n.toNat = count := State.jamRun_eq hk _
  have hpos : 1 ≤ count := by omega
  have hu : s.jam p f count = u := by
    cases hs : s.printers[p].staged with
    | none =>
      rw [State.jam_alone hs]
      simp only [u, first, jammed, lost, q, hs]
      rfl
    | some g =>
      obtain ⟨hpack, hnext⟩ := hstaged g hs
      rw [State.jam_staged hs hpos hpack hnext]
      simp only [u, first, jammed, lost, q, hs]
      rfl
  have step := execJammed_takes (n := n) h hp
  rw [hcount, hu, State.jamProtocol_eq, hcount] at step
  obtain ⟨t, ht, hset, htold⟩ := settled_of_event step rfl
  refine ⟨t, ht, hset, htold (jamReport p f) (List.mem_append_right _ (List.mem_singleton_self _)), fun hn => ?_⟩
  by_cases h0 : n = 0#8
  · exact htold { source := .printer p, kind := .protocol } (List.mem_append_left _ (by
      rw [if_pos h0]; exact List.mem_singleton_self _))
  · exact htold { source := .printer p, kind := .protocol, pack := some f.pack, serial := some f.serial }
      (List.mem_append_left _ (by
        rw [if_neg h0, if_pos (hn.resolve_left h0)]; exact List.mem_singleton_self _))

end Sys2Proof.Machine
end

section
/-! The names of the jobs in the queue (R45): what leaves them alone, operation by operation. -/

namespace Sys2Proof.Machine

/-- The jobs of the queue by window and tag, in order of arrival. -/
def State.names (s : State) : List JobRef := s.jobs.map (·.ref)

variable (s : State)

theorem State.names_of_jobs {s t : State} (h : t.jobs = s.jobs) : t.names = s.names :=
  congrArg (List.map Job.ref) h

/-! ## Frames -/

theorem State.names_modPort (port : Port) (f : PortRecord → PortRecord) : (s.modPort port f).names = s.names :=
  State.names_of_jobs (s.modPort_jobs port f)

theorem State.names_send (port : Port) (fs : List Frame) : (s.send port fs).names = s.names := s.names_modPort ..

theorem State.names_accept (port : Port) (kind : Byte) (tag : Tag) (fields : List Byte) :
    (s.accept port kind tag fields).names = s.names := s.names_send ..

theorem State.names_reply (port : Port) (kind : Byte) (tag : Tag) (body : List Byte) :
    (s.reply port kind tag body).names = s.names := s.names_send ..

/-! ## Jobs -/

theorem State.names_map {s t : State} {f : Job → Job} (h : t.jobs = s.jobs.map f) (hf : ∀ j, (f j).ref = j.ref) :
    t.names = s.names := by
  unfold State.names
  rw [h, List.map_map]
  exact List.map_congr_left fun j _ => hf j

theorem State.names_modJob (ref : JobRef) {f : Job → Job} (hf : ∀ j, (f j).ref = j.ref) :
    (s.modJob ref f).names = s.names :=
  State.names_map rfl fun j => by
    split
    · exact hf j
    · rfl

theorem Job.toEnding_ref (j : Job) (e : Ending) : (j.toEnding e).ref = j.ref := by
  unfold Job.toEnding
  cases j.state <;> rfl

theorem State.names_endJobs (chosen : Job → Bool) (e : Ending) : (s.endJobs chosen e).names = s.names :=
  State.names_map rfl fun j => by
    split
    · exact j.toEnding_ref e
    · rfl

theorem State.names_endRecordFull (p : PrinterId) : (s.endRecordFull p).names = s.names :=
  State.names_map rfl fun j => by
    split
    · exact j.toEnding_ref _
    · rfl

theorem State.names_countJam (owner : Option JobRef) (k : Nat) : (s.countJam owner k).names = s.names := by
  cases owner with
  | none => rfl
  | some ref => exact s.names_modJob ref fun _ => rfl

theorem State.names_stop (phase : Phase) : (s.stop phase).names = s.names := State.names_map rfl fun _ => rfl

/-! ## Blanks and tickets -/

theorem State.names_writeRun (pack first count : Nat) (cause : Cause) (printer : Option PrinterId)
    (charged : Option JobRef) : (s.writeRun pack first count cause printer charged).names = s.names := by
  cases charged <;> rfl

theorem State.names_spoilRange (p : PrinterId) (pack first : Nat) (charges : List (Option JobRef)) :
    (s.spoilRange p pack first charges).names = s.names := by
  unfold State.spoilRange
  induction runsOf first charges generalizing s with
  | nil => rfl
  | cons r runs ih => exact (ih _).trans (s.names_writeRun ..)

theorem State.names_writeOff (k : Pack) : (s.writeOff k).names = s.names := by
  have hpack (a : State) (f : Pack → Pack) : (a.modPack k.id f).names = a.names := rfl
  unfold State.writeOff
  dsimp only
  rw [hpack]
  split
  · exact s.names_writeRun ..
  · rfl

theorem State.names_releaseTicket (f : Ticket) : (s.releaseTicket f).names = s.names := by
  unfold State.releaseTicket
  split <;> rfl

theorem State.names_ticketEnds (p : PrinterId) (f : Ticket) (o : TicketOutcome) (x : TestOutcome) :
    (s.ticketEnds p f o x).names = s.names := by
  unfold State.ticketEnds
  split
  · exact s.names_send ..
  · split
    · exact State.names_send ..
    · rfl

/-- R61, R87, R118: a ticket that ends names no job anew. -/
theorem State.names_ticketGone (p : PrinterId) (f : Ticket) (o : TicketOutcome) (x : TestOutcome) :
    (((s.releaseTicket f).backOff p f.owner).ticketEnds p f o x).names = s.names :=
  (State.names_ticketEnds ..).trans (s.names_releaseTicket f)

theorem State.names_loseTickets (p : PrinterId) : (s.loseTickets p).names = s.names := by
  unfold State.loseTickets
  rw [State.foldl_loseTicket]
  rfl

theorem State.names_withdrawStaged (p : PrinterId) (f : Ticket) : (s.withdrawStaged p f).names = s.names :=
  State.names_ticketGone ..

theorem State.names_discardStaged (p : PrinterId) (f : Ticket) (spoiled : Bool) :
    (s.discardStaged p f spoiled).names = s.names := by
  refine (State.names_ticketGone ..).trans ?_
  split <;> rfl

theorem State.names_jam (p : PrinterId) (f : Ticket) (k : Nat) : (s.jam p f k).names = s.names := by
  have hfirst (a : State) (cause : Cause) : (((((a.writeRun f.pack f.serial k cause (some p) f.owner).countJam f.owner
      k).releaseTicket f).backOff p f.owner).ticketEnds p f (.jammed k) (.jammed k)).names = a.names :=
    (State.names_ticketGone ..).trans ((State.names_countJam ..).trans (a.names_writeRun ..))
  unfold State.jam
  dsimp only
  split
  · exact (State.names_discardStaged ..).trans (hfirst ..)
  · exact hfirst ..

theorem State.names_printedJob (p : PrinterId) (f : Ticket) (ref : JobRef) (read : Option Nat) :
    (s.printedJob p f ref read).names = s.names := by
  unfold State.printedJob
  dsimp only
  split
  · exact (State.names_send ..).trans (State.names_modJob _ _ fun _ => rfl)
  · rfl

theorem State.names_printedTest (p : PrinterId) (f : Ticket) (read : Option Nat) :
    (s.printedTest p f read).names = s.names :=
  (State.names_ticketEnds ..).trans (State.names_writeRun ..)

/-! ## Grants -/

theorem State.names_sendJob (p : PrinterId) (k : Pack) (j : Job) : (s.sendJob p k j).names = s.names :=
  State.names_modJob _ _ fun _ => rfl

theorem State.names_grantOne (p : PrinterId) (k : Pack) : (s.grantOne p k).names = s.names := by
  unfold State.grantOne
  cases s.choose p with
  | nothing => rfl
  | test x => rfl
  | holder j => exact s.names_sendJob p k j
  | burst j => exact s.names_sendJob p k j

/-! ## Lines and packs -/

theorem State.names_endLoadCheck (p : PrinterId) (c : LoadCheck) (o : LoadOutcome) :
    (s.endLoadCheck p c o).names = s.names := State.names_send ..

theorem State.names_endUnloadCheck (p : PrinterId) (c : UnloadCheck) (pack : Option Nat) (o : UnloadOutcome) :
    (s.endUnloadCheck p c pack o).names = s.names := State.names_send ..

theorem State.names_endChecks (p : PrinterId) : (s.endChecks p).names = s.names := by
  have hunload (a : State) : State.names (match a.printers[p].unloadCheck with
      | some c => a.endUnloadCheck p c a.printers[p].loaded .linkLost
      | none => a) = a.names := by
    split
    · exact State.names_endUnloadCheck ..
    · rfl
  refine (hunload _).trans ?_
  split
  · exact State.names_endLoadCheck ..
  · rfl

theorem State.names_linkLoss (p : PrinterId) (link : Link) : (s.linkLoss p link).names = s.names :=
  (State.names_endChecks ..).trans (s.names_loseTickets p)

theorem State.names_forceDown (p : PrinterId) : (s.forceDown p).names = s.names := by
  unfold State.forceDown
  split
  · exact s.names_linkLoss ..
  · rfl
  · rfl
  · rfl

theorem State.names_spoilOut (p : PrinterId) : (s.spoilOut p).names = s.names := by
  unfold State.spoilOut
  split
  · exact s.names_spoilRange ..
  · rfl

theorem State.names_compromise (p : PrinterId) : (s.compromise p).names = s.names := by
  unfold State.compromise
  dsimp only
  split <;> rfl

/-- R145, R146: CLOSE DAY names no job anew. -/
theorem State.names_closed :
    ({ s.emptyShifts.emptySpoils.removeCleared.markDay with dayOpen := false } : State).names = s.names :=
  State.names_of_jobs (by rw [State.dayClosed_eq])

/-- No table of the settings touches the queue. -/
theorem State.names_writeEntry (body : List Byte) : Leaves (s.writeEntry body) fun t => t.names = s.names := by
  unfold State.writeEntry
  split
  · exact .need fun _ => .need fun _ => .pure rfl
  · exact .need fun _ => .need fun _ => .want fun _ _ => .need fun _ => .pure rfl
  · exact .want fun _ _ => .pure rfl
  · unfold State.writeFallback
    split
    · exact .pure rfl
    · exact .want fun _ _ => .need fun _ => .pure rfl
  · exact .pure rfl
  · exact .pure rfl

end Sys2Proof.Machine
end

section
/-! Jobs leave the queue at most, but for ISSUE (R45): every command, every step (O13). -/

namespace Sys2Proof.Machine

/-- No job joins the queue, and those that stay keep their order. -/
def State.Sheds (s t : State) : Prop := t.names.Sublist s.names

variable {s t u : State}

theorem State.Sheds.of_names (h : t.names = s.names) : s.Sheds t := by
  unfold State.Sheds
  rw [h]

theorem State.Sheds.trans (h : s.Sheds t) (k : t.Sheds u) : s.Sheds u := List.Sublist.trans k h

theorem State.sheds_commit (s before : State) (told : List Occurrence) : s.Sheds (s.commit before told) := by
  have hjobs := (s.commit_settled before told).jobs
  have href (j : Job) : (s.requeued (s.commit before told) j).ref = j.ref := by
    unfold State.requeued
    split <;> rfl
  unfold State.Sheds State.names
  rw [hjobs, List.map_map, show Job.ref ∘ s.requeued (s.commit before told) = Job.ref from funext href]
  exact List.filter_sublist.map _

theorem State.liveJobs_eq_names (s : State) (w : Window) : s.liveJobs w = s.names.countP (·.window == w) := by
  unfold State.liveJobs State.names
  rw [List.countP_map]
  rfl

theorem State.queueSound_iff : s.QueueSound
    ↔ s.names.length ≤ 32 ∧ (∀ w : Window, s.names.countP (·.window == w) ≤ 4) ∧ s.names.Nodup := by
  unfold State.QueueSound
  simp only [State.liveJobs_eq_names]
  rw [State.names, List.length_map]

theorem State.Sheds.queueSound (h : s.Sheds t) (hs : s.QueueSound) : t.QueueSound := by
  obtain ⟨hlength, hshare, hnodup⟩ := State.queueSound_iff.1 hs
  exact State.queueSound_iff.2 ⟨h.length_le.trans hlength, fun w => h.countP_le.trans (hshare w), hnodup.sublist h⟩

theorem State.QueueSound.same (hs : s.QueueSound) (h : t.names = s.names) : t.QueueSound :=
  (State.Sheds.of_names h).queueSound hs

/-- A command that named no job ends its step. -/
theorem State.QueueSound.ended (hs : s.QueueSound) (h : u.names = s.names) {before : State}
    {told : List Occurrence} : (u.commit before told).QueueSound := (u.sheds_commit ..).queueSound (hs.same h)

theorem State.queueSound_empty (h : s.jobs = []) : s.QueueSound :=
  State.queueSound_iff.2 (by simp [State.names, h])

/-! ## ISSUE (R45, R48) -/

/-- A job joins where there is room for it and its name is new. -/
theorem State.QueueSound.join (hs : s.QueueSound) {j : Job} (hlength : s.jobs.length < 32)
    (hshare : s.liveJobs j.ref.window < 4) (hnew : j.ref ∉ s.names) :
    ({ s with jobs := s.jobs ++ [j] } : State).QueueSound := by
  obtain ⟨-, hshares, hnodup⟩ := State.queueSound_iff.1 hs
  have hnames : ({ s with jobs := s.jobs ++ [j] } : State).names = s.names ++ [j.ref] := List.map_append
  refine State.queueSound_iff.2 ⟨?_, fun w => ?_, ?_⟩
  · rw [hnames, List.length_append, State.names, List.length_map]
    exact hlength
  · rw [hnames, List.countP_append, List.countP_singleton]
    split
    · next hw =>
      rw [← beq_iff_eq.1 hw, ← State.liveJobs_eq_names]
      exact hshare
    · exact hshares w
  · rw [hnames]
    exact List.concat_eq_append ▸ hnodup.concat hnew

/-- R48: an ISSUE that passes its checks has room for its job, whose name is new. -/
theorem State.issueJob_joins (a : State) (w : Window) (tag : Tag) (body : List Byte) :
    Leaves (a.issueJob w tag body) fun j =>
      a.jobs.length < 32 ∧ a.liveJobs j.ref.window < 4 ∧ j.ref ∉ a.names := by
  refine .need fun _ => .need fun hnew => .need fun hlength => .need fun hshare => .need fun _ => .want fun _ _ =>
    .need fun _ => .want fun _ _ => .need fun _ => .bind fun _ _ => .want fun _ _ => .want fun _ _ =>
      .need fun _ => .pure ⟨of_decide_eq_true hlength, of_decide_eq_true hshare, fun hmem => ?_⟩
  rw [State.job?_isNone, List.all_eq_true] at hnew
  obtain ⟨j, hj, href⟩ := List.mem_map.1 hmem
  exact bne_iff_ne.1 (hnew j hj) href

/-! ## The shells of the commands -/

/-- An answer whose state, if any, keeps the limits of the queue. -/
def State.KeepsQueue (s : State) (a : Answer) : Prop := s.QueueSound → ∀ t, a = .next t → t.QueueSound

theorem State.KeepsQueue.next (h : s.QueueSound → t.QueueSound) : s.KeepsQueue (.next t) := by
  rintro hs _ ⟨⟩
  exact h hs

theorem State.KeepsQueue.fault (f : Fault) : s.KeepsQueue (.fault f) := by rintro - _ ⟨⟩

theorem State.QueueSound.answer {port : Port} {kind : Byte} {tag : Tag} {r : Except Code State} (hs : s.QueueSound)
    (h : Leaves r State.QueueSound) : (s.answer port kind tag r).QueueSound := by
  cases r with
  | error code => exact hs.same (s.names_send ..)
  | ok t => exact h t rfl

theorem windowCommand_keepsQueue {kind : Byte} {lo hi : Nat} {port : Port} {tag : Tag} {body : List Byte}
    {act : Window → State → Except Code State} (h : ∀ w a, a.QueueSound → Leaves (act w a) State.QueueSound) :
    s.KeepsQueue (windowCommand kind lo hi port tag body s act) := by
  refine .next fun hs => ?_
  split
  · have ha : (s.sound port).QueueSound := hs.same (s.names_modPort ..)
    refine ha.answer fun t ht => ?_
    cases port with
    | supervisor => cases ht
    | window w =>
      dsimp only at ht
      split at ht
      · exact h w _ ha t ht
      · cases ht
  · exact hs

theorem supervisorCommand_keepsQueue {kind : Byte} {lo hi : Nat} {port : Port} {tag : Tag} {body : List Byte}
    {act : State → Except Code State} (h : ∀ a, a.QueueSound → Leaves (act a) State.QueueSound) :
    s.KeepsQueue (supervisorCommand kind lo hi port tag body s act) := by
  refine .next fun hs => ?_
  split
  · have ha : (s.sound port).QueueSound := hs.same (s.names_modPort ..)
    refine ha.answer fun t ht => ?_
    cases port with
    | window w => cases ht
    | supervisor =>
      dsimp only at ht
      split at ht
      · exact h _ ha t ht
      · cases ht
  · exact hs

/-- A printer's frame that is not expected raises PROTOCOL alone. -/
theorem printerFrame_keepsQueue {p : PrinterId} {n : Nat} {body : List Byte} {act : State → Option State}
    (h : s.QueueSound → ∀ b, act s = some b → b.QueueSound) : s.KeepsQueue (printerFrame p n body s act) := by
  refine .next fun hs => ?_
  have hprotocol : (s.protocol p).QueueSound := hs.ended rfl
  split
  · split
    · cases ha : act s with
      | none => exact hprotocol
      | some b => exact h hs b ha
    · exact hprotocol
  · exact hs

theorem event_keepsQueue {occurs : Bool} {act : State → State} (h : s.QueueSound → (act s).QueueSound) :
    s.KeepsQueue (event s occurs act) := by
  refine .next fun hs => ?_
  split
  · exact h hs
  · exact hs

/-- An event that names no job and does not end its step. -/
theorem event_keepsQueue_same {occurs : Bool} {act : State → State} (h : (act s).names = s.names) :
    s.KeepsQueue (event s occurs act) := event_keepsQueue fun hs => hs.same h

/-- An event that names no job and ends its step. -/
theorem event_keepsQueue_ended {occurs : Bool} {u : State → State} {told : State → List Occurrence}
    (h : (u s).names = s.names) : s.KeepsQueue (event s occurs fun s => (u s).commit s (told s)) :=
  event_keepsQueue fun hs => hs.ended h

/-- A command whose checks hold and that names no job. -/
theorem Leaves.same {a u : State} (ha : a.QueueSound) (h : u.names = a.names) :
    Leaves (Pure.pure u) State.QueueSound := .pure (ha.same h)

/-- A command whose checks hold, that names no job and ends its step. -/
theorem Leaves.ended {a u before : State} {told : List Occurrence} (ha : a.QueueSound) (h : u.names = a.names) :
    Leaves (Pure.pure (u.commit before told)) State.QueueSound := .pure (ha.ended h)

/-- ACCEPTED after a change beside the queue. -/
theorem Leaves.accepted {a u : State} (ha : a.QueueSound) {port : Port} {kind : Byte} {tag : Tag}
    {fields : List Byte} (h : u.names = a.names) :
    Leaves (Pure.pure (u.accept port kind tag fields)) State.QueueSound :=
  .same ha ((u.names_accept ..).trans h)

theorem Leaves.replied {a : State} (ha : a.QueueSound) {port : Port} {kind : Byte} {tag : Tag} {fields : List Byte} :
    Leaves (Pure.pure (a.reply port kind tag fields)) State.QueueSound := .same ha (a.names_reply ..)

/-- ACCEPTED after a change beside the queue, at the end of a step. -/
theorem Leaves.acceptedEnded {a u before : State} {told : List Occurrence} (ha : a.QueueSound) {port : Port}
    {kind : Byte} {tag : Tag} {fields : List Byte} (h : u.names = a.names) :
    Leaves (Pure.pure ((u.accept port kind tag fields).commit before told)) State.QueueSound :=
  .ended ha ((u.names_accept ..).trans h)

end Sys2Proof.Machine
end

section
/-! Every command and event keeps the limits of the issue queue (O13). -/

namespace Sys2Proof.Machine

variable {s : State}

/-! ## Window commands -/

theorem execIssue_keepsQueue (port : Port) (tag : Tag) (body : List Byte) :
    s.KeepsQueue (execIssue port tag body s) :=
  windowCommand_keepsQueue fun w a ha => .bind fun j hj => by
    obtain ⟨hlength, hshare, hnew⟩ := a.issueJob_joins w tag body j hj
    exact .pure ((ha.join hlength hshare hnew).same (State.names_accept ..))

theorem execOpenShift_keepsQueue (port : Port) (tag : Tag) (body : List Byte) :
    s.KeepsQueue (execOpenShift port tag body s) :=
  windowCommand_keepsQueue fun _ _ ha => .need fun _ => .need fun _ => .accepted ha rfl

theorem execCancel_keepsQueue (port : Port) (tag : Tag) (body : List Byte) :
    s.KeepsQueue (execCancel port tag body s) :=
  windowCommand_keepsQueue fun _ _ ha => .need fun _ =>
    .ended ha ((State.names_endJobs ..).trans (State.names_accept ..))

theorem execVoid_keepsQueue (port : Port) (tag : Tag) (body : List Byte) : s.KeepsQueue (execVoid port tag body s) :=
  windowCommand_keepsQueue fun _ _ ha => .need fun _ => .want fun _ _ => .want fun _ _ => .want fun _ _ =>
    .need fun _ => .need fun _ => .need fun _ => .acceptedEnded ha rfl

theorem execRefund_keepsQueue (port : Port) (tag : Tag) (body : List Byte) :
    s.KeepsQueue (execRefund port tag body s) :=
  windowCommand_keepsQueue fun _ _ ha => .need fun _ => .need fun _ => .want fun _ _ => .want fun _ _ =>
    .need fun _ => .acceptedEnded ha rfl

theorem execCloseShift_keepsQueue (port : Port) (tag : Tag) (body : List Byte) :
    s.KeepsQueue (execCloseShift port tag body s) :=
  windowCommand_keepsQueue fun _ _ ha => .need fun _ =>
    .ended ha ((State.names_endJobs ..).trans (State.names_accept ..))

theorem execDeclare_keepsQueue (port : Port) (tag : Tag) (body : List Byte) :
    s.KeepsQueue (execDeclare port tag body s) :=
  windowCommand_keepsQueue fun _ _ ha => .need fun _ => .ended ha (State.names_send ..)

theorem execQueryShift_keepsQueue (port : Port) (tag : Tag) (body : List Byte) :
    s.KeepsQueue (execQueryShift port tag body s) :=
  windowCommand_keepsQueue fun _ _ ha => .replied ha

/-! ## Supervisor commands -/

theorem execReceivePack_keepsQueue (port : Port) (tag : Tag) (body : List Byte) :
    s.KeepsQueue (execReceivePack port tag body s) :=
  supervisorCommand_keepsQueue fun _ ha => .need fun _ => .want fun _ _ => .need fun _ => .need fun _ =>
    .need fun _ => .accepted ha rfl

theorem execLoadPack_keepsQueue (port : Port) (tag : Tag) (body : List Byte) :
    s.KeepsQueue (execLoadPack port tag body s) :=
  supervisorCommand_keepsQueue fun _ ha => .want fun _ _ => .want fun _ _ => .need fun _ => .need fun _ =>
    .need fun _ => .need fun _ => .acceptedEnded ha rfl

theorem execUnloadPack_keepsQueue (port : Port) (tag : Tag) (body : List Byte) :
    s.KeepsQueue (execUnloadPack port tag body s) :=
  supervisorCommand_keepsQueue fun _ ha => .want fun _ _ => .need fun _ => .need fun _ => .acceptedEnded ha rfl

theorem execForceUnload_keepsQueue (port : Port) (tag : Tag) (body : List Byte) :
    s.KeepsQueue (execForceUnload port tag body s) :=
  supervisorCommand_keepsQueue fun _ ha => .want fun _ _ => .need fun _ => .need fun _ => .ended ha
    ((State.names_compromise ..).trans ((State.names_spoilOut ..).trans (State.names_accept ..)))

theorem execWriteOffPack_keepsQueue (port : Port) (tag : Tag) (body : List Byte) :
    s.KeepsQueue (execWriteOffPack port tag body s) :=
  supervisorCommand_keepsQueue fun _ ha => .want fun _ _ => .need fun _ => .need fun _ =>
    .acceptedEnded ha (State.names_writeOff ..)

theorem execRetirePack_keepsQueue (port : Port) (tag : Tag) (body : List Byte) :
    s.KeepsQueue (execRetirePack port tag body s) :=
  supervisorCommand_keepsQueue fun _ ha => .want fun _ _ => .need fun _ => .accepted ha rfl

theorem execReadPack_keepsQueue (port : Port) (tag : Tag) (body : List Byte) :
    s.KeepsQueue (execReadPack port tag body s) :=
  supervisorCommand_keepsQueue fun _ ha => .bind fun _ _ => .replied ha

theorem execTestPrint_keepsQueue (port : Port) (tag : Tag) (body : List Byte) :
    s.KeepsQueue (execTestPrint port tag body s) :=
  supervisorCommand_keepsQueue fun _ ha => .want fun _ _ => .want fun _ _ => .need fun _ => .need fun _ =>
    .need fun _ => .accepted ha rfl

theorem execSetService_keepsQueue (port : Port) (tag : Tag) (body : List Byte) :
    s.KeepsQueue (execSetService port tag body s) :=
  supervisorCommand_keepsQueue fun _ ha => .want fun _ _ => .need fun _ => .need fun _ => .acceptedEnded ha rfl

theorem execResetLine_keepsQueue (port : Port) (tag : Tag) (body : List Byte) :
    s.KeepsQueue (execResetLine port tag body s) :=
  supervisorCommand_keepsQueue fun _ ha => .want fun _ _ =>
    .ended ha ((State.names_forceDown ..).trans (State.names_accept ..))

theorem execResolveDispute_keepsQueue (port : Port) (tag : Tag) (body : List Byte) :
    s.KeepsQueue (execResolveDispute port tag body s) :=
  supervisorCommand_keepsQueue fun _ ha => .want fun _ _ => .need fun _ => .need fun _ => .want fun _ _ =>
    .need fun _ => .bind fun pack _ => .acceptedEnded ha (by
      cases pack with
      | none => rfl
      | some k => exact State.names_writeOff ..)

theorem execReadSpoils_keepsQueue (port : Port) (tag : Tag) (body : List Byte) :
    s.KeepsQueue (execReadSpoils port tag body s) :=
  supervisorCommand_keepsQueue fun _ ha => .need fun _ => .replied ha

theorem execReadEntries_keepsQueue (port : Port) (tag : Tag) (body : List Byte) :
    s.KeepsQueue (execReadEntries port tag body s) :=
  supervisorCommand_keepsQueue fun _ ha => .need fun _ => .want fun _ _ => .need fun _ => .need fun _ => .replied ha

theorem execReadShift_keepsQueue (port : Port) (tag : Tag) (body : List Byte) :
    s.KeepsQueue (execReadShift port tag body s) :=
  supervisorCommand_keepsQueue fun _ ha => .want fun _ _ => .replied ha

theorem execReopenCount_keepsQueue (port : Port) (tag : Tag) (body : List Byte) :
    s.KeepsQueue (execReopenCount port tag body s) :=
  supervisorCommand_keepsQueue fun _ ha => .want fun _ _ => .need fun _ =>
    .same ha ((State.names_send ..).trans (State.names_accept ..))

theorem execSignOff_keepsQueue (port : Port) (tag : Tag) (body : List Byte) :
    s.KeepsQueue (execSignOff port tag body s) :=
  supervisorCommand_keepsQueue fun _ ha => .want fun _ _ => .need fun _ => .need fun _ =>
    .same ha ((State.names_send ..).trans (State.names_accept ..))

theorem execOpenDay_keepsQueue (port : Port) (tag : Tag) (body : List Byte) :
    s.KeepsQueue (execOpenDay port tag body s) :=
  supervisorCommand_keepsQueue fun _ ha => .need fun _ => .accepted ha rfl

theorem execCloseDay_keepsQueue (port : Port) (tag : Tag) (body : List Byte) :
    s.KeepsQueue (execCloseDay port tag body s) :=
  supervisorCommand_keepsQueue fun a ha => .need fun _ => .acceptedEnded ha a.names_closed

theorem execNextFault_keepsQueue (port : Port) (tag : Tag) (body : List Byte) :
    s.KeepsQueue (execNextFault port tag body s) :=
  supervisorCommand_keepsQueue fun _ ha => .replied ha

theorem execReadFault_keepsQueue (port : Port) (tag : Tag) (body : List Byte) :
    s.KeepsQueue (execReadFault port tag body s) :=
  supervisorCommand_keepsQueue fun _ ha => .want fun _ _ => .replied ha

theorem execAckFault_keepsQueue (port : Port) (tag : Tag) (body : List Byte) :
    s.KeepsQueue (execAckFault port tag body s) :=
  supervisorCommand_keepsQueue fun _ ha => .want fun _ _ => .same ha (State.names_accept ..)

theorem execReadChanges_keepsQueue (port : Port) (tag : Tag) (body : List Byte) :
    s.KeepsQueue (execReadChanges port tag body s) :=
  supervisorCommand_keepsQueue fun _ ha => .same ha (State.names_reply ..)

theorem execSilenceAlarm_keepsQueue (port : Port) (tag : Tag) (body : List Byte) :
    s.KeepsQueue (execSilenceAlarm port tag body s) :=
  supervisorCommand_keepsQueue fun _ ha => .same ha (State.names_accept ..)

theorem execSelectEntry_keepsQueue (port : Port) (tag : Tag) (body : List Byte) :
    s.KeepsQueue (execSelectEntry port tag body s) :=
  supervisorCommand_keepsQueue fun _ ha => .want fun _ _ => .accepted ha rfl

theorem execReadEntry_keepsQueue (port : Port) (tag : Tag) (body : List Byte) :
    s.KeepsQueue (execReadEntry port tag body s) :=
  supervisorCommand_keepsQueue fun _ ha => .replied ha

theorem execWriteEntry_keepsQueue (port : Port) (tag : Tag) (body : List Byte) :
    s.KeepsQueue (execWriteEntry port tag body s) :=
  supervisorCommand_keepsQueue fun a ha => .bind fun t ht => .acceptedEnded ha (a.names_writeEntry body t ht)

theorem execSetClock_keepsQueue (port : Port) (tag : Tag) (body : List Byte) :
    s.KeepsQueue (execSetClock port tag body s) :=
  supervisorCommand_keepsQueue fun _ ha => .need fun _ => .accepted ha rfl

theorem execReadOffice_keepsQueue (port : Port) (tag : Tag) (body : List Byte) :
    s.KeepsQueue (execReadOffice port tag body s) :=
  supervisorCommand_keepsQueue fun _ ha => .replied ha

end Sys2Proof.Machine
end

section
/-! The events keep the limits of the issue queue (O13). -/

namespace Sys2Proof.Machine

variable {s : State}

/-- The event of a wait that does not run. -/
theorem event_never_keepsQueue {act : State → State} : s.KeepsQueue (event s false act) :=
  .next fun hs => by
    rw [Bool.and_false]
    exact hs

/-! ## Terminal ports -/

theorem execUnknownKind_keepsQueue (port : Port) (kind : Byte) (tag : Tag) :
    s.KeepsQueue (execUnknownKind port kind tag s) := by
  unfold execUnknownKind
  split
  · exact .fault _
  · refine .next fun hs => ?_
    split
    · exact hs.same ((State.names_send ..).trans (s.names_modPort ..))
    · exact hs

theorem State.QueueSound.framingFault (hs : s.QueueSound) (port : Port) (frames : List Frame) :
    (s.framingFault port frames).QueueSound := hs.ended ((State.names_send ..).trans (s.names_modPort ..))

theorem execFrameError_keepsQueue (port : Port) (cause : FramingFault) :
    s.KeepsQueue (execFrameError port cause s) := by
  unfold execFrameError
  split
  · exact .fault _
  · refine .next fun hs => ?_
    split
    · cases cause with
      | badStart b =>
        dsimp only
        split
        · exact hs.framingFault ..
        · exact hs
      | badLength l => exact hs.framingFault ..
      | badCheck kind tag body check => exact hs.framingFault ..
    · exact hs

theorem execFrameGap_keepsQueue (port : Port) : s.KeepsQueue (execFrameGap port s) :=
  event_keepsQueue fun hs => hs.framingFault ..

theorem execLineBreak_keepsQueue (port : Port) : s.KeepsQueue (execLineBreak port s) :=
  event_keepsQueue fun hs => by
    cases port with
    | supervisor => exact hs.same (s.names_modPort ..)
    | window w => exact hs.ended ((State.names_endJobs ..).trans (s.names_modPort ..))

theorem execAttach_keepsQueue (port : Port) : s.KeepsQueue (execAttach port s) :=
  event_keepsQueue fun hs => by
    cases port with
    | supervisor => exact hs.same ((State.names_send ..).trans (s.names_modPort ..))
    | window w => exact hs.same rfl

theorem execFrameSent_keepsQueue (port : Port) : s.KeepsQueue (execFrameSent port s) :=
  event_keepsQueue_same (s.names_modPort ..)

/-! ## Printer frames -/

theorem execCapability_keepsQueue (p : PrinterId) (tag : Tag) (body : List Byte) :
    s.KeepsQueue (execCapability p tag body s) :=
  printerFrame_keepsQueue fun hs _ h => by
    cases h
    refine hs.ended ?_
    split <;> rfl

theorem execStatus_keepsQueue (p : PrinterId) (tag : Tag) (body : List Byte) :
    s.KeepsQueue (execStatus p tag body s) :=
  printerFrame_keepsQueue fun hs _ h => by
    cases h
    exact hs.ended (by rfl)

theorem execPrinted_keepsQueue (p : PrinterId) (tag : Tag) (body : List Byte) :
    s.KeepsQueue (execPrinted p tag body s) :=
  printerFrame_keepsQueue fun hs b h => by
    dsimp only at h
    split at h
    · split at h
      · split at h
        · cases h
          exact hs.ended (State.names_printedJob ..)
        · cases h
          exact hs.ended (State.names_printedTest ..)
      · cases h
    · cases h

theorem execJammed_keepsQueue (p : PrinterId) (tag : Tag) (body : List Byte) :
    s.KeepsQueue (execJammed p tag body s) :=
  printerFrame_keepsQueue fun hs b h => by
    split at h
    · split at h
      · cases h
        exact hs.ended (State.names_jam ..)
      · cases h
    · cases h

theorem execWithdrawn_keepsQueue (p : PrinterId) (tag : Tag) (body : List Byte) :
    s.KeepsQueue (execWithdrawn p tag body s) :=
  printerFrame_keepsQueue fun hs b h => by
    split at h
    · split at h
      · split at h
        · cases h
          exact hs.ended (State.names_withdrawStaged ..)
        · cases h
      · cases h
        exact hs.ended (by rfl)
    · cases h

theorem execTooLate_keepsQueue (p : PrinterId) (tag : Tag) (body : List Byte) :
    s.KeepsQueue (execTooLate p tag body s) :=
  printerFrame_keepsQueue fun hs b h => by
    dsimp only at h
    split at h
    · split at h
      · split at h
        · cases h
          exact hs.ended (by rfl)
        · cases h
      · cases h
        exact hs.ended (by rfl)
    · cases h

/-! ## TOP -/

theorem State.QueueSound.topLoad (hs : s.QueueSound) (p : PrinterId) (c : LoadCheck) (k : Pack) (t : Nat) :
    (s.topLoad p c k t).QueueSound := by
  unfold State.topLoad
  split
  · exact hs.ended ((State.names_endLoadCheck ..).trans (by rfl))
  · exact hs.ended (State.names_endLoadCheck ..)

theorem State.QueueSound.topUnload (hs : s.QueueSound) (p : PrinterId) (c : UnloadCheck) (k : Pack) (t : Nat) :
    (s.topUnload p c k t).QueueSound := by
  have hempty (a : State) : ((a.makeSafe k.id).emptyPrinter p).names = a.names := rfl
  unfold State.topUnload
  split
  · exact hs.ended ((State.names_endUnloadCheck ..).trans (hempty s))
  · split
    · exact hs.ended ((State.names_endUnloadCheck ..).trans ((hempty _).trans (s.names_writeRun ..)))
    · exact hs.ended ((State.names_endUnloadCheck ..).trans (by rfl))

theorem State.names_settleRange (s : State) (p : PrinterId) (g : Range) (t : Nat) :
    (s.settleRange p g t).names = s.names := s.names_spoilRange ..

theorem State.QueueSound.topRecover (hs : s.QueueSound) (p : PrinterId) (g : Range) (t : Nat) :
    (s.topRecover p g t).QueueSound := by
  unfold State.topRecover
  split
  · exact hs.ended (s.names_settleRange ..)
  · exact hs.ended (by rfl)

/-- Every TOP that is expected names no job. -/
theorem State.QueueSound.takeTop (hs : s.QueueSound) {p : PrinterId} {n : Nat} {b : State}
    (h : s.takeTop p n = some b) : b.QueueSound := by
  unfold State.takeTop at h
  dsimp only at h
  split at h
  · obtain ⟨k, -, rfl⟩ := Option.map_eq_some_iff.1 h
    exact hs.topLoad ..
  · split at h
    · obtain ⟨k, -, rfl⟩ := Option.map_eq_some_iff.1 h
      exact hs.topUnload ..
    · split at h
      · obtain ⟨g, -, hg⟩ := Option.bind_eq_some_iff.1 h
        obtain ⟨k, -, rfl⟩ := Option.map_eq_some_iff.1 hg
        exact hs.topRecover ..
      · cases h

theorem execTop_keepsQueue (p : PrinterId) (tag : Tag) (body : List Byte) : s.KeepsQueue (execTop p tag body s) :=
  printerFrame_keepsQueue fun hs _ h => hs.takeTop h

/-! ## Printer lines -/

theorem execPrinterFrameError_keepsQueue (p : PrinterId) (cause : FramingFault) :
    s.KeepsQueue (execPrinterFrameError p cause s) := by
  unfold execPrinterFrameError
  split
  · exact .fault _
  · exact event_keepsQueue_ended rfl

theorem execPrinterFrameGap_keepsQueue (p : PrinterId) : s.KeepsQueue (execPrinterFrameGap p s) :=
  event_keepsQueue_ended rfl

theorem execPrinterUnknownKind_keepsQueue (p : PrinterId) (kind : Byte) :
    s.KeepsQueue (execPrinterUnknownKind p kind s) := by
  unfold execPrinterUnknownKind
  split
  · exact .fault _
  · exact event_keepsQueue_ended rfl

theorem execIdleMark_keepsQueue (p : PrinterId) : s.KeepsQueue (execIdleMark p s) := event_keepsQueue_ended rfl

theorem execLinkGap_keepsQueue (p : PrinterId) (cause : GapCause) : s.KeepsQueue (execLinkGap p cause s) := by
  unfold execLinkGap
  split
  · exact event_keepsQueue_ended rfl
  · exact event_keepsQueue_same rfl
  · exact event_never_keepsQueue
  · exact event_never_keepsQueue

theorem execSettleTimer_keepsQueue (p : PrinterId) : s.KeepsQueue (execSettleTimer p s) :=
  event_keepsQueue_ended rfl

theorem execSilenceTimer_keepsQueue (p : PrinterId) : s.KeepsQueue (execSilenceTimer p s) :=
  event_keepsQueue_ended (s.names_linkLoss ..)

theorem execJabber_keepsQueue (p : PrinterId) : s.KeepsQueue (execJabber p s) :=
  event_keepsQueue_ended (s.names_linkLoss ..)

theorem execJabberQuiet_keepsQueue (p : PrinterId) : s.KeepsQueue (execJabberQuiet p s) :=
  event_keepsQueue_ended rfl

/-! ## Printer timers -/

theorem execCapabilityWait_keepsQueue (p : PrinterId) : s.KeepsQueue (execCapabilityWait p s) :=
  event_keepsQueue_ended rfl

theorem execPrintTimer_keepsQueue (p : PrinterId) : s.KeepsQueue (execPrintTimer p s) := by
  unfold execPrintTimer
  split
  · exact event_keepsQueue_ended (s.names_loseTickets p)
  · exact event_never_keepsQueue

theorem execPauseTimer_keepsQueue (p : PrinterId) : s.KeepsQueue (execPauseTimer p s) := by
  unfold execPauseTimer
  split
  · exact event_keepsQueue_ended rfl
  · exact event_never_keepsQueue

theorem execWithdrawalTimer_keepsQueue (p : PrinterId) : s.KeepsQueue (execWithdrawalTimer p s) :=
  event_keepsQueue_ended rfl

theorem execQueryTimer_keepsQueue (p : PrinterId) : s.KeepsQueue (execQueryTimer p s) := by
  unfold execQueryTimer
  split
  · exact event_keepsQueue_same rfl
  · exact event_keepsQueue_ended rfl
  · exact event_never_keepsQueue

theorem execLoadAnswerTimer_keepsQueue (p : PrinterId) : s.KeepsQueue (execLoadAnswerTimer p s) := by
  unfold execLoadAnswerTimer
  split
  · refine event_keepsQueue fun hs => ?_
    split
    · exact hs.same rfl
    · exact hs.ended (s.names_endLoadCheck ..)
  · exact event_never_keepsQueue

theorem execUnloadAnswerTimer_keepsQueue (p : PrinterId) : s.KeepsQueue (execUnloadAnswerTimer p s) := by
  unfold execUnloadAnswerTimer
  split
  · refine event_keepsQueue fun hs => ?_
    split
    · exact hs.same rfl
    · exact hs.ended (s.names_endUnloadCheck ..)
  · exact event_never_keepsQueue

/-! ## The queue and the pool -/

theorem execGrant_keepsQueue (p : PrinterId) : s.KeepsQueue (execGrant p s) :=
  event_keepsQueue fun hs => by
    split
    · exact hs.ended ((State.names_grantOne ..).trans (s.names_endRecordFull p))
    · exact hs

/-- R62, R66: the job that waits no longer leaves, and no job joins. -/
theorem State.sheds_filter (s : State) (keeps : Job → Bool) : s.Sheds { s with jobs := s.jobs.filter keeps } :=
  List.filter_sublist.map _

theorem execJobWait_keepsQueue (w : Window) (tag : Tag) : s.KeepsQueue (execJobWait w tag s) := by
  unfold execJobWait
  dsimp only
  split
  · exact event_keepsQueue fun hs => ((s.sheds_filter _).queueSound hs).ended (State.names_send ..)
  · exact event_never_keepsQueue

theorem execRouteWait_keepsQueue (w : Window) (tag : Tag) : s.KeepsQueue (execRouteWait w tag s) := by
  unfold execRouteWait
  dsimp only
  split
  · exact event_keepsQueue_same (s.names_modJob _ fun _ => rfl)
  · exact event_never_keepsQueue

/-! ## The box -/

theorem execClockPulse_keepsQueue : s.KeepsQueue (execClockPulse s) := .next fun hs => hs.same rfl

theorem execAlarmIn_keepsQueue (active : Bool) : s.KeepsQueue (execAlarmIn active s) := event_keepsQueue_ended rfl

theorem execActivityPulse_keepsQueue (p : PrinterId) : s.KeepsQueue (execActivityPulse p s) :=
  event_keepsQueue_same rfl

theorem execFlash_keepsQueue (p : PrinterId) : s.KeepsQueue (execFlash p s) := event_keepsQueue_same rfl

/-- R186, R187: either start empties the queue. -/
theorem State.startAs_queueSound (s : State) (kind : StartKind) (straps : Straps) :
    (s.startAs kind straps).QueueSound := by
  cases kind with
  | cold => exact State.queueSound_empty rfl
  | warm => exact State.queueSound_empty rfl

theorem execResetAsserted_keepsQueue : s.KeepsQueue (execResetAsserted s) :=
  .next fun hs => by
    dsimp only
    split
    · exact hs.same (State.names_stop ..)
    · exact hs.same rfl

theorem execResetReleased_keepsQueue (straps : Straps) : s.KeepsQueue (execResetReleased straps s) :=
  .next fun hs => by
    dsimp only
    split
    · exact State.startAs_queueSound ..
    · exact hs.same rfl
    · exact hs.same rfl

theorem execPowerUp_keepsQueue (backupGood : Bool) (straps : Straps) :
    s.KeepsQueue (execPowerUp backupGood straps s) :=
  .next fun hs => by
    split
    · split
      · exact hs.same rfl
      · exact State.startAs_queueSound ..
    · exact hs

theorem execPowerFail_keepsQueue : s.KeepsQueue (execPowerFail s) :=
  .next fun hs => by
    split
    · exact hs
    · exact hs.same (s.names_stop _)

/-! ## Every command, every step -/

theorem exec_keepsQueue (i : Instr) : s.KeepsQueue (exec i s) := by
  cases i with
  | openShift port tag body => exact execOpenShift_keepsQueue port tag body
  | issue port tag body => exact execIssue_keepsQueue port tag body
  | cancel port tag body => exact execCancel_keepsQueue port tag body
  | void port tag body => exact execVoid_keepsQueue port tag body
  | refund port tag body => exact execRefund_keepsQueue port tag body
  | closeShift port tag body => exact execCloseShift_keepsQueue port tag body
  | declare port tag body => exact execDeclare_keepsQueue port tag body
  | queryShift port tag body => exact execQueryShift_keepsQueue port tag body
  | receivePack port tag body => exact execReceivePack_keepsQueue port tag body
  | loadPack port tag body => exact execLoadPack_keepsQueue port tag body
  | unloadPack port tag body => exact execUnloadPack_keepsQueue port tag body
  | forceUnload port tag body => exact execForceUnload_keepsQueue port tag body
  | writeOffPack port tag body => exact execWriteOffPack_keepsQueue port tag body
  | retirePack port tag body => exact execRetirePack_keepsQueue port tag body
  | readPack port tag body => exact execReadPack_keepsQueue port tag body
  | testPrint port tag body => exact execTestPrint_keepsQueue port tag body
  | setService port tag body => exact execSetService_keepsQueue port tag body
  | resetLine port tag body => exact execResetLine_keepsQueue port tag body
  | resolveDispute port tag body => exact execResolveDispute_keepsQueue port tag body
  | readSpoils port tag body => exact execReadSpoils_keepsQueue port tag body
  | readEntries port tag body => exact execReadEntries_keepsQueue port tag body
  | readShift port tag body => exact execReadShift_keepsQueue port tag body
  | reopenCount port tag body => exact execReopenCount_keepsQueue port tag body
  | signOff port tag body => exact execSignOff_keepsQueue port tag body
  | openDay port tag body => exact execOpenDay_keepsQueue port tag body
  | closeDay port tag body => exact execCloseDay_keepsQueue port tag body
  | nextFault port tag body => exact execNextFault_keepsQueue port tag body
  | readFault port tag body => exact execReadFault_keepsQueue port tag body
  | ackFault port tag body => exact execAckFault_keepsQueue port tag body
  | readChanges port tag body => exact execReadChanges_keepsQueue port tag body
  | silenceAlarm port tag body => exact execSilenceAlarm_keepsQueue port tag body
  | selectEntry port tag body => exact execSelectEntry_keepsQueue port tag body
  | readEntry port tag body => exact execReadEntry_keepsQueue port tag body
  | writeEntry port tag body => exact execWriteEntry_keepsQueue port tag body
  | setClock port tag body => exact execSetClock_keepsQueue port tag body
  | readOffice port tag body => exact execReadOffice_keepsQueue port tag body
  | unknownKind port kind tag => exact execUnknownKind_keepsQueue port kind tag
  | frameError port cause => exact execFrameError_keepsQueue port cause
  | frameGap port => exact execFrameGap_keepsQueue port
  | lineBreak port => exact execLineBreak_keepsQueue port
  | attach port => exact execAttach_keepsQueue port
  | capability printer tag body => exact execCapability_keepsQueue printer tag body
  | status printer tag body => exact execStatus_keepsQueue printer tag body
  | printed printer tag body => exact execPrinted_keepsQueue printer tag body
  | jammed printer tag body => exact execJammed_keepsQueue printer tag body
  | withdrawn printer tag body => exact execWithdrawn_keepsQueue printer tag body
  | tooLate printer tag body => exact execTooLate_keepsQueue printer tag body
  | top printer tag body => exact execTop_keepsQueue printer tag body
  | printerFrameError printer cause => exact execPrinterFrameError_keepsQueue printer cause
  | printerFrameGap printer => exact execPrinterFrameGap_keepsQueue printer
  | idleMark printer => exact execIdleMark_keepsQueue printer
  | linkGap printer cause => exact execLinkGap_keepsQueue printer cause
  | settleTimer printer => exact execSettleTimer_keepsQueue printer
  | silenceTimer printer => exact execSilenceTimer_keepsQueue printer
  | jabber printer => exact execJabber_keepsQueue printer
  | jabberQuiet printer => exact execJabberQuiet_keepsQueue printer
  | capabilityWait printer => exact execCapabilityWait_keepsQueue printer
  | printTimer printer => exact execPrintTimer_keepsQueue printer
  | pauseTimer printer => exact execPauseTimer_keepsQueue printer
  | withdrawalTimer printer => exact execWithdrawalTimer_keepsQueue printer
  | queryTimer printer => exact execQueryTimer_keepsQueue printer
  | loadAnswerTimer printer => exact execLoadAnswerTimer_keepsQueue printer
  | unloadAnswerTimer printer => exact execUnloadAnswerTimer_keepsQueue printer
  | grant printer => exact execGrant_keepsQueue printer
  | jobWait window tag => exact execJobWait_keepsQueue window tag
  | routeWait window tag => exact execRouteWait_keepsQueue window tag
  | clockPulse => exact execClockPulse_keepsQueue
  | alarmIn active => exact execAlarmIn_keepsQueue active
  | activityPulse printer => exact execActivityPulse_keepsQueue printer
  | flash printer => exact execFlash_keepsQueue printer
  | resetAsserted => exact execResetAsserted_keepsQueue
  | resetReleased straps => exact execResetReleased_keepsQueue straps
  | powerUp backupGood straps => exact execPowerUp_keepsQueue backupGood straps
  | powerFail => exact execPowerFail_keepsQueue
  | printerUnknownKind printer kind => exact execPrinterUnknownKind_keepsQueue printer kind
  | frameSent port => exact execFrameSent_keepsQueue port

/-- Settles O13: ISSUE alone adds a job, after its checks of the room and the name; every other command and event
keeps a sublist of the names or empties the queue. -/
theorem stepKeepsQueueLimits : Obligations.StepKeepsQueueLimits := by
  intro s t hs h
  unfold step at h
  cases hp : s.pending with
  | nil =>
    rw [hp] at h
    cases h
    exact hs
  | cons c rest =>
    rw [hp] at h
    exact exec_keepsQueue c (hs.same (by rfl)) t h

end Sys2Proof.Machine
end

section
/-!
R88, R92: the room of the spoil list. What every change to the blank stock writes is paid for by what its printer can
no longer write, or falls due while the hold is off, where the reserve of 24 holds it.
-/

namespace Sys2Proof.Machine

variable {s t : State}

/-! ## What a printer can still write -/

/-- A pack that the printer may yet have to unload: loaded in it, or under its load check. -/
def Printer.hasPack (pr : Printer) : Bool := pr.loaded.isSome || pr.loadCheck.isSome

theorem Printer.hasPack_of_loaded {pr : Printer} {id : Nat} (h : pr.loaded = some id) : pr.hasPack = true := by
  simp [Printer.hasPack, h]

theorem Printer.hasPack_of_loadCheck {pr : Printer} {c : LoadCheck} (h : pr.loadCheck = some c) :
    pr.hasPack = true := by
  simp [Printer.hasPack, h]

theorem Printer.runsDue_eq (pr : Printer) : pr.runsDue = pr.count + if pr.hasPack then 1 else 0 := rfl

/-- A printer that comes by no pack owes fewer runs by as many serials as it lets go. -/
theorem Printer.runsDue_add_le {a b : Printer} {n : Nat} (hp : b.hasPack = true → a.hasPack = true)
    (hn : b.count + n ≤ a.count) : b.runsDue + n ≤ a.runsDue := by
  rw [Printer.runsDue_eq, Printer.runsDue_eq]
  split
  · rename_i hb
    rw [if_pos (hp hb)]
    omega
  · omega

/-- R16: with its pack unloaded, a printer owes one run fewer. -/
theorem Printer.runsDue_unloaded_le {pr : Printer} {id : Nat} (hl : pr.loaded = some id) (hc : pr.loadCheck = none) :
    ({ pr with loaded := none, unloadCheck := none } : Printer).runsDue + 1 ≤ pr.runsDue := by
  have hnone : ({ pr with loaded := none, unloadCheck := none } : Printer).hasPack = false := by
    simp [Printer.hasPack, hc]
  rw [Printer.runsDue_eq, Printer.runsDue_eq, hnone, Printer.hasPack_of_loaded hl]
  exact le_rfl

/-- The law of R3 reads whether a printer has a pack. -/
theorem Printer.hasPack_of_home {a b : Printer} (h : b.home = a.home) : b.hasPack = a.hasPack := by
  have hl : b.loaded = a.loaded := congrArg (·.1) h
  have hc : b.loadCheck.map (·.pack) = a.loadCheck.map (·.pack) := congrArg (·.2) h
  have hsome := congrArg Option.isSome hc
  rw [Option.isSome_map, Option.isSome_map] at hsome
  rw [Printer.hasPack, Printer.hasPack, hl, hsome]

@[simp] theorem Printer.blanks_runsDue (a : Printer) : a.blanks.runsDue = a.runsDue := by
  rw [Printer.runsDue_eq, Printer.runsDue_eq, Printer.blanks_count]
  simp [Printer.hasPack, Printer.blanks]

/-- R33, R40: two tickets at most, or a range of at most two serials. -/
theorem Printer.holdingSound.count_le_two {pr : Printer} {k : Pack} (h : pr.holdingSound k) : pr.count ≤ 2 := by
  cases hr : pr.range with
  | some g =>
    obtain ⟨hp, hs, -, -, -, h2, -⟩ := h.of_range hr
    simpa [Printer.count, Printer.tickets, hp, hs, hr] using h2
  | none =>
    rw [Printer.count_of_range hr]
    cases hp : pr.printing <;> cases hs : pr.staged <;> simp [Printer.tickets, hp, hs]

/-- R92: each printer gives three runs at most. -/
theorem State.StockSound.runsDue_le_three (h : s.StockSound) (p : PrinterId) : s.printers[p].runsDue ≤ 3 := by
  have hcount : s.printers[p].count ≤ 2 := by
    by_cases hv : (s.printers[p]).Vacant
    · rw [hv.count]; omega
    · obtain ⟨k, -, -, -, hs⟩ := h.working hv
      exact hs.count_le_two
  rw [Printer.runsDue_eq]
  split <;> omega

/-- R92: the eight printers together give 24 runs at most, the reserve. -/
theorem State.StockSound.sum_runsDue_le (h : s.StockSound) :
    (allPrinters.map fun p => s.printers[p].runsDue).sum ≤ 24 := by
  have hle : ∀ n ∈ allPrinters.map fun p => s.printers[p].runsDue, n ≤ 3 := by
    intro n hn
    obtain ⟨p, -, rfl⟩ := List.mem_map.1 hn
    exact h.runsDue_le_three p
  have hsum := List.sum_le_card_nsmul _ 3 hle
  rwa [List.length_map] at hsum

/-- A printer that keeps what it holds of its pack counts as much. -/
theorem State.StockSound.count_of_keeps (h : s.StockSound) {p : PrinterId} {q : Printer}
    (hq : (s.printers[p]).Keeps q) : q.count = s.printers[p].count := by
  by_cases hv : (s.printers[p]).Vacant
  · rw [hv.count, (hq.vacant hv).count]
  · obtain ⟨k, -, -, -, hs⟩ := h.working hv
    exact (hq.holding k hs).2

/-- A printer that prints holds its ticket of some pack. -/
theorem State.StockSound.holding_of_printing (h : s.StockSound) {p : PrinterId} {f : Ticket}
    (hp : s.printers[p].printing = some f) : ∃ k, (s.printers[p]).holdingSound k := by
  obtain ⟨k, -, -, -, hs⟩ := h.working (p := p) fun hv => absurd (hv.1.symm.trans hp) (by simp)
  exact ⟨k, hs⟩

/-- R42: an uncertain range is all that its printer holds. -/
theorem State.StockSound.count_of_range (h : s.StockSound) {p : PrinterId} {g : Range}
    (hr : s.printers[p].range = some g) :
    s.printers[p].printing = none ∧ s.printers[p].staged = none ∧ s.printers[p].count = g.charges.length := by
  obtain ⟨k, -, -, -, hs⟩ := h.working (p := p) fun hv => absurd (hv.2.2.symm.trans hr) (by simp)
  obtain ⟨hp, hst, -⟩ := hs.of_range hr
  refine ⟨hp, hst, ?_⟩
  rw [Printer.count, Printer.tickets, hp, hst, hr]
  exact Nat.zero_add _

/-! ## What the operations on blanks add to the list -/

@[simp] theorem State.writeRun_spoils_length (pack first count : Nat) (cause : Cause) (printer : Option PrinterId)
    (charged : Option JobRef) :
    (s.writeRun pack first count cause printer charged).spoils.length = s.spoils.length + 1 := by
  cases charged <;> exact List.length_append

theorem runsOf_length_le (first : Nat) (charges : List (Option JobRef)) :
    (runsOf first charges).length ≤ charges.length := by
  induction charges generalizing first with
  | nil => exact le_refl _
  | cons c rest ih =>
    unfold runsOf
    split
    · simp
    · simpa using ih (first + 1)

/-- R42: a range gives one run for each serial at most. -/
theorem State.spoilRange_spoils_length_le (p : PrinterId) (pack first : Nat) (charges : List (Option JobRef)) :
    (s.spoilRange p pack first charges).spoils.length ≤ s.spoils.length + charges.length := by
  have hfold (runs : List (Nat × Nat × Option JobRef)) (a : State) :
      (runs.foldl (fun a r => a.writeRun pack r.1 r.2.1 .linkLost (some p) r.2.2) a).spoils.length
        = a.spoils.length + runs.length := by
    induction runs generalizing a with
    | nil => rfl
    | cons r runs ih =>
      rw [List.foldl_cons, ih, State.writeRun_spoils_length, List.length_cons]
      omega
  have := runsOf_length_le first charges
  unfold State.spoilRange
  rw [hfold]
  omega

theorem State.writeOff_spoils_length_le (k : Pack) : (s.writeOff k).spoils.length ≤ s.spoils.length + 1 := by
  unfold State.writeOff
  dsimp only
  split
  · exact (s.writeRun_spoils_length ..).le
  · exact Nat.le_succ _

/-- R82: a jam writes one run, with or without a ticket staged. -/
theorem State.jamWritten_spoils_printers (pack first n : Nat) (cause : Cause) (p : PrinterId)
    (charged : Option JobRef) (f : Option Ticket) :
    let u := f.elim (s.writeRun pack first n cause (some p) charged) fun f =>
      if 2 ≤ n then s.writeRun pack first n cause (some p) charged
      else (s.writeRun pack first n cause (some p) charged).returnBlank f.pack f.serial
    u.spoils.length = s.spoils.length + 1 ∧ u.printers = s.printers := by
  have hw := And.intro (s.writeRun_spoils_length pack first n cause (some p) charged)
    (s.writeRun_printers pack first n cause (some p) charged)
  cases f with
  | none => exact hw
  | some f =>
    dsimp only [Option.elim_some]
    split <;> exact hw

/-- R16: an unload writes one run at most. -/
theorem State.missing_spoils_length_le (q : PrinterId) (id first n : Nat) :
    ((if n = 0 then s else s.writeRun id first n .missing (some q) none).makeSafe id).spoils.length
      ≤ s.spoils.length + 1 := by
  unfold State.makeSafe
  dsimp only [State.modPack]
  split
  · exact Nat.le_succ _
  · exact (s.writeRun_spoils_length ..).le

/-! ## Runs written and runs due -/

/-- R92: the runs in the spoil list, and those that can still fall due. -/
def State.runsUsed (s : State) : Nat := s.spoils.length + (allPrinters.map fun p => s.printers[p].runsDue).sum

theorem State.spoilsSound_iff : s.SpoilsSound ↔ s.StockSound ∧ s.runsUsed ≤ 256 := Iff.rfl

theorem State.runsUsed_of_blanks (e : t.blanks = s.blanks) : t.runsUsed = s.runsUsed := by
  have hs : t.spoils = s.spoils := congrArg (·.spoils) e
  have hp (p : PrinterId) : t.printers[p].runsDue = s.printers[p].runsDue := by
    rw [← Printer.blanks_runsDue, State.blanks_printer e, Printer.blanks_runsDue]
  simp only [State.runsUsed, hs, hp]

theorem State.runsUsed_le (hs : t.spoils.length ≤ s.spoils.length)
    (hp : ∀ p : PrinterId, t.printers[p].runsDue ≤ s.printers[p].runsDue) : t.runsUsed ≤ s.runsUsed :=
  Nat.add_le_add hs (List.sum_le_sum fun p _ => hp p)

/-- R92: runs written are paid for by one printer that owes as many fewer. -/
theorem State.runsUsed_modPrinter_le {u : State} {p : PrinterId} {f : Printer → Printer} (n : Nat)
    (hprinters : u.printers = s.printers) (hspoils : u.spoils.length ≤ s.spoils.length + n)
    (hdue : (f s.printers[p]).runsDue + n ≤ s.printers[p].runsDue) : (u.modPrinter p f).runsUsed ≤ s.runsUsed := by
  have hsum (v : State) : (allPrinters.map fun r => v.printers[r].runsDue).sum
      = v.printers[p].runsDue + ∑ r ∈ Finset.univ.erase p, v.printers[r].runsDue := by
    rw [Finset.add_sum_erase _ (fun r : PrinterId => v.printers[r].runsDue) (Finset.mem_univ p),
      show allPrinters = List.finRange 8 from by decide, ← List.ofFn_eq_map, List.sum_ofFn]
  have hrest : ∑ r ∈ Finset.univ.erase p, (u.modPrinter p f).printers[r].runsDue
      = ∑ r ∈ Finset.univ.erase p, s.printers[r].runsDue :=
    Finset.sum_congr rfl fun r hr => by rw [State.modPrinter_get, if_neg (Finset.ne_of_mem_erase hr), hprinters]
  have hspoils' : (u.modPrinter p f).spoils.length ≤ s.spoils.length + n := hspoils
  unfold State.runsUsed
  rw [hsum, hsum, hrest, State.modPrinter_get, if_pos rfl, hprinters]
  omega

/-- A printer that stays at home pays for the runs written with the serials it lets go. -/
theorem State.runsUsed_modPrinter_home_le {u : State} {p : PrinterId} {f : Printer → Printer} (n : Nat)
    (hprinters : u.printers = s.printers) (hspoils : u.spoils.length ≤ s.spoils.length + n)
    (home : (f s.printers[p]).home = s.printers[p].home)
    (hcount : (f s.printers[p]).count + n ≤ s.printers[p].count) : (u.modPrinter p f).runsUsed ≤ s.runsUsed :=
  State.runsUsed_modPrinter_le n hprinters hspoils
    (Printer.runsDue_add_le (by rw [Printer.hasPack_of_home home]; exact id) hcount)

/-! ## Every change -/

/-- R92: a change writes no more than falls due no longer; or the hold is off, and it writes one run at most; or it
empties the list. -/
theorem State.Change.runsUsed (hc : s.Change t) (h : s.StockSound) :
    t.runsUsed ≤ s.runsUsed ∨ s.hold = false ∧ t.spoils.length ≤ s.spoils.length + 1 ∨ t.spoils = [] := by
  cases hc with
  | received id stock first last => exact Or.inl (State.runsUsed_le le_rfl fun _ => le_rfl)
  | retired k => exact Or.inl (State.runsUsed_le le_rfl fun _ => le_rfl)
  | writtenOff k _ _ _ hh => exact Or.inr (Or.inl ⟨hh, State.writeOff_spoils_length_le k⟩)
  | checkBegun p k tag _ _ _ hh => exact Or.inr (Or.inl ⟨hh, Nat.le_succ _⟩)
  | checkEnded p c hc =>
    exact Or.inl (State.runsUsed_modPrinter_le 0 rfl le_rfl
      (Printer.runsDue_add_le (fun _ => Printer.hasPack_of_loadCheck hc) le_rfl))
  | loaded p c hc =>
    exact Or.inl (State.runsUsed_modPrinter_le 0 rfl le_rfl
      (Printer.runsDue_add_le (fun _ => Printer.hasPack_of_loadCheck hc) le_rfl))
  | unloadBegun p c => exact Or.inl (State.runsUsed_modPrinter_home_le 0 rfl le_rfl rfl le_rfl)
  | unloadEnded p => exact Or.inl (State.runsUsed_modPrinter_home_le 0 rfl le_rfl rfl le_rfl)
  | unloaded p k n hl hk =>
    have hcheck := (h.packs.of_loaded (State.pack?_mem hk).1 hl).2.1
    refine Or.inl (State.runsUsed_modPrinter_le 1 (s.missing_printers ..) (State.missing_spoils_length_le ..) ?_)
    exact Printer.runsDue_unloaded_le hl hcheck
  | compromised p id hl =>
    exact Or.inl (State.runsUsed_modPrinter_le 0 rfl le_rfl
      (Printer.runsDue_add_le (fun _ => Printer.hasPack_of_loaded hl) le_rfl))
  | granted p k f fields hc => exact Or.inr (Or.inl ⟨(State.canTake_iff.1 hc).2.2.1, Nat.le_succ _⟩)
  | issued p f hp =>
    obtain ⟨k, hs⟩ := h.holding_of_printing hp
    have hcount := (hs.finishPrinting hp).2
    exact Or.inl (State.runsUsed_modPrinter_home_le 0 rfl le_rfl (Printer.finishPrinting_home _) (by omega))
  | testPrinted p f hp =>
    obtain ⟨k, hs⟩ := h.holding_of_printing hp
    exact Or.inl (State.runsUsed_modPrinter_home_le 1 (s.writeRun_printers ..) (s.writeRun_spoils_length ..).le
      (Printer.finishPrinting_home _) (hs.finishPrinting hp).2.le)
  | jammed p f n cause x hp hx =>
    obtain ⟨k, hs⟩ := h.holding_of_printing hp
    have hr := (hs.of_printing hp).1
    obtain ⟨hspoils, hprinters⟩ := s.jamWritten_spoils_printers f.pack f.serial (s.jamRun f n) cause p f.owner x
    refine Or.inl (State.runsUsed_modPrinter_home_le 1 hprinters hspoils.le rfl ?_)
    rw [(Printer.vacant_of_jam hr).count, Printer.count_of_range hr, Printer.tickets, hp]
    simp
  | withdrawn p f hf =>
    obtain ⟨k, -, -, -, hs⟩ := h.working (p := p) fun hv => absurd (hv.2.1.symm.trans hf) (by simp)
    have hcount := (hs.withdraw hf).2
    exact Or.inl (State.runsUsed_modPrinter_home_le 0 rfl le_rfl rfl (by omega))
  | promoted p hp =>
    exact Or.inl (State.runsUsed_modPrinter_home_le 0 rfl le_rfl (Printer.promote_home _)
      (h.count_of_keeps (Printer.promote_keeps _ hp)).le)
  | lost p =>
    exact Or.inl (State.runsUsed_modPrinter_home_le 0 rfl le_rfl rfl
      (h.count_of_keeps (Printer.moveToRange_keeps _)).le)
  | settled p g n hr hn hn' =>
    obtain ⟨hp, hst, hcount⟩ := h.count_of_range hr
    have hspoils := s.spoilRange_spoils_length_le p g.pack g.first (g.charges.take (n - g.first))
    rw [List.length_take] at hspoils
    refine Or.inl (State.runsUsed_modPrinter_home_le g.charges.length (s.spoilRange_printers ..)
      (hspoils.trans (by omega)) rfl ?_)
    have hv : ({ s.printers[p] with range := none, query := none, printTimeout := false } : Printer).Vacant :=
      ⟨hp, hst, rfl⟩
    rw [hv.count, hcount, Nat.zero_add]
  | spoiledOut p g hr =>
    obtain ⟨hp, hst, hcount⟩ := h.count_of_range hr
    refine Or.inl (State.runsUsed_modPrinter_home_le g.charges.length (s.spoilRange_printers ..)
      (s.spoilRange_spoils_length_le ..) rfl ?_)
    have hv : ({ s.printers[p] with range := none } : Printer).Vacant := ⟨hp, hst, rfl⟩
    rw [hv.count, hcount, Nat.zero_add]
  | relinked p link => exact Or.inl (State.runsUsed_modPrinter_home_le 0 rfl le_rfl rfl le_rfl)
  | emptied => exact Or.inr (Or.inr rfl)
  | restarted =>
    refine Or.inl (State.runsUsed_le le_rfl fun p => ?_)
    rw [show (s.printers.map Printer.restart)[p] = (s.printers[p]).restart from vecGet_map _ _ p]
    exact Printer.runsDue_add_le (n := 0)
      (by simpa [Printer.hasPack, Printer.restart, Printer.start] using Or.inl)
      (h.count_of_keeps (Printer.restart_keeps _)).le
  | reset => exact Or.inr (Or.inr rfl)

/-- R91: while the hold is off more than 24 entries are free. -/
theorem State.hold_eq_false_iff : s.hold = false ↔ s.spoils.length + 24 < 256 := by
  rw [State.hold_eq, decide_eq_false_iff_not]
  omega

/-- Every change keeps room for the runs that can still fall due. -/
theorem State.Change.spoilsSound (hc : s.Change t) (h : s.SpoilsSound) : t.SpoilsSound := by
  obtain ⟨hs, hroom⟩ := State.spoilsSound_iff.1 h
  have ht := hc.stockSound hs
  have hdue := ht.sum_runsDue_le
  refine State.spoilsSound_iff.2 ⟨ht, ?_⟩
  rcases hc.runsUsed hs with hle | ⟨hhold, hlen⟩ | hempty
  · exact hle.trans hroom
  · have hfree := State.hold_eq_false_iff.1 hhold
    unfold State.runsUsed
    omega
  · unfold State.runsUsed
    rw [hempty, List.length_nil]
    omega

theorem State.Moves.spoilsSound (m : s.Moves t) (h : s.SpoilsSound) : t.SpoilsSound := by
  induction m with
  | refl => exact h
  | tail _ hab ih =>
    rcases hab with e | c
    · obtain ⟨hs, hroom⟩ := State.spoilsSound_iff.1 ih
      exact State.spoilsSound_iff.2 ⟨hs.of_blanks e, (State.runsUsed_of_blanks e).le.trans hroom⟩
    · exact c.spoilsSound ih

/-- Settles O12, by the run of changes to the blank stock that a step makes, each keeping room for the runs due. -/
theorem stepKeepsSpoilRoom : Obligations.StepKeepsSpoilRoom := by
  intro s t hs h
  have ht := (step_moves h).spoilsSound hs
  exact ⟨ht, (Nat.le_add_right _ _).trans (State.spoilsSound_iff.1 ht).2⟩

end Sys2Proof.Machine
end

section
/-!
The fare unit (R95, R103, R105, R106): the convergent division keeps order and grows by at most one where its argument
grows by less than a whole, which orders the unit charge; the portions of an amount telescope (O18, O19, O20).
-/

namespace Sys2Proof.Machine

/-! ## The convergent division (R95) -/

/-- R95: the nearest whole number to the quotient, by the remainder. -/
theorem convergent_eq (x : Nat) :
    convergent x = if x % 65536 < 32768 then x / 65536 else if 32768 < x % 65536 then x / 65536 + 1
      else if x / 65536 % 2 = 0 then x / 65536 else x / 65536 + 1 := rfl

@[simp] theorem convergent_wholes (n : Nat) : convergent (65536 * n) = n := by
  rw [convergent_eq, Nat.mul_mod_right, if_pos (by decide), Nat.mul_div_cancel_left n (by decide)]

@[simp] theorem convergent_zero : convergent 0 = 0 := rfl

theorem convergent_mono {x y : Nat} (h : x ≤ y) : convergent x ≤ convergent y := by
  rw [convergent_eq, convergent_eq]
  split_ifs <;> omega

theorem convergent_mul_le (f : Nat) {share : Nat} (h : share ≤ 65536) : convergent (f * share) ≤ f :=
  calc convergent (f * share) ≤ convergent (65536 * f) := convergent_mono (by rw [Nat.mul_comm]; gcongr)
    _ = f := convergent_wholes f

/-- Settles O18, from the value of the division at a quotient and a remainder. -/
theorem convergentDivision : Obligations.ConvergentDivision := by
  refine ⟨fun q r hr => ?_, fun _ _ => convergent_mono, convergent_wholes, convergent_zero, fun fare share hf hs =>
    (Nat.mul_le_mul hf hs).trans (by decide)⟩
  have hquotient : (65536 * q + r) / 65536 = q := by omega
  have hremainder : (65536 * q + r) % 65536 = r := by omega
  rw [convergent_eq, hquotient, hremainder]
  refine ⟨fun h => ?_, fun h => ?_, fun h he => ?_, fun h ho => ?_⟩ <;> split_ifs <;> omega

/-! ## The unit charge (R103) -/

/-- Less than a whole more adds at most one: a half rounded down is a half no more. -/
theorem convergent_add_le (x : Nat) {share : Nat} (h : share ≤ 65535) :
    convergent (x + share) ≤ convergent x + 1 := by
  rw [convergent_eq, convergent_eq]
  split_ifs <;> omega

/-- What is left of a fare after the discount. -/
theorem discounted_mono {share f g : Nat} (hs : share ≤ 65535) (h : f ≤ g) :
    f - convergent (f * share) ≤ g - convergent (g * share) := by
  induction h with
  | refl => exact le_rfl
  | @step g hfg ih =>
    have hstep := convergent_add_le (g * share) hs
    rw [← Nat.succ_mul] at hstep
    have hbound : convergent (g * share) ≤ g := convergent_mul_le g (by omega)
    omega

/-- R103: the discounted fare, down to a whole number of steps, but at least the minimum or the fare. -/
theorem unitCharge_eq (f : Nat) (c : Concession) :
    unitCharge f c = max ((f - convergent (f * c.discount)) / c.step * c.step) (min c.minimum f) := by
  unfold unitCharge
  dsimp only
  congr 1
  exact (Nat.sub_eq_of_eq_add (Nat.div_add_mod' _ _).symm)

theorem unitCharge_mono {c : Concession} (hd : c.discount ≤ 65535) {f g : Nat} (h : f ≤ g) :
    unitCharge f c ≤ unitCharge g c := by
  have hrest := discounted_mono hd h
  rw [unitCharge_eq, unitCharge_eq]
  gcongr

theorem unitCharge_le (f : Nat) (c : Concession) : unitCharge f c ≤ f := by
  rw [unitCharge_eq]
  exact max_le ((Nat.div_mul_le_self _ _).trans (Nat.sub_le _ _)) (min_le_right _ _)

/-- Settles O19, from the closed form of the charge and the order of what the discount leaves. -/
theorem unitCharge_steps : Obligations.UnitCharge := by
  intro f c hd _
  refine ⟨convergent_mul_le f (by omega), unitCharge_eq f c, ?_, unitCharge_le f c, ?_, fun g => unitCharge_mono hd⟩
  · rw [unitCharge_eq]
    exact le_max_right _ _
  · exact Nat.le_zero.1 (unitCharge_le 0 c)

/-! ## The apportionment (R105, R106) -/

/-- R105: the cumulative portion of an amount after the parts of a split, given the one before them. -/
def cumulative (amount before : Nat) (split : Split) : Nat :=
  split.getLast?.elim before fun part => convergent (amount * part.share)

theorem cumulative_cons (amount before : Nat) (part : Part) (split : Split) :
    cumulative amount before (part :: split) = cumulative amount (convergent (amount * part.share)) split := by
  cases split with
  | nil => rfl
  | cons next split => simp [cumulative, List.getLast?_cons]

theorem portionsFrom_heads (amount before : Nat) (split : Split) :
    (portionsFrom amount before split).map (·.1) = split.map (·.head) := by
  induction split generalizing before with
  | nil => rfl
  | cons part split ih => simp only [portionsFrom, List.map_cons, ih]

theorem portionsFrom_take (amount before n : Nat) (split : Split) :
    (portionsFrom amount before split).take n = portionsFrom amount before (split.take n) := by
  induction split generalizing before n with
  | nil => simp [portionsFrom]
  | cons part split ih =>
    cases n with
    | zero => rfl
    | succ n => simp only [portionsFrom, List.take_succ_cons, ih]

/-- The portions telescope: their sum is the cumulative portion gained. -/
theorem portionsFrom_sum (amount before : Nat) (split : Split) :
    ((portionsFrom amount before split).map (·.2)).sum = (cumulative amount before split : Int) - before := by
  induction split generalizing before with
  | nil => simp [portionsFrom, cumulative]
  | cons part split ih =>
    simp only [portionsFrom, List.map_cons, List.sum_cons, ih, cumulative_cons]
    omega

/-- Along rising shares a portion is not negative, and no more than the amount. -/
theorem portionsFrom_bounds {amount before : Nat} {split : Split}
    (hrise : split.Pairwise fun a b => a.share ≤ b.share) (hle : ∀ part ∈ split, part.share ≤ 65536)
    (hfrom : ∀ part ∈ split, before ≤ convergent (amount * part.share)) :
    ∀ hp ∈ portionsFrom amount before split, 0 ≤ hp.2 ∧ hp.2 ≤ amount := by
  induction split generalizing before with
  | nil => exact fun hp h => nomatch h
  | cons part split ih =>
    obtain ⟨hpart, hrest⟩ := List.pairwise_cons.1 hrise
    have hlow : before ≤ convergent (amount * part.share) := hfrom part List.mem_cons_self
    have hhigh : convergent (amount * part.share) ≤ amount := convergent_mul_le amount (hle part List.mem_cons_self)
    intro hp h
    obtain rfl | h := List.mem_cons.1 h
    · dsimp only
      omega
    · exact ih hrest (fun x hx => hle x (List.mem_cons_of_mem _ hx))
        (fun x hx => convergent_mono (Nat.mul_le_mul_left _ (hpart x hx))) hp h

/-- R98: no share of a legal split is above the whole. -/
theorem Split.Legal.share_le {split : Split} (h : Split.Legal split) : ∀ part ∈ split, part.share ≤ 65536 := by
  obtain ⟨-, hrise, hlast⟩ := h
  intro part hpart
  have hne : split ≠ [] := List.ne_nil_of_mem hpart
  rw [← hlast _ (List.getLast?_eq_some_getLast hne)]
  exact hrise.rel_getLast_of_rel_getLast_getLast hpart le_rfl

/-- R98: a legal split that has parts gives the whole amount out. -/
theorem Split.Legal.cumulative_eq {split : Split} (h : Split.Legal split) (hne : split ≠ []) (amount before : Nat) :
    cumulative amount before split = amount := by
  obtain ⟨-, -, hlast⟩ := h
  rw [cumulative, List.getLast?_eq_some_getLast hne, Option.elim_some,
    hlast _ (List.getLast?_eq_some_getLast hne), Nat.mul_comm]
  exact convergent_wholes amount

theorem apportion_natCast (a : Nat) (split : Split) : apportion a split = portionsFrom a 0 split := by
  have h : ¬((a : Int) < 0) := by omega
  simp [apportion, h]

/-- R106: a negative amount, or none, is divided by its magnitude and every portion negated. -/
theorem apportion_neg_natCast (a : Nat) (split : Split) :
    apportion (-(a : Int)) split = (portionsFrom a 0 split).map fun hp => (hp.1, -hp.2) := by
  obtain rfl | ha := Nat.eq_zero_or_pos a
  · have hzero : portionsFrom 0 0 split = (portionsFrom 0 0 split).map fun hp => (hp.1, -hp.2) := by
      induction split with
      | nil => rfl
      | cons part split ih => simpa [portionsFrom] using ih
    exact (apportion_natCast 0 split).trans hzero
  · have h : -(a : Int) < 0 := by omega
    simp only [apportion, if_pos h, Int.natAbs_neg, Int.natAbs_natCast]

/-- R105, R106: the portions of an amount over a legal split that has parts sum to the amount. -/
theorem apportion_sum {split : Split} (h : Split.Legal split) (hne : split ≠ []) (amount : Int) :
    ((apportion amount split).map (·.2)).sum = amount := by
  have hsum (a : Nat) : ((portionsFrom a 0 split).map (·.2)).sum = (a : Int) := by
    rw [portionsFrom_sum, h.cumulative_eq hne]
    simp
  obtain ⟨a, rfl | rfl⟩ := amount.eq_nat_or_neg
  · rw [apportion_natCast, hsum]
  · rw [apportion_neg_natCast, List.map_map]
    calc ((portionsFrom a 0 split).map fun hp => -hp.2).sum
        = -((portionsFrom a 0 split).map (·.2)).sum := by rw [List.sum_neg, List.map_map]; rfl
      _ = -(a : Int) := by rw [hsum]

/-- Settles O20: the portions telescope, and a legal split ends at the whole. -/
theorem apportionment : Obligations.Apportionment := by
  intro a split hne hlegal
  refine ⟨?_, ?_, apportion_sum hlegal hne a, fun n _ => ?_, ?_, apportion_sum hlegal hne _⟩
  · rw [apportion_natCast, portionsFrom_heads]
  · have hshare := hlegal.share_le
    obtain ⟨-, hrise, -⟩ := hlegal
    rw [apportion_natCast]
    exact portionsFrom_bounds hrise hshare fun _ _ => Nat.zero_le _
  · rw [apportion_natCast, portionsFrom_take, portionsFrom_sum, cumulative]
    simp
  · rw [apportion_neg_natCast, apportion_natCast]

end Sys2Proof.Machine
end

section
/-!
A posting keeps the head totals summing to the tender totals (R113, R114): what each of its additions does to the
sums, and what it leaves of the record.
-/

namespace Sys2Proof.Machine

/-! ## Totals held in range (R114) -/

theorem heldWithin_inRange (i : Int) : inRange (heldWithin i) := by
  unfold inRange heldWithin Config.totalLimit
  omega

/-- An addition that is not held is exact. -/
theorem heldWithin_add_of_not_held {total a : Int} (h : isHeld total a = false) :
    heldWithin (total + a) = total + a := by
  simpa [isHeld] using h

/-! ## Tenders -/

/-- The sum of the three tender totals. -/
def Tenders.total (t : Tenders Int) : Int := t.cash + t.card + t.warrant

theorem Tenders.total_set (t : Tenders Int) (k : Tender) (a : Int) : (t.set k a).total = t.total + (a - t.get k) := by
  cases k <;> simp only [Tenders.set, Tenders.get, Tenders.total] <;> omega

/-- Every tender total lies in its range. -/
def Tenders.InRange (t : Tenders Int) : Prop := inRange t.cash ∧ inRange t.card ∧ inRange t.warrant

theorem Tenders.InRange.set {t : Tenders Int} (h : t.InRange) (k : Tender) {a : Int} (ha : inRange a) :
    (t.set k a).InRange := by
  obtain ⟨hcash, hcard, hwarrant⟩ := h
  cases k with
  | cash => exact ⟨ha, hcard, hwarrant⟩
  | card => exact ⟨hcash, ha, hwarrant⟩
  | warrant => exact ⟨hcash, hcard, ha⟩

/-! ## One addition (R113) -/

variable {h : Shift}

theorem Shift.addTender_exact {k : Tender} {a : Int} (hl : (h.addTender k a).limited = false) :
    h.limited = false ∧ (h.addTender k a).tenders.total = h.tenders.total + a := by
  obtain ⟨hlimited, hheld⟩ := Bool.or_eq_false_iff.1 hl
  refine ⟨hlimited, ?_⟩
  show (h.tenders.set k (heldWithin (h.tenders.get k + a))).total = _
  rw [heldWithin_add_of_not_held hheld, Tenders.total_set, add_sub_cancel_left]

/-- A list of totals, one of them replaced. -/
theorem vecSum_set {n : Nat} (v : Vector Int n) (i : Fin n) (a : Int) :
    (v.set i a).toList.sum = v.toList.sum + (a - v[i]) := by
  have hlt : i.val < v.toList.length := by simp
  rw [Vector.toList_set, List.sum_set', dif_pos hlt, Vector.getElem_toList]
  show _ = _ + (a - v[i.val])
  omega

theorem Shift.addHead_exact {head : Head} {a : Int} (hl : (h.addHead head a).limited = false) :
    h.limited = false ∧ (h.addHead head a).heads.toList.sum = h.heads.toList.sum + a := by
  obtain ⟨hlimited, hheld⟩ := Bool.or_eq_false_iff.1 hl
  refine ⟨hlimited, ?_⟩
  show (h.heads.set head (heldWithin (h.heads[head] + a))).toList.sum = _
  rw [heldWithin_add_of_not_held hheld, vecSum_set, add_sub_cancel_left]

theorem Shift.addHead_inRange (hr : ∀ i ∈ h.heads.toList, inRange i) (head : Head) (a : Int) :
    ∀ i ∈ (h.addHead head a).heads.toList, inRange i := by
  intro i hi
  have hset : i ∈ (h.heads.set head (heldWithin (h.heads[head] + a))).toList := hi
  rw [Vector.toList_set] at hset
  obtain hi | rfl := List.mem_or_eq_of_mem_set hset
  · exact hr i hi
  · exact heldWithin_inRange _

/-! ## A posting (R113) -/

/-- A posting's portions added to their heads in order. -/
def Shift.addHeads (h : Shift) (portions : List (Head × Int)) : Shift :=
  portions.foldl (fun h hp => h.addHead hp.1 hp.2) h

theorem Shift.post_eq (h : Shift) (k : Tender) (a : Int) (split : Split) :
    h.post k a split = (h.addTender k a).addHeads (apportion a split) := rfl

theorem Shift.addHeads_kept (portions : List (Head × Int)) (h : Shift) :
    (h.addHeads portions).state = h.state ∧ (h.addHeads portions).tenders = h.tenders
      ∧ (h.addHeads portions).entries = h.entries := by
  induction portions generalizing h with
  | nil => exact ⟨rfl, rfl, rfl⟩
  | cons hp portions ih => exact ih (h.addHead hp.1 hp.2)

theorem Shift.addHeads_inRange (portions : List (Head × Int)) {h : Shift} (hr : ∀ i ∈ h.heads.toList, inRange i) :
    ∀ i ∈ (h.addHeads portions).heads.toList, inRange i := by
  induction portions generalizing h with
  | nil => exact hr
  | cons hp portions ih => exact ih (Shift.addHead_inRange hr hp.1 hp.2)

/-- Where no addition is held the heads gain the sum of the portions. -/
theorem Shift.addHeads_exact (portions : List (Head × Int)) {h : Shift}
    (hl : (h.addHeads portions).limited = false) :
    h.limited = false
      ∧ (h.addHeads portions).heads.toList.sum = h.heads.toList.sum + (portions.map (·.2)).sum := by
  induction portions generalizing h with
  | nil => exact ⟨hl, (add_zero _).symm⟩
  | cons hp portions ih =>
    obtain ⟨hrest, hsum⟩ := ih (h := h.addHead hp.1 hp.2) hl
    obtain ⟨hlimited, hadd⟩ := Shift.addHead_exact hrest
    refine ⟨hlimited, hsum.trans ?_⟩
    rw [hadd, List.map_cons, List.sum_cons, add_assoc]

@[simp] theorem Shift.post_state (h : Shift) (k : Tender) (a : Int) (split : Split) :
    (h.post k a split).state = h.state := (Shift.addHeads_kept _ (h.addTender k a)).1

@[simp] theorem Shift.post_entries (h : Shift) (k : Tender) (a : Int) (split : Split) :
    (h.post k a split).entries = h.entries := (Shift.addHeads_kept _ (h.addTender k a)).2.2

theorem Shift.post_tenders (h : Shift) (k : Tender) (a : Int) (split : Split) :
    (h.post k a split).tenders = (h.addTender k a).tenders := (Shift.addHeads_kept _ (h.addTender k a)).2.1

/-- R114: an amount posted over a legal split that has parts adds as much to the heads as to the tenders. -/
theorem Shift.Balanced.post (hb : h.Balanced) {split : Split} (hlegal : Split.Legal split) (hne : split ≠ [])
    (k : Tender) (a : Int) : (h.post k a split).Balanced := by
  obtain ⟨hbalance, hcash, hcard, hwarrant, hheads⟩ := hb
  have htenders : ((h.post k a split).tenders).InRange := by
    rw [Shift.post_tenders]
    exact Tenders.InRange.set ⟨hcash, hcard, hwarrant⟩ k (heldWithin_inRange _)
  obtain ⟨hcash', hcard', hwarrant'⟩ := htenders
  refine ⟨fun hl => ?_, hcash', hcard', hwarrant', Shift.addHeads_inRange (h := h.addTender k a) _ hheads⟩
  obtain ⟨htender, hsum⟩ := Shift.addHeads_exact (apportion a split) (h := h.addTender k a) hl
  obtain ⟨hlimited, hadd⟩ := Shift.addTender_exact htender
  calc (h.post k a split).heads.toList.sum
      = h.heads.toList.sum + a := by rw [Shift.post_eq, hsum, apportion_sum hlegal hne]; rfl
    _ = h.tenders.total + a := by rw [hbalance hlimited]; rfl
    _ = (h.addTender k a).tenders.total := hadd.symm
    _ = (h.post k a split).tenders.total := by rw [Shift.post_tenders]

end Sys2Proof.Machine
end

section
/-!
The books of a state: its settings and clock, the membership of its printers, the accounts of its shifts, and the
windows and splits of its live jobs. What leaves them alone, operation by operation.
-/

namespace Sys2Proof.Machine

/-- A shift's state, its totals with the limit indicator, and the splits its entries name. -/
structure ShiftBooks where
  state : ShiftState
  tenders : Tenders Int
  heads : Vector Int 8
  limited : Bool
  splits : List EntryIndex

def Shift.books (h : Shift) : ShiftBooks :=
  { state := h.state, tenders := h.tenders, heads := h.heads, limited := h.limited, splits := h.entries.map (·.split) }

/-- The settings tables and the clock, with the membership of the printers. -/
structure Tables where
  concessions : Vector Concession 16
  splits : Vector Split 16
  tolerance : Tenders Nat
  limits : Limits
  clock : Stamp
  fallback : Vector (Option PrinterId) 4
  pools : Vector Bool 8

def State.tables (s : State) : Tables :=
  { concessions := s.concessions, splits := s.splits, tolerance := s.tolerance, limits := s.limits, clock := s.clock
    fallback := s.fallback, pools := s.printers.map (·.pool) }

/-- What of a state the laws of its accounts and settings read. -/
structure Books where
  tables : Tables
  shifts : Vector ShiftBooks 12
  jobs : List (Window × EntryIndex)

def Job.books (j : Job) : Window × EntryIndex := (j.ref.window, j.split)

def State.books (s : State) : Books :=
  { tables := s.tables, shifts := s.shifts.map Shift.books, jobs := s.jobs.map Job.books }

variable (s : State)

/-! ## Frames, flags and conditions -/

@[simp] theorem State.books_modPort (port : Port) (f : PortRecord → PortRecord) :
    (s.modPort port f).books = s.books := by
  cases port <;> rfl

@[simp] theorem State.books_send (port : Port) (fs : List Frame) : (s.send port fs).books = s.books :=
  s.books_modPort ..

@[simp] theorem State.books_sound (port : Port) : (s.sound port).books = s.books := s.books_modPort ..

@[simp] theorem State.books_accept (port : Port) (kind : Byte) (tag : Tag) (fields : List Byte) :
    (s.accept port kind tag fields).books = s.books := s.books_send ..

@[simp] theorem State.books_reply (port : Port) (kind : Byte) (tag : Tag) (body : List Byte) :
    (s.reply port kind tag body).books = s.books := s.books_send ..

@[simp] theorem State.books_refuse (port : Port) (code : Code) (kind : Byte) (tag : Tag) :
    (s.refuse port code kind tag).books = s.books := s.books_send ..

@[simp] theorem State.books_modWindowFlags (w : Window) (f : WindowFlags → WindowFlags) :
    (s.modWindowFlags w f).books = s.books := rfl

@[simp] theorem State.books_flagShift (w : Window) : (s.flagShift w).books = s.books := rfl

@[simp] theorem State.books_sendShiftState (w : Window) : (s.sendShiftState w).books = s.books := s.books_send ..

@[simp] theorem State.books_endConditions (f : Source → Kind → Bool) : (s.endConditions f).books = s.books := rfl

@[simp] theorem State.books_endCondition (a : Source) (k : Kind) : (s.endCondition a k).books = s.books := rfl

@[simp] theorem State.books_modPack (id : Nat) (f : Pack → Pack) : (s.modPack id f).books = s.books := rfl

@[simp] theorem State.books_issueBlank (pack : Nat) : (s.issueBlank pack).books = s.books := rfl

@[simp] theorem State.books_returnBlank (pack serial : Nat) : (s.returnBlank pack serial).books = s.books := rfl

@[simp] theorem State.books_assign (k : Pack) : (s.assign k).books = s.books := rfl

@[simp] theorem State.books_makeSafe (pack : Nat) : (s.makeSafe pack).books = s.books := rfl

/-! ## Printers whose membership stays -/

variable {s} in
theorem State.books_of_printers {t : State} (h : t = { s with printers := t.printers })
    (hpool : ∀ p : PrinterId, t.printers[p].pool = s.printers[p].pool) : t.books = s.books := by
  have hpools : t.printers.map (·.pool) = s.printers.map (·.pool) := vecMap_eq hpool
  rw [h]
  unfold State.books State.tables
  dsimp only
  rw [hpools]

theorem State.books_modPrinter {p : PrinterId} {f : Printer → Printer}
    (h : ∀ pr, (f pr).pool = pr.pool := by exact fun _ => rfl) :
    (s.modPrinter p f).books = s.books :=
  State.books_of_printers rfl fun q => by
    rw [State.modPrinter_get]
    split
    · subst_vars; exact h _
    · rfl

theorem State.books_mapPrinters {f : PrinterId → Printer → Printer}
    (h : ∀ p pr, (f p pr).pool = pr.pool := by exact fun _ _ => rfl) :
    (s.mapPrinters f).books = s.books :=
  State.books_of_printers rfl fun q => by rw [State.mapPrinters_get]; exact h ..

@[simp] theorem State.books_outputs : s.outputs.books = s.books :=
  Eq.trans (b := (s.mapPrinters fun p pr => { pr with lamp := pr.lamp.show (s.lampLaw p) }).books) rfl
    (s.books_mapPrinters)

@[simp] theorem State.books_clearFlags : s.clearFlags.books = s.books :=
  Eq.trans (b := (s.mapPrinters fun _ pr => { pr with flags := .clear }).books) rfl
    (s.books_mapPrinters)

@[simp] theorem State.books_sendLine (p : PrinterId) (f : Frame) : (s.sendLine p f).books = s.books :=
  s.books_modPrinter

@[simp] theorem State.books_backOff (p : PrinterId) (owner : Option JobRef) :
    (s.backOff p owner).books = s.books := s.books_modPrinter fun _ => by split <;> rfl

@[simp] theorem State.books_holdIf (p : PrinterId) (b : Bool) : (s.holdIf p b).books = s.books :=
  s.books_modPrinter

@[simp] theorem State.books_emptyPrinter (p : PrinterId) : (s.emptyPrinter p).books = s.books :=
  s.books_modPrinter

@[simp] theorem State.books_clearMarkers (pack : Nat) : (s.clearMarkers pack).books = s.books :=
  s.books_mapPrinters fun _ _ => by split <;> rfl

@[simp] theorem Printer.askWithdrawal_pool (pr : Printer) : pr.askWithdrawal.pool = pr.pool := by
  unfold Printer.askWithdrawal
  split
  · split <;> rfl
  · rfl

@[simp] theorem Printer.promote_pool (pr : Printer) : pr.promote.pool = pr.pool := by
  unfold Printer.promote
  split <;> rfl

@[simp] theorem Printer.finishPrinting_pool (pr : Printer) : pr.finishPrinting.pool = pr.pool := by
  unfold Printer.finishPrinting
  dsimp only
  split
  · rfl
  · exact Printer.promote_pool _

@[simp] theorem Printer.endWithdrawal_pool (pr : Printer) : pr.endWithdrawal.pool = pr.pool := by
  unfold Printer.endWithdrawal
  dsimp only
  split
  · exact Printer.promote_pool _
  · rfl

@[simp] theorem Printer.takeStatus_pool (pr : Printer) (c : Conditions) : (pr.takeStatus c).pool = pr.pool := by
  have hreleased (b : Bool) :
      (if b then ({ pr with conditions := c } : Printer).promote else { pr with conditions := c }).pool = pr.pool := by
    split
    · exact Printer.promote_pool _
    · rfl
  unfold Printer.takeStatus
  dsimp only
  split
  · exact (Printer.askWithdrawal_pool _).trans (hreleased _)
  · exact hreleased _

@[simp] theorem Printer.recoverIfDue_pool (pr : Printer) : pr.recoverIfDue.pool = pr.pool := by
  unfold Printer.recoverIfDue
  split <;> rfl

@[simp] theorem Printer.passReservation_pool (pr : Printer) (f : Ticket) : (pr.passReservation f).pool = pr.pool := by
  unfold Printer.passReservation
  split <;> rfl

@[simp] theorem Printer.place_pool (pr : Printer) (f : Ticket) (stock : StockType) (fields : List (List Byte)) :
    (pr.place f stock fields).pool = pr.pool := by
  unfold Printer.place
  dsimp only
  split <;> rfl

@[simp] theorem State.books_compareCapability (p : PrinterId) : (s.compareCapability p).books = s.books :=
  s.books_modPrinter fun pr => by
    split
    · exact Printer.askWithdrawal_pool _
    · rfl

@[simp] theorem State.books_endCapabilityWait (p : PrinterId) (c : Capability) :
    (s.endCapabilityWait p c).books = s.books :=
  (State.books_modPrinter _ Printer.recoverIfDue_pool).trans
    ((State.books_compareCapability ..).trans (s.books_modPrinter))

@[simp] theorem State.books_sendTest (p : PrinterId) (k : Pack) (x : TestPrint) : (s.sendTest p k x).books = s.books :=
  (s.assign k).books_modPrinter fun pr => pr.place_pool _ k.stock x.fields

/-! ## Shifts whose accounts stay -/

theorem State.books_modShift {w : Window} {f : Shift → Shift}
    (h : ∀ g, (f g).books = g.books := by exact fun _ => rfl) :
    (s.modShift w f).books = s.books := by
  have hshifts : (s.modShift w f).shifts.map Shift.books = s.shifts.map Shift.books := vecMap_eq fun x => by
    rw [State.modShift_get]
    split
    · subst_vars; exact h _
    · rfl
  unfold State.books
  rw [hshifts]
  rfl

/-- Two ways to make a shift anew that agree on its books. -/
theorem State.books_modShift_congr {w : Window} {f g : Shift → Shift}
    (h : (f s.shifts[w]).books = (g s.shifts[w]).books) : (s.modShift w f).books = (s.modShift w g).books := by
  have hshifts : (s.modShift w f).shifts.map Shift.books = (s.modShift w g).shifts.map Shift.books :=
    vecMap_eq fun x => by
      rw [State.modShift_get, State.modShift_get]
      split
      · exact h
      · rfl
  unfold State.books
  rw [hshifts]
  rfl

@[simp] theorem State.books_releaseTicket (f : Ticket) : (s.releaseTicket f).books = s.books := by
  unfold State.releaseTicket
  split
  · exact s.books_modShift
  · rfl

@[simp] theorem State.books_writeRun (pack first count : Nat) (cause : Cause) (printer : Option PrinterId)
    (charged : Option JobRef) : (s.writeRun pack first count cause printer charged).books = s.books := by
  cases charged with
  | none => rfl
  | some ref => exact State.books_modShift _

@[simp] theorem State.books_spoilRange (p : PrinterId) (pack first : Nat) (charges : List (Option JobRef)) :
    (s.spoilRange p pack first charges).books = s.books := by
  unfold State.spoilRange
  induction runsOf first charges generalizing s with
  | nil => rfl
  | cons r runs ih => exact (ih _).trans (s.books_writeRun ..)

@[simp] theorem State.books_writeOff (k : Pack) : (s.writeOff k).books = s.books := by
  unfold State.writeOff
  dsimp only
  rw [State.books_modPack]
  split
  · exact s.books_writeRun ..
  · rfl

/-- An entry changed but for its split. -/
theorem entries_modify_splits (entries : List Entry) (number : Nat) {f : Entry → Entry}
    (hf : ∀ e, (f e).split = e.split) :
    (entries.modify number f).map (·.split) = entries.map (·.split) := by
  refine List.ext_getElem? fun i => ?_
  simp only [List.getElem?_map, List.getElem?_modify]
  cases entries[i]? with
  | none => rfl
  | some e =>
    rw [Option.map_some]
    split
    · exact congrArg some (hf e)
    · rfl

/-- R81: a resolved entry keeps its split. -/
theorem Shift.resolveEntry_books (h : Shift) (number : Nat) (writeOff : Bool) :
    (h.resolveEntry number writeOff).books = h.books := by
  unfold Shift.books Shift.resolveEntry
  congr 1
  exact entries_modify_splits h.entries number fun _ => rfl

/-! ## Jobs whose window and split stay -/

variable {s} in
theorem State.books_of_jobs {t : State} {f : Job → Job} (h : t = { s with jobs := s.jobs.map f })
    (hf : ∀ j, (f j).books = j.books) : t.books = s.books := by
  have hjobs : (s.jobs.map f).map Job.books = s.jobs.map Job.books := by
    rw [List.map_map]
    exact List.map_congr_left fun j _ => hf j
  rw [h]
  unfold State.books
  dsimp only
  rw [hjobs]
  rfl

theorem State.books_modJob (ref : JobRef) {f : Job → Job}
    (hf : ∀ j, (f j).books = j.books := by exact fun _ => rfl) :
    (s.modJob ref f).books = s.books :=
  State.books_of_jobs rfl fun j => by
    split
    · exact hf j
    · rfl

@[simp] theorem Job.toEnding_books (j : Job) (e : Ending) : (j.toEnding e).books = j.books := by
  unfold Job.toEnding
  cases j.state <;> rfl

@[simp] theorem State.books_endJobs (chosen : Job → Bool) (e : Ending) : (s.endJobs chosen e).books = s.books := by
  refine Eq.trans (b := (s.mapPrinters fun p pr => if s.stagedOf p chosen then pr.askWithdrawal else pr).books)
    (State.books_of_jobs rfl fun j => ?_) (s.books_mapPrinters fun p pr => ?_)
  · split
    · exact j.toEnding_books e
    · rfl
  · split
    · exact pr.askWithdrawal_pool
    · rfl

@[simp] theorem State.books_endRecordFull (p : PrinterId) : (s.endRecordFull p).books = s.books :=
  State.books_of_jobs rfl fun j => by
    split
    · exact j.toEnding_books _
    · rfl

@[simp] theorem State.books_countJam (owner : Option JobRef) (k : Nat) : (s.countJam owner k).books = s.books := by
  cases owner with
  | none => rfl
  | some ref => exact s.books_modJob ref

@[simp] theorem State.books_stop (phase : Phase) : (s.stop phase).books = s.books := by
  unfold State.books State.tables State.stop
  simp only [Vector.map_map, List.map_map]
  rfl

/-! ## Tickets -/

@[simp] theorem State.books_ticketEnds (p : PrinterId) (f : Ticket) (o : TicketOutcome) (x : TestOutcome) :
    (s.ticketEnds p f o x).books = s.books := by
  unfold State.ticketEnds
  split
  · exact s.books_send ..
  · split
    · exact (State.books_send ..).trans (s.books_modPrinter)
    · rfl

@[simp] theorem State.books_loseTicket (p : PrinterId) (f : Ticket) : (s.loseTicket p f).books = s.books := by
  simp [State.loseTicket]

@[simp] theorem State.books_loseTickets (p : PrinterId) : (s.loseTickets p).books = s.books := by
  have hfold (l : List Ticket) (a : State) : (l.foldl (fun s f => s.loseTicket p f) a).books = a.books := by
    induction l generalizing a with
    | nil => rfl
    | cons f l ih => exact (ih _).trans (a.books_loseTicket p f)
  exact (hfold ..).trans (s.books_modPrinter)

@[simp] theorem State.books_withdrawStaged (p : PrinterId) (f : Ticket) :
    (s.withdrawStaged p f).books = s.books := by
  have hslot := s.books_modPrinter (p := p) (f := fun pr => { pr with staged := none, withdrawal := false })
    fun _ => rfl
  simp [State.withdrawStaged, hslot]

@[simp] theorem State.books_discardStaged (p : PrinterId) (f : Ticket) (spoiled : Bool) :
    (s.discardStaged p f spoiled).books = s.books := by
  unfold State.discardStaged
  cases spoiled <;> simp

@[simp] theorem State.books_jam (p : PrinterId) (f : Ticket) (k : Nat) : (s.jam p f k).books = s.books := by
  have hfirst (a : State) (cause : Cause) : (((((a.writeRun f.pack f.serial k cause (some p) f.owner).countJam f.owner
      k).releaseTicket f).backOff p f.owner).ticketEnds p f (.jammed k) (.jammed k)).books = a.books := by
    rw [State.books_ticketEnds, State.books_backOff, State.books_releaseTicket, State.books_countJam,
      State.books_writeRun]
  unfold State.jam
  dsimp only
  split
  · exact (State.books_discardStaged ..).trans ((hfirst ..).trans s.books_modPrinter)
  · exact (hfirst ..).trans s.books_modPrinter

@[simp] theorem State.books_printedTest (p : PrinterId) (f : Ticket) (read : Option Nat) :
    (s.printedTest p f read).books = s.books := by
  have hslots := s.books_modPrinter (p := p) (f := fun pr => pr.finishPrinting.pulse) fun pr => pr.finishPrinting_pool
  simp [State.printedTest, hslots]

@[simp] theorem State.books_sendJob (p : PrinterId) (k : Pack) (j : Job) : (s.sendJob p k j).books = s.books :=
  (State.books_modJob _ _).trans
    ((State.books_modPrinter _ (by intro pr; exact pr.place_pool ..)).trans
      ((State.books_assign ..).trans s.books_modShift))

@[simp] theorem State.books_grantOne (p : PrinterId) (k : Pack) : (s.grantOne p k).books = s.books := by
  refine (State.books_modPrinter _).trans ?_
  cases s.choose p with
  | nothing => rfl
  | test x => exact s.books_sendTest p k x
  | holder j => exact s.books_sendJob p k j
  | burst j => exact s.books_sendJob p k j

/-! ## Lines and checks -/

@[simp] theorem State.books_endLoadCheck (p : PrinterId) (c : LoadCheck) (o : LoadOutcome) :
    (s.endLoadCheck p c o).books = s.books :=
  (State.books_send ..).trans (State.books_modPrinter _)

@[simp] theorem State.books_endUnloadCheck (p : PrinterId) (c : UnloadCheck) (pack : Option Nat) (o : UnloadOutcome) :
    (s.endUnloadCheck p c pack o).books = s.books :=
  (State.books_send ..).trans (s.books_modPrinter)

@[simp] theorem State.books_endChecks (p : PrinterId) : (s.endChecks p).books = s.books := by
  unfold State.endChecks
  dsimp only
  cases s.printers[p].loadCheck with
  | none => dsimp only; split <;> simp
  | some c => dsimp only; split <;> simp

@[simp] theorem State.books_linkLoss (p : PrinterId) (link : Link) : (s.linkLoss p link).books = s.books :=
  (State.books_endChecks ..).trans ((State.books_modPrinter _).trans (s.books_loseTickets p))

@[simp] theorem State.books_forceDown (p : PrinterId) : (s.forceDown p).books = s.books := by
  unfold State.forceDown
  cases s.printers[p].link with
  | up => exact s.books_linkLoss ..
  | settling => exact s.books_modPrinter
  | jabber => exact s.books_modPrinter
  | down => rfl

@[simp] theorem State.books_spoilOut (p : PrinterId) : (s.spoilOut p).books = s.books := by
  unfold State.spoilOut
  split
  · exact (State.books_modPrinter _).trans (s.books_spoilRange ..)
  · rfl

@[simp] theorem State.books_compromise (p : PrinterId) : (s.compromise p).books = s.books := by
  unfold State.compromise
  dsimp only
  rw [State.books_emptyPrinter]
  split <;> rfl

@[simp] theorem State.books_settleRange (p : PrinterId) (g : Range) (n : Nat) : (s.settleRange p g n).books = s.books :=
  (State.books_modPrinter _).trans ((State.books_returnBlank ..).trans (s.books_spoilRange ..))

@[simp] theorem State.books_load (p : PrinterId) (c : LoadCheck) : (s.load p c).books = s.books :=
  (State.books_compareCapability ..).trans (State.books_modPrinter _)

end Sys2Proof.Machine
end

section
/-!
The laws of the accounts (R114), of the settings (R96, R98, R136, R180, R181, R188): what they read of the books, and
a change that keeps all of them.
-/

namespace Sys2Proof.Machine

variable {s t u : State}

/-! ## Reading the books -/

theorem State.books_shift (h : t.books = s.books) (w : Window) : t.shifts[w].books = s.shifts[w].books := by
  have hshift := congrArg (fun b : Books => b.shifts[w]) h
  simpa [State.books, vecGet_map] using hshift

theorem State.tables_pool (h : t.tables = s.tables) (p : PrinterId) : t.printers[p].pool = s.printers[p].pool := by
  have hpool := congrArg (fun b : Tables => b.pools[p]) h
  simpa [State.tables, vecGet_map] using hpool

/-- No job joins: each job there is names a window and a split that one named before. -/
def State.NoneJoins (s t : State) : Prop :=
  ∀ j ∈ t.jobs, ∃ i ∈ s.jobs, i.ref.window = j.ref.window ∧ i.split = j.split

theorem State.NoneJoins.of_jobs (h : t.jobs = s.jobs) : s.NoneJoins t := fun j hj => ⟨j, h ▸ hj, rfl, rfl⟩

theorem State.NoneJoins.of_books (h : t.books = s.books) : s.NoneJoins t := fun j hj => by
  obtain ⟨i, hi, he⟩ := exists_mem_of_map_eq (congrArg Books.jobs h) hj
  exact ⟨i, hi, congrArg Prod.fst he, congrArg Prod.snd he⟩

/-! ## The accounts, shift by shift (R114) -/

/-- The law of the accounts for one shift. -/
structure State.ShiftSound (s : State) (w : Window) : Prop where
  balanced : s.shifts[w].Balanced
  jobs : ∀ j ∈ s.jobs, j.ref.window = w → s.shifts[w].state.posts = true
  entries : s.shifts[w].state.posts = true → ∀ e ∈ s.shifts[w].entries, s.splits[e.split] ≠ []
  idle : s.shifts[w].state = .idle → s.shifts[w].entries = []

theorem State.accountsSound_iff : s.AccountsSound ↔ (∀ i : EntryIndex, Split.Legal s.splits[i])
    ∧ (∀ j ∈ s.jobs, s.splits[j.split] ≠ []) ∧ ∀ w : Window, s.ShiftSound w where
  mp h := ⟨h.splits, fun j hj => (h.jobs j hj).2, fun w =>
    ⟨h.balanced w, fun j hj hw => hw ▸ (h.jobs j hj).1, h.entries w, h.idle w⟩⟩
  mpr := fun ⟨hsplits, hjobs, hshifts⟩ =>
    { balanced := fun w => (hshifts w).balanced
      splits := hsplits
      jobs := fun j hj => ⟨(hshifts _).jobs j hj rfl, hjobs j hj⟩
      entries := fun w => (hshifts w).entries
      idle := fun w => (hshifts w).idle }

theorem State.AccountsSound.shift (hs : s.AccountsSound) (w : Window) : s.ShiftSound w :=
  (State.accountsSound_iff.1 hs).2.2 w

/-- A split that has parts, named alike and in the same table. -/
theorem State.split_of_eq {i k : EntryIndex} (hsplits : t.splits = s.splits) (h : i = k) (hv : s.splits[i] ≠ []) :
    t.splits[k] ≠ [] := by
  subst h
  rwa [hsplits]

/-- A shift whose totals and entries are those of another, as far as accounts go. -/
def Shift.SameTotals (g h : Shift) : Prop :=
  g.tenders = h.tenders ∧ g.heads = h.heads ∧ g.limited = h.limited
    ∧ g.entries.map (·.split) = h.entries.map (·.split)

theorem Shift.sameTotals_of_books {g h : Shift} (e : g.books = h.books) : g.SameTotals h :=
  ⟨congrArg ShiftBooks.tenders e, congrArg ShiftBooks.heads e, congrArg ShiftBooks.limited e,
    congrArg ShiftBooks.splits e⟩

theorem Shift.Balanced.of_totals {g h : Shift} (hb : h.Balanced) (htenders : g.tenders = h.tenders)
    (hheads : g.heads = h.heads) (hlimited : g.limited = h.limited) : g.Balanced := by
  unfold Shift.Balanced at hb ⊢
  rw [htenders, hheads, hlimited]
  exact hb

theorem Shift.Balanced.of_sameTotals {g h : Shift} (hb : h.Balanced) (e : g.SameTotals h) : g.Balanced := by
  obtain ⟨htenders, hheads, hlimited, -⟩ := e
  exact hb.of_totals htenders hheads hlimited

theorem Shift.entries_eq_nil_of_sameTotals {g h : Shift} (e : g.SameTotals h) (hn : h.entries = []) :
    g.entries = [] := by
  obtain ⟨-, -, -, hentries⟩ := e
  rw [hn] at hentries
  exact List.map_eq_nil_iff.1 hentries

/-- A shift that moves between states with its totals and entries: it posts only where it did, or where it was IDLE
and so has no entry, and still posts where its window has a job. -/
theorem State.ShiftSound.move {w : Window} (hs : s.ShiftSound w) (hsplits : t.splits = s.splits)
    (htotals : t.shifts[w].SameTotals s.shifts[w])
    (hposts : t.shifts[w].state.posts = true → s.shifts[w].state.posts = true ∨ s.shifts[w].state = .idle)
    (hjobs : ∀ j ∈ t.jobs, j.ref.window = w → t.shifts[w].state.posts = true)
    (hidle : t.shifts[w].state = .idle → s.shifts[w].state = .idle) : t.ShiftSound w where
  balanced := hs.balanced.of_sameTotals htotals
  jobs := hjobs
  entries := fun hp e he => by
    obtain hposts | hnone := hposts hp
    · obtain ⟨-, -, -, hentries⟩ := htotals
      obtain ⟨e', he', hsplit⟩ := exists_mem_of_map_eq hentries he
      exact State.split_of_eq hsplits hsplit (hs.entries hposts e' he')
    · rw [Shift.entries_eq_nil_of_sameTotals htotals (hs.idle hnone)] at he
      cases he
  idle := fun hi => Shift.entries_eq_nil_of_sameTotals htotals (hs.idle (hidle hi))

/-- A shift whose books stay, no job joining. -/
theorem State.ShiftSound.keep {w : Window} (hs : s.ShiftSound w) (hsplits : t.splits = s.splits)
    (hbooks : t.shifts[w].books = s.shifts[w].books) (hjobs : s.NoneJoins t) : t.ShiftSound w := by
  have hstate : t.shifts[w].state = s.shifts[w].state := congrArg ShiftBooks.state hbooks
  refine hs.move hsplits (Shift.sameTotals_of_books hbooks) (fun h => .inl (hstate ▸ h)) (fun j hj hw => ?_)
    fun h => hstate ▸ h
  obtain ⟨i, hi, hwindow, -⟩ := hjobs j hj
  rw [hstate]
  exact hs.jobs i hi (hwindow.trans hw)

/-- An empty record is sound where no job is live. -/
theorem State.ShiftSound.empty {w : Window} (hempty : s.shifts[w] = .empty)
    (hjobs : ∀ j ∈ s.jobs, j.ref.window ≠ w) : s.ShiftSound w where
  balanced := by rw [hempty]; unfold Shift.Balanced inRange; decide
  jobs := fun j hj hw => absurd hw (hjobs j hj)
  entries := fun _ e he => by rw [hempty] at he; cases he
  idle := fun _ => by rw [hempty]; rfl

/-- Jobs leave and shifts move, each kept sound. -/
theorem State.AccountsSound.turn (hs : s.AccountsSound) (hsplits : t.splits = s.splits)
    (hjobs : s.NoneJoins t) (hshifts : ∀ w : Window, s.ShiftSound w → t.ShiftSound w) : t.AccountsSound := by
  obtain ⟨hlegal, hvalid, hsound⟩ := State.accountsSound_iff.1 hs
  refine State.accountsSound_iff.2 ⟨fun i => hsplits ▸ hlegal i, fun j hj => ?_, fun w => hshifts w (hsound w)⟩
  obtain ⟨i, hi, -, hsplit⟩ := hjobs j hj
  exact State.split_of_eq hsplits hsplit (hvalid i hi)

theorem State.AccountsSound.of_books (hs : s.AccountsSound) (h : t.books = s.books) : t.AccountsSound := by
  have hsplits : t.splits = s.splits := congrArg (fun b : Books => b.tables.splits) h
  exact hs.turn hsplits (.of_books h) fun w hw => hw.keep hsplits (State.books_shift h w) (.of_books h)

/-! ## The settings (R96, R98, R136, R180, R181, R188) -/

theorem State.SettingsSound.of_tables (hs : s.SettingsSound) (h : t.tables = s.tables) : t.SettingsSound := by
  obtain ⟨hconcessions, hsplits, htolerance, hlimits, hclock⟩ := hs
  have hc : t.concessions = s.concessions := congrArg Tables.concessions h
  have hp : t.splits = s.splits := congrArg Tables.splits h
  have ht : t.tolerance = s.tolerance := congrArg Tables.tolerance h
  have hl : t.limits = s.limits := congrArg Tables.limits h
  have hk : t.clock = s.clock := congrArg Tables.clock h
  exact ⟨hc ▸ hconcessions, hp ▸ hsplits, ht ▸ htolerance, hl ▸ hlimits, hk ▸ hclock⟩

theorem State.FallbackSound.of_tables (hs : s.FallbackSound) (h : t.tables = s.tables) : t.FallbackSound := by
  have hf : t.fallback = s.fallback := congrArg Tables.fallback h
  intro i p hp
  rw [State.tables_pool h p]
  exact hs i p (hf ▸ hp)

/-! ## A change that keeps the laws -/

/-- A change that keeps each of the laws. -/
structure State.Upholds (s t : State) : Prop where
  accounts : s.AccountsSound → t.AccountsSound
  settings : s.SettingsSound → t.SettingsSound
  fallback : s.FallbackSound → t.FallbackSound

theorem State.Upholds.trans (h : s.Upholds t) (k : t.Upholds u) : s.Upholds u :=
  ⟨fun hs => k.accounts (h.accounts hs), fun hs => k.settings (h.settings hs), fun hs => k.fallback (h.fallback hs)⟩

/-- A change of shifts and jobs alone need only keep the accounts. -/
theorem State.Upholds.of_tables (h : t.tables = s.tables) (ha : s.AccountsSound → t.AccountsSound) : s.Upholds t :=
  ⟨ha, fun hs => hs.of_tables h, fun hs => hs.of_tables h⟩

theorem State.Upholds.of_books (h : t.books = s.books) : s.Upholds t :=
  .of_tables (congrArg Books.tables h) fun hs => hs.of_books h

theorem State.Upholds.refl (s : State) : s.Upholds s := .of_books rfl

theorem State.Upholds.books (h : s.Upholds t) (e : u.books = t.books) : s.Upholds u := h.trans (.of_books e)

/-! ## One shift, and the jobs -/

/-- A shift made anew, and sound as it is. -/
theorem State.upholds_modShift {w : Window} {f : Shift → Shift}
    (h : s.AccountsSound → (s.modShift w f).ShiftSound w) : s.Upholds (s.modShift w f) :=
  .of_tables rfl fun hs => hs.turn rfl (.of_jobs rfl) fun x hx => by
    by_cases hw : x = w
    · exact hw ▸ h hs
    · have hsame : (s.modShift w f).shifts[x] = s.shifts[x] := by rw [State.modShift_get, if_neg hw]
      exact hx.keep rfl (congrArg Shift.books hsame) (.of_jobs rfl)

/-- A shift that moves between states with its totals and entries. -/
theorem State.upholds_moveShift {w : Window} {f : Shift → Shift}
    (htotals : (f s.shifts[w]).SameTotals s.shifts[w])
    (hposts : (f s.shifts[w]).state.posts = true → s.shifts[w].state.posts = true ∨ s.shifts[w].state = .idle)
    (hjobs : s.shifts[w].state.posts = true → (f s.shifts[w]).state.posts = true)
    (hidle : (f s.shifts[w]).state ≠ .idle) : s.Upholds (s.modShift w f) :=
  State.upholds_modShift fun hs => by
    have hnew : (s.modShift w f).shifts[w] = f s.shifts[w] := by rw [State.modShift_get, if_pos rfl]
    have hw : s.ShiftSound w := hs.shift w
    refine hw.move rfl (hnew ▸ htotals) (hnew ▸ hposts) (fun j hj hjw => ?_) fun h => absurd (hnew ▸ h) hidle
    rw [hnew]
    exact hjobs (hw.jobs j hj hjw)

/-- R113: an amount posted over a split that has parts, in a shift that posts; the record may have gained entries
that name this split. -/
theorem State.upholds_post {w : Window} {g : Shift} {i : EntryIndex} (k : Tender) (a : Int)
    (hbooks : g.books = { s.shifts[w].books with splits := g.entries.map (·.split) })
    (hentries : ∀ e ∈ g.entries, (∃ e' ∈ s.shifts[w].entries, e'.split = e.split) ∨ i = e.split)
    (hvalid : s.AccountsSound → s.shifts[w].state.posts = true ∧ s.splits[i] ≠ []) :
    s.Upholds (s.modShift w fun _ => g.post k a s.splits[i]) :=
  State.upholds_modShift fun hs => by
    obtain ⟨hposts, hparts⟩ := hvalid hs
    have hw : s.ShiftSound w := hs.shift w
    have hnew : (s.modShift w fun _ => g.post k a s.splits[i]).shifts[w] = g.post k a s.splits[i] := by
      rw [State.modShift_get, if_pos rfl]
    have hstate : g.state = s.shifts[w].state := congrArg ShiftBooks.state hbooks
    have hbalanced : g.Balanced := hw.balanced.of_totals (congrArg ShiftBooks.tenders hbooks)
      (congrArg ShiftBooks.heads hbooks) (congrArg ShiftBooks.limited hbooks)
    refine { balanced := ?_, jobs := fun _ _ _ => ?_, entries := fun _ e he => ?_, idle := fun hi => ?_ }
    · rw [hnew]
      exact hbalanced.post (hs.splits i) hparts k a
    · rw [hnew, Shift.post_state, hstate]
      exact hposts
    · rw [hnew, Shift.post_entries] at he
      obtain ⟨e', he', hsplit⟩ | hsplit := hentries e he
      · exact State.split_of_eq rfl hsplit (hs.entries w hposts e' he')
      · exact State.split_of_eq rfl hsplit hparts
    · rw [hnew, Shift.post_state, hstate] at hi
      rw [hi] at hposts
      cases hposts

/-- Jobs that leave. -/
theorem State.upholds_filter (s : State) (keeps : Job → Bool) : s.Upholds { s with jobs := s.jobs.filter keeps } :=
  .of_tables rfl fun hs =>
    have hjobs : s.NoneJoins { s with jobs := s.jobs.filter keeps } :=
      fun j hj => ⟨j, (List.mem_filter.1 hj).1, rfl, rfl⟩
    hs.turn rfl hjobs fun _ hw => hw.keep rfl rfl hjobs

/-! ## The end of a step -/

theorem State.tables_commit (s before : State) (told : List Occurrence) : (s.commit before told).tables = s.tables := by
  have hbare := s.commit_bare before told
  obtain ⟨-, -, -, -, hclock, -, -, -, -, hconcessions, hsplits, -, -, -, hfallback, htolerance, hlimits, -⟩ :=
    State.eq_of_bare hbare
  have hpools : (s.commit before told).printers.map (·.pool) = s.printers.map (·.pool) :=
    vecMap_eq fun p => by
      have hpool := congrArg Printer.pool (State.printer_of_bare hbare p)
      exact hpool
  unfold State.tables
  rw [hclock, hconcessions, hsplits, hfallback, htolerance, hlimits, hpools]

theorem State.commit_noneJoins (before : State) (told : List Occurrence) : s.NoneJoins (s.commit before told) := by
  intro j hj
  rw [State.commit_jobs] at hj
  obtain ⟨i, hi, rfl⟩ := List.mem_map.1 hj
  refine ⟨i, (List.mem_filter.1 hi).1, ?_⟩
  unfold State.requeued
  split <;> exact ⟨rfl, rfl⟩

/-- R132: only a shift whose window has no live job drains. -/
theorem State.commit_shiftSound {before : State} {told : List Occurrence} {w : Window} (hs : s.ShiftSound w) :
    (s.commit before told).ShiftSound w := by
  have hsplits : (s.commit before told).splits = s.splits := congrArg Tables.splits (s.tables_commit before told)
  have hshift := s.commit_shifts before told w
  split at hshift
  · next hd =>
    obtain ⟨-, hnone⟩ := Bool.and_eq_true_iff.1 hd
    have hlive : ∀ j ∈ (s.commit before told).jobs, j.ref.window ≠ w := fun j hj hw =>
      List.countP_eq_zero.1 (beq_iff_eq.1 hnone) j hj (beq_iff_eq.2 hw)
    have hcounting : (s.commit before told).shifts[w].state = .counting := by rw [hshift]
    refine hs.move hsplits (by rw [hshift]; exact ⟨rfl, rfl, rfl, rfl⟩) ?_
      (fun j hj hw => absurd hw (hlive j hj)) ?_
    · rw [hcounting]; exact fun h => nomatch h
    · rw [hcounting]; exact fun h => nomatch h
  · exact hs.keep hsplits (congrArg Shift.books hshift) (State.commit_noneJoins _ _)

theorem State.upholds_commit (s before : State) (told : List Occurrence) : s.Upholds (s.commit before told) :=
  .of_tables (s.tables_commit before told) fun hs =>
    hs.turn (congrArg Tables.splits (s.tables_commit before told)) (State.commit_noneJoins _ _) fun _ =>
      State.commit_shiftSound

/-- What keeps the laws keeps them at the end of its step. -/
theorem State.Upholds.ended (h : s.Upholds t) {before : State} {told : List Occurrence} :
    s.Upholds (t.commit before told) := h.trans (t.upholds_commit ..)

end Sys2Proof.Machine
end

section
/-!
The changes that touch the books: a job that joins, a settings table written, the clock, a printer's membership, the
end of the day, and the starts. Each keeps the laws.
-/

namespace Sys2Proof.Machine

variable {s t : State}

/-! ## Settings written (R97, R99, R136, R179 to R181, R188, R189) -/

/-- A change of settings alone, but for the splits and FALLBACK, need only keep them in range. -/
theorem State.Upholds.of_settings
    (h : (t.splits, t.shifts, t.jobs, t.fallback, t.printers) = (s.splits, s.shifts, s.jobs, s.fallback, s.printers))
    (hset : s.SettingsSound → t.SettingsSound) : s.Upholds t := by
  simp only [Prod.mk.injEq] at h
  obtain ⟨hsplits, hshifts, hjobs, hfallback, hprinters⟩ := h
  refine ⟨fun hs => ?_, hset, fun hs i p => ?_⟩
  · exact hs.turn hsplits (.of_jobs hjobs) fun w hw => hw.keep hsplits (by rw [hshifts]) (.of_jobs hjobs)
  · rw [hfallback, hprinters]
    exact hs i p

theorem Concession.invalid_legal : Concession.invalid.Legal := by unfold Concession.Legal; decide

theorem stepAllowed_iff {n : Nat} : stepAllowed n = true ↔ n = 1 ∨ n = 5 ∨ n = 10 ∨ n = 50 := by
  simp [stepAllowed, or_assoc]

theorem State.upholds_writeConcession (s : State) (i : EntryIndex) (body : List Byte) :
    Leaves (s.writeConcession i body) s.Upholds :=
  .need fun _ => .need fun hstep => .pure <| .of_settings rfl fun hs =>
    { hs with
      concessions := fun k => by
        rw [vecGet_set]
        split
        · split
          · exact Concession.invalid_legal
          · next hvalid =>
            have hallowed : stepAllowed (num body 6 1) = true := by simpa [hvalid] using hstep
            have hdiscount : num body 1 2 < 65536 := num_lt body 1 2
            exact ⟨Nat.le_of_lt_succ hdiscount, min_le_right _ _, stepAllowed_iff.1 hallowed⟩
        · exact hs.concessions k }

/-- R98: parts whose neighbours rise, rise. -/
theorem Split.rise_of_neighbours {split : Split}
    (h : (split.zip split.tail).all (fun ab => ab.1.share ≤ ab.2.share) = true) :
    split.Pairwise fun a b => a.share ≤ b.share := by
  induction split with
  | nil => exact .nil
  | cons a split ih =>
    cases split with
    | nil => exact List.pairwise_singleton ..
    | cons b split =>
      obtain ⟨hab, hrest⟩ := Bool.and_eq_true_iff.1 h
      have hrise := ih hrest
      refine List.pairwise_cons.2 ⟨fun x hx => (of_decide_eq_true hab).trans ?_, hrise⟩
      obtain rfl | hx := List.mem_cons.1 hx
      · exact le_rfl
      · exact (List.pairwise_cons.1 hrise).1 x hx

theorem partsFrom_length {body : List Byte} {n off : Nat} {split : Split} (h : partsFrom body n off = some split) :
    split.length = n := by
  induction n generalizing off split with
  | zero => cases h; rfl
  | succ n ih =>
    unfold partsFrom at h
    split at h
    · split at h
      · obtain ⟨rest, hrest, rfl⟩ := Option.map_eq_some_iff.1 h
        rw [List.length_cons, ih hrest]
      · cases h
    · cases h

theorem Split.legal_of_sound {split : Split} (hlength : split.length ≤ 4) (h : split.sound = true) :
    Split.Legal split := by
  obtain ⟨hrise, hlast⟩ := Bool.and_eq_true_iff.1 h
  refine ⟨hlength, Split.rise_of_neighbours hrise, fun part hpart => ?_⟩
  rw [hpart] at hlast
  exact beq_iff_eq.1 hlast

theorem Shift.locks_of_posts {h : Shift} (hp : h.state.posts = true) : h.locks = true := by
  unfold Shift.locks
  revert hp
  cases h.state <;> decide

/-- R101: while the table lock is off no shift posts. -/
theorem State.not_posts (h : s.tableLock = false) (w : Window) : ¬s.shifts[w].state.posts = true := fun hp =>
  List.any_eq_false.1 h w (mem_allWindows w) (Shift.locks_of_posts hp)

/-- R101: a split is written while the table lock is off, when no live job and no shift that posts names it. -/
theorem State.AccountsSound.write_split (hs : s.AccountsSound) (hlock : s.tableLock = false) {i : EntryIndex}
    {split : Split} (hlegal : Split.Legal split) :
    ({ s with splits := s.splits.set i split } : State).AccountsSound where
  balanced := hs.balanced
  splits := fun k => by
    rw [vecGet_set]
    split
    · exact hlegal
    · exact hs.splits k
  jobs := fun j hj => absurd (hs.jobs j hj).1 (State.not_posts hlock _)
  entries := fun w hposts => absurd hposts (State.not_posts hlock w)
  idle := hs.idle

theorem State.upholds_writeSplit (s : State) (i : EntryIndex) (body : List Byte) :
    Leaves (s.writeSplit i body) s.Upholds :=
  .need fun hlock => .need fun hcount => .want fun split hsplit => .need fun hsound => .pure <| by
    have hlength : split.length ≤ 4 := (partsFrom_length hsplit).trans_le (of_decide_eq_true hcount)
    have hlegal := Split.legal_of_sound hlength hsound
    refine ⟨fun hs => hs.write_split (Bool.not_eq_true' _ ▸ hlock) hlegal, fun hs => ?_, fun hs => hs⟩
    exact { hs with
      splits := fun k => by
        rw [vecGet_set]
        split
        · exact hlegal
        · exact hs.splits k }

theorem State.upholds_writeTolerance (s : State) (k : Tender) (body : List Byte) :
    Leaves (s.writeTolerance k body) s.Upholds :=
  .pure <| .of_settings rfl fun hs =>
    { hs with
      tolerance := by
        obtain ⟨hcash, hcard, hwarrant⟩ := hs.tolerance
        have hnew : min (num body 0 4) Config.maxTolerance ≤ 100000 := min_le_right _ _
        cases k with
        | cash => exact ⟨hnew, hcard, hwarrant⟩
        | card => exact ⟨hcash, hnew, hwarrant⟩
        | warrant => exact ⟨hcash, hcard, hnew⟩ }

theorem clamp_bounds {lo hi : Nat} (h : lo ≤ hi) (n : Nat) : lo ≤ clamp lo hi n ∧ clamp lo hi n ≤ hi := by
  unfold clamp
  omega

theorem limitsOf_legal (body : List Byte) : (limitsOf body).Legal :=
  ⟨clamp_bounds (by decide) _, clamp_bounds (by decide) _, clamp_bounds (by decide) _, clamp_bounds (by decide) _,
    (clamp_bounds (by decide) _).2⟩

theorem State.books_settleQuiet (s : State) : s.settleQuiet.books = s.books :=
  s.books_mapPrinters fun p pr => by split <;> rfl

theorem State.upholds_writeLimits (s : State) (body : List Byte) : Leaves (s.writeLimits body) s.Upholds :=
  have hset : s.Upholds { s with limits := limitsOf body } :=
    .of_settings rfl fun hs => { hs with limits := limitsOf_legal body }
  .pure (hset.books (State.books_settleQuiet _))

theorem State.upholds_writeRouting (s : State) (p : PrinterId) (body : List Byte) :
    Leaves (s.writeRouting p body) s.Upholds := .want fun _ _ => .pure (.of_books rfl)

/-- R181: an entry names no printer, or one whose membership is RESERVED. -/
theorem State.upholds_setFallback (s : State) (i : StockType) (entry : Option PrinterId)
    (h : ∀ p, entry = some p → s.printers[p].pool = false) :
    s.Upholds { s with fallback := s.fallback.set i entry } where
  accounts := fun hs => { hs with }
  settings := fun hs => { hs with }
  fallback := fun hs k p hp => by
    rw [vecGet_set] at hp
    split at hp
    · exact h p hp
    · exact hs k p hp

theorem State.upholds_writeFallback (s : State) (i : StockType) (body : List Byte) :
    Leaves (s.writeFallback i body) s.Upholds := by
  unfold State.writeFallback
  split
  · exact .pure (s.upholds_setFallback i none fun p hp => nomatch hp)
  · refine .want fun p _ => .need fun hpool => .pure (s.upholds_setFallback i (some p) fun q hq => ?_)
    cases hq
    simpa using hpool

theorem State.upholds_writeEntry (s : State) (body : List Byte) : Leaves (s.writeEntry body) s.Upholds := by
  unfold State.writeEntry
  split
  · exact s.upholds_writeConcession _ body
  · exact s.upholds_writeSplit _ body
  · exact s.upholds_writeRouting _ body
  · exact s.upholds_writeFallback _ body
  · exact s.upholds_writeTolerance _ body
  · exact s.upholds_writeLimits body

theorem State.upholds_setClock (s : State) {now : Stamp} (unset : Bool) (h : now.time < 86400 ∧ now.day < 65536) :
    s.Upholds { s with clock := now, clockUnset := unset } := .of_settings rfl fun hs => { hs with clock := h }

/-- R188: a second on stays within the day and the days within their range. -/
theorem Stamp.tick_bounds {c : Stamp} (h : c.time < 86400 ∧ c.day < 65536) :
    c.tick.time < 86400 ∧ c.tick.day < 65536 := by
  unfold Stamp.tick Config.secondsPerDay Config.dayNumbers
  split_ifs <;> simp only <;> omega

/-! ## Membership (R32) -/

/-- R32: a printer that FALLBACK names does not join the pool. -/
theorem State.upholds_setService (s : State) (p : PrinterId) (pool out : Bool)
    (h : (pool && !s.printers[p].pool && s.isFallback p) = false) :
    s.Upholds (s.modPrinter p fun pr => { pr with pool := pool, outOfService := out }) where
  accounts := fun hs => { hs with }
  settings := fun hs => { hs with }
  fallback := fun hs k q hq => by
    rw [State.modPrinter_get]
    split
    · next hqp =>
      subst hqp
      have hold : s.printers[q].pool = false := hs k q hq
      have hnamed : s.isFallback q = true :=
        List.any_eq_true.2 ⟨k, by fin_cases k <;> decide, beq_iff_eq.2 hq⟩
      rw [hold, hnamed] at h
      simpa using h
    · exact hs k q hq

/-! ## A job joins (R48, R49) -/

theorem Split.ne_nil_of_check {split : Split} (h : (!split.isEmpty) = true) : split ≠ [] := by
  rintro rfl
  cases h

/-- R48: an ISSUE that passes its checks comes from an OPEN shift and names a split that has parts. -/
theorem State.issueJob_charges (a : State) (w : Window) (tag : Tag) (body : List Byte) :
    Leaves (a.issueJob w tag body) fun j => a.shifts[j.ref.window].state = .opened ∧ a.splits[j.split] ≠ [] := by
  refine .need fun hopen => .need fun _ => .need fun _ => .need fun _ => .need fun _ => .want fun _ _ =>
    .need fun _ => .want fun split _ => .need fun hsplit => .bind fun _ _ => .want fun _ _ => .want fun _ _ =>
      .need fun _ => .pure ⟨?_, Split.ne_nil_of_check hsplit⟩
  exact beq_iff_eq.1 (Bool.and_eq_true_iff.1 hopen).2

theorem State.upholds_join (s : State) {j : Job} (hopen : s.shifts[j.ref.window].state = .opened)
    (hsplit : s.splits[j.split] ≠ []) : s.Upholds { s with jobs := s.jobs ++ [j] } :=
  .of_tables rfl fun hs => { hs with
    jobs := fun i hi => by
      obtain hi | hi := List.mem_append.1 hi
      · exact hs.jobs i hi
      · rw [List.mem_singleton.1 hi]
        exact ⟨by rw [hopen]; rfl, hsplit⟩ }

/-! ## The end of the day (R145, R146) -/

/-- R146: a SIGNED_OFF shift is emptied; no job of its window is live, as it does not post. -/
theorem State.upholds_dayShifts (htables : t.tables = s.tables) (hjobs : t.jobs = s.jobs)
    (hshifts : t.shifts = s.dayShifts) : s.Upholds t := by
  have hsplits : t.splits = s.splits := congrArg Tables.splits htables
  refine .of_tables htables fun hs => hs.turn hsplits (.of_jobs hjobs) fun w hw => ?_
  have hget : t.shifts[w] = if s.shifts[w].state = .signedOff then .empty else s.shifts[w] := by
    rw [hshifts]
    exact vecGet_map ..
  split at hget
  · next hsigned =>
    refine .empty hget fun j hj hjw => ?_
    have hposts := hw.jobs j (hjobs ▸ hj) hjw
    rw [hsigned] at hposts
    cases hposts
  · exact hw.keep hsplits (congrArg Shift.books hget) (.of_jobs hjobs)

theorem State.upholds_closeDay (s : State) :
    s.Upholds { s.emptyShifts.emptySpoils.removeCleared.markDay with dayOpen := false } := by
  rw [State.dayClosed_eq, State.emptyShifts_shifts]
  exact State.upholds_dayShifts (by unfold State.tables; rfl) (by dsimp only) (by dsimp only)

/-! ## The starts (R186, R187) -/

theorem State.reset_shift (w : Window) : State.reset.shifts[w] = Shift.empty := by simp [State.reset]

theorem State.reset_accountsSound : State.reset.AccountsSound :=
  State.accountsSound_iff.2 ⟨by unfold Split.Legal; decide, fun j hj => (nomatch hj), fun w =>
    .empty (State.reset_shift w) fun j hj => nomatch hj⟩

theorem State.reset_settingsSound : State.reset.SettingsSound where
  concessions := by unfold Concession.Legal; decide
  splits := by unfold Split.Legal; decide
  tolerance := by decide
  limits := by unfold Limits.Legal; decide
  clock := by decide

theorem State.reset_fallbackSound : State.reset.FallbackSound := fun i p h => by
  have hnone : State.reset.fallback[i] = none := by simp [State.reset]
  rw [hnone] at h
  cases h

theorem Shift.posts_of_restart {h : Shift} (hp : h.restart.state.posts = true) : h.state.posts = true := by
  unfold Shift.restart at hp
  dsimp only at hp
  split at hp
  · cases hp
  · exact hp

theorem Shift.idle_of_restart {h : Shift} (hi : h.restart.state = .idle) : h.state = .idle := by
  unfold Shift.restart at hi
  dsimp only at hi
  split at hi
  · cases hi
  · exact hi

/-- R128, R148: a DRAINING shift restarts in COUNTING, any other in its own state; no job outlives the restart. -/
theorem State.upholds_warmReset (s : State) (straps : Straps) : s.Upholds (s.warmReset straps) := by
  have htables : (s.warmReset straps).tables = s.tables := by
    unfold State.tables State.warmReset
    simp only [Vector.map_map]
    rfl
  refine .of_tables htables fun hs => hs.turn rfl (fun j hj => nomatch hj) fun w hw => ?_
  have hget : (s.warmReset straps).shifts[w] = s.shifts[w].restart := vecGet_map ..
  refine hw.move rfl (by rw [hget]; exact ⟨rfl, rfl, rfl, rfl⟩) (fun hp => ?_) (fun j hj => nomatch hj) fun hi => ?_
  · exact .inl (Shift.posts_of_restart (hget ▸ hp))
  · exact Shift.idle_of_restart (hget ▸ hi)

theorem State.upholds_startAs (s : State) (kind : StartKind) (straps : Straps) : s.Upholds (s.startAs kind straps) := by
  cases kind with
  | cold =>
    have hbooks : (s.coldStart straps).books = State.reset.books := rfl
    exact ⟨fun _ => State.reset_accountsSound.of_books hbooks,
      fun _ => State.reset_settingsSound.of_tables (congrArg Books.tables hbooks),
      fun _ => State.reset_fallbackSound.of_tables (congrArg Books.tables hbooks)⟩
  | warm =>
    show s.Upholds (s.warmStart straps)
    rw [State.warmStart_eq]
    exact (s.upholds_warmReset straps).books ((State.books_outputs _).trans (State.books_endConditions ..))

end Sys2Proof.Machine
end

section
/-!
The shells of the commands, and the commands that touch the books: the shifts' own, ISSUE, PRINTED and the settings
(O16, O17).
-/

namespace Sys2Proof.Machine

variable {s t u : State}

/-! ## The shells of the commands -/

/-- An answer whose state, if any, keeps the laws of accounts and settings. -/
def State.KeepsLaws (s : State) (a : Answer) : Prop := ∀ t, a = .next t → s.Upholds t

theorem State.KeepsLaws.next (h : s.Upholds t) : s.KeepsLaws (.next t) := by
  rintro _ ⟨⟩
  exact h

theorem State.KeepsLaws.fault (f : Fault) : s.KeepsLaws (.fault f) := by rintro _ ⟨⟩

theorem State.upholds_answer {port : Port} {kind : Byte} {tag : Tag} {r : Except Code State}
    (h : Leaves r (s.sound port).Upholds) : s.Upholds ((s.sound port).answer port kind tag r) :=
  State.Upholds.trans (.of_books (s.books_sound port)) <| by
    cases r with
    | error code => exact .of_books (State.books_refuse ..)
    | ok t => exact h t rfl

theorem windowCommand_upholds {kind : Byte} {lo hi : Nat} {port : Port} {tag : Tag} {body : List Byte}
    {act : Window → State → Except Code State} (h : ∀ w a, Leaves (act w a) a.Upholds) :
    s.KeepsLaws (windowCommand kind lo hi port tag body s act) := by
  refine .next ?_
  split
  · refine State.upholds_answer fun t ht => ?_
    cases port with
    | supervisor => cases ht
    | window w =>
      dsimp only at ht
      split at ht
      · exact h w _ t ht
      · cases ht
  · exact .refl s

theorem supervisorCommand_upholds {kind : Byte} {lo hi : Nat} {port : Port} {tag : Tag} {body : List Byte}
    {act : State → Except Code State} (h : ∀ a, Leaves (act a) a.Upholds) :
    s.KeepsLaws (supervisorCommand kind lo hi port tag body s act) := by
  refine .next ?_
  split
  · refine State.upholds_answer fun t ht => ?_
    cases port with
    | window w => cases ht
    | supervisor =>
      dsimp only at ht
      split at ht
      · exact h _ t ht
      · cases ht
  · exact .refl s

/-- A printer's frame that is not expected raises PROTOCOL alone. -/
theorem printerFrame_upholds {p : PrinterId} {n : Nat} {body : List Byte} {act : State → Option State}
    (h : ∀ b, act s = some b → s.Upholds b) : s.KeepsLaws (printerFrame p n body s act) := by
  refine .next ?_
  have hprotocol : s.Upholds (s.protocol p) := s.upholds_commit ..
  split
  · split
    · cases ha : act s with
      | none => exact hprotocol
      | some b => exact h b ha
    · exact hprotocol
  · exact .refl s

theorem event_upholds {occurs : Bool} {act : State → State} (h : s.Upholds (act s)) :
    s.KeepsLaws (event s occurs act) := by
  refine .next ?_
  split
  · exact h
  · exact .refl s

/-- An event beside the books. -/
theorem event_upholds_beside {occurs : Bool} {act : State → State} (h : (act s).books = s.books) :
    s.KeepsLaws (event s occurs act) := event_upholds (.of_books h)

/-- An event beside the books that ends its step. -/
theorem event_upholds_ended {occurs : Bool} {f : State → State} {told : State → List Occurrence}
    (h : (f s).books = s.books) : s.KeepsLaws (event s occurs fun s => (f s).commit s (told s)) :=
  event_upholds (State.Upholds.of_books h).ended

/-- The event of a wait that does not run. -/
theorem event_upholds_never {act : State → State} : s.KeepsLaws (event s false act) := .next <| by
  rw [Bool.and_false]
  exact .refl s

/-- A command that is taken and leaves the books alone. -/
theorem Leaves.besideBooks (h : t.books = s.books) : Leaves (Pure.pure t) s.Upholds := .pure (.of_books h)

theorem Leaves.endedBesideBooks {before : State} {told : List Occurrence} (h : t.books = s.books) :
    Leaves (Pure.pure (t.commit before told)) s.Upholds := .pure (State.Upholds.of_books h).ended

/-- ACCEPTED after a change. -/
theorem State.Upholds.accept (h : s.Upholds t) (port : Port) (kind : Byte) (tag : Tag) (fields : List Byte) :
    s.Upholds (t.accept port kind tag fields) := h.books (t.books_accept ..)

theorem Leaves.acceptedBesideBooks {port : Port} {kind : Byte} {tag : Tag} {fields : List Byte}
    (h : t.books = s.books) : Leaves (Pure.pure (t.accept port kind tag fields)) s.Upholds :=
  .pure ((State.Upholds.of_books h).accept ..)

theorem Leaves.acceptedEndedBesideBooks {port : Port} {kind : Byte} {tag : Tag} {fields : List Byte} {before : State}
    {told : List Occurrence} (h : t.books = s.books) :
    Leaves (Pure.pure ((t.accept port kind tag fields).commit before told)) s.Upholds :=
  .pure ((State.Upholds.of_books h).accept ..).ended

theorem Leaves.repliedBesideBooks {port : Port} {kind : Byte} {tag : Tag} {fields : List Byte} :
    Leaves (Pure.pure (s.reply port kind tag fields)) s.Upholds := .besideBooks (s.books_reply ..)

/-! ## The shifts (R110, R112, R122, R123, R130, R134, R141, R143) -/

/-- R112: an IDLE shift opens. -/
theorem execOpenShift_upholds (port : Port) (tag : Tag) (body : List Byte) :
    s.KeepsLaws (execOpenShift port tag body s) :=
  windowCommand_upholds fun w a => .need fun _ => .need fun hidle => by
    have hwas : a.shifts[w].state = .idle := beq_iff_eq.1 hidle
    have hmove : a.Upholds (a.modShift w fun h =>
        { h with state := .opened, float := min (num body 0 4) Config.maxFloat, openedAt := some a.clock }) :=
      State.upholds_moveShift ⟨rfl, rfl, rfl, rfl⟩ (fun _ => .inr hwas) (fun _ => rfl) (by nofun)
    exact .pure ((hmove.books (State.books_flagShift ..)).accept ..)

/-- R48, R49: ISSUE, from an OPEN shift. -/
theorem execIssue_upholds (port : Port) (tag : Tag) (body : List Byte) : s.KeepsLaws (execIssue port tag body s) :=
  windowCommand_upholds fun w a => .bind fun j hj => by
    obtain ⟨hopen, hsplit⟩ := a.issueJob_charges w tag body j hj
    exact .pure ((a.upholds_join hopen hsplit).accept ..)

/-- R122: an entry's ticket is voided over the split it was charged to. -/
theorem State.upholds_voided (s : State) {w : Window} {e : Entry} (serial : Nat) (he : e ∈ s.shifts[w].entries)
    (hstate : s.shifts[w].state.posts = true) :
    s.Upholds (s.modShift w fun _ => s.voided s.shifts[w] e serial) :=
  State.upholds_post (i := e.split) _ _ rfl (fun e' he' => .inl ⟨e', he', rfl⟩) fun hs =>
    ⟨hstate, hs.entries w hstate e he⟩

theorem ShiftState.posts_of_open {state : ShiftState} (h : (state == .opened || state == .draining) = true) :
    state.posts = true := by
  revert h
  cases state <;> decide

theorem execVoid_upholds (port : Port) (tag : Tag) (body : List Byte) : s.KeepsLaws (execVoid port tag body s) :=
  windowCommand_upholds fun w a => .need fun hstate => .want fun _ _ => .want fun _ _ => .want fun e he =>
    .need fun _ => .need fun _ => .need fun _ => by
      have hvoided := a.upholds_voided (num body 1 3) (List.mem_of_getElem? he) (ShiftState.posts_of_open hstate)
      exact .pure (hvoided.accept ..).ended

/-- R123: a refund is posted as a negative amount. -/
theorem State.upholds_refunded (s : State) {w : Window} (hopen : s.shifts[w].state = .opened) {i : EntryIndex}
    (hparts : s.splits[i] ≠ []) (k : Tender) (a : Int) :
    s.Upholds (s.modShift w fun _ =>
      { s.shifts[w] with refunds := raised s.shifts[w].refunds 1 }.post k a s.splits[i]) :=
  State.upholds_post _ _ rfl (fun e he => .inl ⟨e, he, rfl⟩) fun _ => ⟨by rw [hopen]; rfl, hparts⟩

theorem execRefund_upholds (port : Port) (tag : Tag) (body : List Byte) : s.KeepsLaws (execRefund port tag body s) :=
  windowCommand_upholds fun w a => .need fun hopen => .need fun _ => .want fun k _ => .want fun split _ =>
    .need fun hsplit => by
      have hrefunded := a.upholds_refunded (beq_iff_eq.1 hopen) (Split.ne_nil_of_check hsplit) k (-(num body 0 3 : Nat))
      exact .pure (hrefunded.accept ..).ended

/-- R130: an OPEN shift drains. -/
theorem execCloseShift_upholds (port : Port) (tag : Tag) (body : List Byte) :
    s.KeepsLaws (execCloseShift port tag body s) :=
  windowCommand_upholds fun w a => .need fun hopen => by
    have hposts : a.shifts[w].state.posts = true := by rw [beq_iff_eq.1 hopen]; rfl
    have hmove : a.Upholds (a.modShift w fun h => { h with state := .draining }) :=
      State.upholds_moveShift ⟨rfl, rfl, rfl, rfl⟩ (fun _ => .inl hposts) (fun _ => rfl) (by nofun)
    exact .pure ((hmove.accept ..).books (State.books_endJobs ..)).ended

/-- R134, R141, R143: a shift that no longer posts moves on. -/
theorem State.upholds_settleShift {w : Window} {f : Shift → Shift} (hwas : s.shifts[w].state.posts = false)
    (htotals : (f s.shifts[w]).SameTotals s.shifts[w]) (hposts : (f s.shifts[w]).state.posts = false)
    (hidle : (f s.shifts[w]).state ≠ .idle) : s.Upholds (s.modShift w f) :=
  State.upholds_moveShift htotals (fun h => absurd (hposts.symm.trans h) nofun)
    (fun h => absurd (hwas.symm.trans h) nofun) hidle

theorem execDeclare_upholds (port : Port) (tag : Tag) (body : List Byte) : s.KeepsLaws (execDeclare port tag body s) :=
  windowCommand_upholds fun w a => .need fun hcounting => by
    have hwas : a.shifts[w].state.posts = false := by rw [beq_iff_eq.1 hcounting]; rfl
    exact .pure (State.Upholds.books (State.upholds_settleShift hwas ⟨rfl, rfl, rfl, rfl⟩ rfl (by nofun))
      (State.books_send ..)).ended

theorem execReopenCount_upholds (port : Port) (tag : Tag) (body : List Byte) :
    s.KeepsLaws (execReopenCount port tag body s) :=
  supervisorCommand_upholds fun a => .want fun w _ => .need fun hdeclared => by
    have hwas : a.shifts[w].state.posts = false := by
      rw [beq_iff_eq.1 (Bool.and_eq_true_iff.1 hdeclared).1]
      rfl
    have hmove : a.Upholds (a.modShift w fun h => { h with state := .counting, recount := h.recount + 1 }) :=
      State.upholds_settleShift hwas ⟨rfl, rfl, rfl, rfl⟩ rfl (by nofun)
    exact .pure (((hmove.books (State.books_flagShift ..)).accept ..).books (State.books_sendShiftState ..))

theorem execSignOff_upholds (port : Port) (tag : Tag) (body : List Byte) : s.KeepsLaws (execSignOff port tag body s) :=
  supervisorCommand_upholds fun a => .want fun w _ => .need fun hdeclared => .need fun _ => by
    have hwas : a.shifts[w].state.posts = false := by rw [beq_iff_eq.1 hdeclared]; rfl
    have hmove : a.Upholds (a.modShift w fun h => { h with state := .signedOff, signedOffAt := some a.clock }) :=
      State.upholds_settleShift hwas ⟨rfl, rfl, rfl, rfl⟩ rfl (by nofun)
    exact .pure (((hmove.books (State.books_flagShift ..)).accept ..).books (State.books_sendShiftState ..))

theorem execResolveDispute_upholds (port : Port) (tag : Tag) (body : List Byte) :
    s.KeepsLaws (execResolveDispute port tag body s) :=
  supervisorCommand_upholds fun a => .want fun w _ => .need fun _ => .need fun _ => .want fun _ _ => .need fun _ =>
    .bind fun pack _ => .acceptedEndedBesideBooks <| by
      rw [State.books_clearMarkers]
      have hresolved := a.books_modShift (w := w) fun h => h.resolveEntry_books (num body 1 1) (num body 2 1 == 1)
      cases pack with
      | none => exact hresolved
      | some k => exact (State.books_writeOff ..).trans hresolved

theorem execCloseDay_upholds (port : Port) (tag : Tag) (body : List Byte) :
    s.KeepsLaws (execCloseDay port tag body s) :=
  supervisorCommand_upholds fun a => .need fun _ => .pure (a.upholds_closeDay.accept ..).ended

/-! ## A ticket printed (R74, R76, R119) -/

/-- R119: a recorded ticket makes an entry of its job's split, or extends one that stands. -/
theorem Shift.recorded_split {h : Shift} {j : Job} {f : Ticket} {read : Option Nat} {same passes : Bool} {e : Entry}
    (he : e ∈ (h.recorded j f read same passes).entries) :
    (∃ e' ∈ h.entries, e'.split = e.split) ∨ j.split = e.split := by
  unfold Shift.recorded at he
  dsimp only at he
  split at he
  · obtain ⟨e', he', hsplit⟩ := exists_mem_of_map_eq (entries_modify_splits h.entries _
      (f := fun e => { e with count := e.count + 1 }) fun _ => rfl) he
    exact .inl ⟨e', he', hsplit⟩
  · obtain he | he := List.mem_append.1 he
    · exact .inl ⟨e, he, rfl⟩
    · rw [List.mem_singleton.1 he]
      exact .inr rfl

theorem State.upholds_settleJobTicket (s : State) (p : PrinterId) {j : Job} (hj : j ∈ s.jobs) (f : Ticket)
    (read : Option Nat) {passes : Bool} (hp : (read == some f.serial) = true → passes = false) :
    s.Upholds (s.settleJobTicket p f j read passes) := by
  rw [State.settleJobTicket_eq s p rfl hp]
  have hpost : s.Upholds (s.modShift j.ref.window fun _ => s.postedShift j f read (read == some f.serial) passes) :=
    State.upholds_post (g := (s.shifts[j.ref.window]).recorded j f read _ passes) j.tender j.unit rfl
      (fun _ => Shift.recorded_split) fun hs => hs.jobs j hj
  refine hpost.books ((State.books_send ..).trans ((State.books_of_jobs rfl fun i => ?_).trans
    (s.books_modShift_congr (w := j.ref.window) (f := fun h =>
      { s.postedShift j f read (read == some f.serial) passes with tickets := min (h.tickets + 1) 65535 }) rfl)))
  split <;> rfl

theorem State.upholds_printedJob (s : State) (p : PrinterId) (f : Ticket) (ref : JobRef) (read : Option Nat) :
    s.Upholds (s.printedJob p f ref read) := by
  have hpool (pr : Printer) (differs : Bool) :
      ((if differs then pr.passReservation f else pr).finishPrinting.pulse).pool = pr.pool := by
    cases differs with
    | true => exact (Printer.finishPrinting_pool _).trans (pr.passReservation_pool f)
    | false => exact pr.finishPrinting_pool
  have hslots : s.Upholds ((s.modPrinter p fun pr =>
      ((if read != some f.serial then pr.passReservation f else pr).finishPrinting).pulse).issueBlank f.pack) :=
    .of_books ((State.books_issueBlank ..).trans (s.books_modPrinter fun pr => hpool pr _))
  unfold State.printedJob
  dsimp only
  refine State.Upholds.books ?_ (State.books_holdIf ..)
  split
  · next j hj =>
    have hmem : j ∈ s.jobs := List.mem_of_find?_eq_some hj
    refine hslots.trans (State.upholds_settleJobTicket _ p (by exact hmem) f read fun hsame => ?_)
    rw [bne, hsame]
    rfl
  · exact hslots

theorem execPrinted_upholds (p : PrinterId) (tag : Tag) (body : List Byte) : s.KeepsLaws (execPrinted p tag body s) :=
  printerFrame_upholds fun b h => by
    dsimp only at h
    split at h
    · split at h
      · split at h
        · cases h
          exact (s.upholds_printedJob ..).ended
        · cases h
          exact (State.Upholds.of_books (s.books_printedTest ..)).ended
      · cases h
    · cases h

/-! ## Settings, membership and the clock (R32, R179, R188, R189) -/

theorem execWriteEntry_upholds (port : Port) (tag : Tag) (body : List Byte) :
    s.KeepsLaws (execWriteEntry port tag body s) :=
  supervisorCommand_upholds fun a => .bind fun t ht => .pure ((a.upholds_writeEntry body t ht).accept ..).ended

theorem execSetClock_upholds (port : Port) (tag : Tag) (body : List Byte) :
    s.KeepsLaws (execSetClock port tag body s) :=
  supervisorCommand_upholds fun a => .need fun hnow => by
    obtain ⟨htime, hday⟩ := Bool.and_eq_true_iff.1 hnow
    exact .pure ((a.upholds_setClock false ⟨of_decide_eq_true htime, of_decide_eq_true hday⟩).accept ..)

theorem execClockPulse_upholds : s.KeepsLaws (execClockPulse s) :=
  .next (.of_settings rfl fun hs => { hs with clock := Stamp.tick_bounds hs.clock })

theorem execSetService_upholds (port : Port) (tag : Tag) (body : List Byte) :
    s.KeepsLaws (execSetService port tag body s) :=
  supervisorCommand_upholds fun a => .want fun p _ => .need fun hnamed => .need fun _ =>
    .pure ((a.upholds_setService p _ _ (Bool.not_eq_true' _ ▸ hnamed)).accept ..).ended

end Sys2Proof.Machine
end

section
/-! The commands and events beside the books, the starts, and every step: the laws of accounts and settings are kept
(O16, O17). -/

namespace Sys2Proof.Machine

variable {s : State}

/-! ## Commands of the windows and the supervisor -/

theorem execCancel_upholds (port : Port) (tag : Tag) (body : List Byte) : s.KeepsLaws (execCancel port tag body s) :=
  windowCommand_upholds fun _ _ => .need fun _ => .endedBesideBooks (by simp)

theorem execQueryShift_upholds (port : Port) (tag : Tag) (body : List Byte) :
    s.KeepsLaws (execQueryShift port tag body s) := windowCommand_upholds fun _ _ => .repliedBesideBooks

theorem execReceivePack_upholds (port : Port) (tag : Tag) (body : List Byte) :
    s.KeepsLaws (execReceivePack port tag body s) :=
  supervisorCommand_upholds fun _ => .need fun _ => .want fun _ _ => .need fun _ => .need fun _ => .need fun _ =>
    .acceptedBesideBooks rfl

theorem execLoadPack_upholds (port : Port) (tag : Tag) (body : List Byte) :
    s.KeepsLaws (execLoadPack port tag body s) :=
  supervisorCommand_upholds fun _ => .want fun _ _ => .want fun _ _ => .need fun _ => .need fun _ => .need fun _ =>
    .need fun _ => .acceptedEndedBesideBooks ((State.books_sendLine ..).trans (State.books_modPrinter _))

theorem execUnloadPack_upholds (port : Port) (tag : Tag) (body : List Byte) :
    s.KeepsLaws (execUnloadPack port tag body s) :=
  supervisorCommand_upholds fun _ => .want fun _ _ => .need fun _ => .need fun _ =>
    .acceptedEndedBesideBooks ((State.books_sendLine ..).trans (State.books_modPrinter _))

theorem execForceUnload_upholds (port : Port) (tag : Tag) (body : List Byte) :
    s.KeepsLaws (execForceUnload port tag body s) :=
  supervisorCommand_upholds fun _ => .want fun _ _ => .need fun _ => .need fun _ => .endedBesideBooks (by simp)

theorem execWriteOffPack_upholds (port : Port) (tag : Tag) (body : List Byte) :
    s.KeepsLaws (execWriteOffPack port tag body s) :=
  supervisorCommand_upholds fun _ => .want fun _ _ => .need fun _ => .need fun _ =>
    .acceptedEndedBesideBooks (State.books_writeOff ..)

theorem execRetirePack_upholds (port : Port) (tag : Tag) (body : List Byte) :
    s.KeepsLaws (execRetirePack port tag body s) :=
  supervisorCommand_upholds fun _ => .want fun _ _ => .need fun _ => .acceptedBesideBooks rfl

theorem execReadPack_upholds (port : Port) (tag : Tag) (body : List Byte) :
    s.KeepsLaws (execReadPack port tag body s) :=
  supervisorCommand_upholds fun _ => .bind fun _ _ => .repliedBesideBooks

theorem execTestPrint_upholds (port : Port) (tag : Tag) (body : List Byte) :
    s.KeepsLaws (execTestPrint port tag body s) :=
  supervisorCommand_upholds fun a => .want fun _ _ => .want fun _ _ => .need fun _ => .need fun _ => .need fun _ =>
    .acceptedBesideBooks (State.books_modPrinter a)

theorem execResetLine_upholds (port : Port) (tag : Tag) (body : List Byte) :
    s.KeepsLaws (execResetLine port tag body s) :=
  supervisorCommand_upholds fun _ => .want fun _ _ => .endedBesideBooks (by simp)

theorem execReadSpoils_upholds (port : Port) (tag : Tag) (body : List Byte) :
    s.KeepsLaws (execReadSpoils port tag body s) :=
  supervisorCommand_upholds fun _ => .need fun _ => .repliedBesideBooks

theorem execReadEntries_upholds (port : Port) (tag : Tag) (body : List Byte) :
    s.KeepsLaws (execReadEntries port tag body s) :=
  supervisorCommand_upholds fun _ => .need fun _ => .want fun _ _ => .need fun _ => .need fun _ => .repliedBesideBooks

theorem execReadShift_upholds (port : Port) (tag : Tag) (body : List Byte) :
    s.KeepsLaws (execReadShift port tag body s) :=
  supervisorCommand_upholds fun _ => .want fun _ _ => .repliedBesideBooks

theorem execOpenDay_upholds (port : Port) (tag : Tag) (body : List Byte) :
    s.KeepsLaws (execOpenDay port tag body s) :=
  supervisorCommand_upholds fun _ => .need fun _ => .acceptedBesideBooks rfl

theorem execNextFault_upholds (port : Port) (tag : Tag) (body : List Byte) :
    s.KeepsLaws (execNextFault port tag body s) := supervisorCommand_upholds fun _ => .repliedBesideBooks

theorem execReadFault_upholds (port : Port) (tag : Tag) (body : List Byte) :
    s.KeepsLaws (execReadFault port tag body s) :=
  supervisorCommand_upholds fun _ => .want fun _ _ => .repliedBesideBooks

theorem execAckFault_upholds (port : Port) (tag : Tag) (body : List Byte) :
    s.KeepsLaws (execAckFault port tag body s) :=
  supervisorCommand_upholds fun _ => .want fun _ _ =>
    .besideBooks ((State.books_outputs _).trans (State.books_accept ..))

theorem execReadChanges_upholds (port : Port) (tag : Tag) (body : List Byte) :
    s.KeepsLaws (execReadChanges port tag body s) := supervisorCommand_upholds fun _ => .besideBooks (by simp)

theorem execSilenceAlarm_upholds (port : Port) (tag : Tag) (body : List Byte) :
    s.KeepsLaws (execSilenceAlarm port tag body s) :=
  supervisorCommand_upholds fun _ => .besideBooks ((State.books_outputs _).trans (State.books_accept ..))

theorem execSelectEntry_upholds (port : Port) (tag : Tag) (body : List Byte) :
    s.KeepsLaws (execSelectEntry port tag body s) :=
  supervisorCommand_upholds fun _ => .want fun _ _ => .acceptedBesideBooks rfl

theorem execReadEntry_upholds (port : Port) (tag : Tag) (body : List Byte) :
    s.KeepsLaws (execReadEntry port tag body s) := supervisorCommand_upholds fun _ => .repliedBesideBooks

theorem execReadOffice_upholds (port : Port) (tag : Tag) (body : List Byte) :
    s.KeepsLaws (execReadOffice port tag body s) := supervisorCommand_upholds fun _ => .repliedBesideBooks

/-! ## Terminal ports -/

theorem execUnknownKind_upholds (port : Port) (kind : Byte) (tag : Tag) :
    s.KeepsLaws (execUnknownKind port kind tag s) := by
  unfold execUnknownKind
  split
  · exact .fault _
  · refine .next ?_
    split
    · exact .of_books (by simp)
    · exact .refl s

theorem State.upholds_framingFault (s : State) (port : Port) (frames : List Frame) :
    s.Upholds (s.framingFault port frames) := (State.Upholds.of_books (by simp)).ended

theorem execFrameError_upholds (port : Port) (cause : FramingFault) : s.KeepsLaws (execFrameError port cause s) := by
  unfold execFrameError
  split
  · exact .fault _
  · refine .next ?_
    split
    · cases cause with
      | badStart b =>
        dsimp only
        split
        · exact s.upholds_framingFault ..
        · exact .refl s
      | badLength l => exact s.upholds_framingFault ..
      | badCheck kind tag body check => exact s.upholds_framingFault ..
    · exact .refl s

theorem execFrameGap_upholds (port : Port) : s.KeepsLaws (execFrameGap port s) :=
  event_upholds (s.upholds_framingFault ..)

theorem execLineBreak_upholds (port : Port) : s.KeepsLaws (execLineBreak port s) :=
  event_upholds <| by
    cases port with
    | supervisor => exact .of_books (s.books_modPort ..)
    | window w => exact (State.Upholds.of_books ((State.books_endJobs ..).trans (s.books_modPort ..))).ended

theorem execAttach_upholds (port : Port) : s.KeepsLaws (execAttach port s) :=
  event_upholds_beside <| by
    cases port with
    | supervisor => exact (State.books_send ..).trans (s.books_modPort ..)
    | window w => rfl

theorem execFrameSent_upholds (port : Port) : s.KeepsLaws (execFrameSent port s) :=
  event_upholds_beside (s.books_modPort ..)

/-! ## Printer frames -/

theorem execCapability_upholds (p : PrinterId) (tag : Tag) (body : List Byte) :
    s.KeepsLaws (execCapability p tag body s) :=
  printerFrame_upholds fun _ h => by
    cases h
    refine (State.Upholds.of_books ?_).ended
    split
    · exact s.books_endCapabilityWait ..
    · exact (State.books_compareCapability ..).trans s.books_modPrinter

theorem execStatus_upholds (p : PrinterId) (tag : Tag) (body : List Byte) : s.KeepsLaws (execStatus p tag body s) :=
  printerFrame_upholds fun _ h => by
    cases h
    exact (State.Upholds.of_books (s.books_modPrinter fun pr => pr.takeStatus_pool _)).ended

theorem execJammed_upholds (p : PrinterId) (tag : Tag) (body : List Byte) : s.KeepsLaws (execJammed p tag body s) :=
  printerFrame_upholds fun _ h => by
    split at h
    · split at h
      · cases h
        exact (State.Upholds.of_books (s.books_jam ..)).ended
      · cases h
    · cases h

theorem execWithdrawn_upholds (p : PrinterId) (tag : Tag) (body : List Byte) :
    s.KeepsLaws (execWithdrawn p tag body s) :=
  printerFrame_upholds fun _ h => by
    split at h
    · split at h
      · split at h
        · cases h
          exact (State.Upholds.of_books (s.books_withdrawStaged ..)).ended
        · cases h
      · cases h
        exact (State.Upholds.of_books s.books_modPrinter).ended
    · cases h

theorem execTooLate_upholds (p : PrinterId) (tag : Tag) (body : List Byte) : s.KeepsLaws (execTooLate p tag body s) :=
  printerFrame_upholds fun _ h => by
    dsimp only at h
    split at h
    · split at h
      · split at h
        · cases h
          exact (State.Upholds.of_books (s.books_modPrinter Printer.endWithdrawal_pool)).ended
        · cases h
      · cases h
        exact (State.Upholds.of_books s.books_modPrinter).ended
    · cases h

/-! ## TOP -/

theorem State.upholds_topLoad (s : State) (p : PrinterId) (c : LoadCheck) (k : Pack) (n : Nat) :
    s.Upholds (s.topLoad p c k n) := by
  unfold State.topLoad
  split
  · exact (State.Upholds.of_books (by simp)).ended
  · exact (State.Upholds.of_books (by simp)).ended

theorem State.upholds_topUnload (s : State) (p : PrinterId) (c : UnloadCheck) (k : Pack) (n : Nat) :
    s.Upholds (s.topUnload p c k n) := by
  unfold State.topUnload
  split
  · exact (State.Upholds.of_books (by simp)).ended
  · split
    · exact (State.Upholds.of_books (by simp)).ended
    · exact (State.Upholds.of_books (by simp)).ended

theorem State.upholds_topRecover (s : State) (p : PrinterId) (g : Range) (n : Nat) :
    s.Upholds (s.topRecover p g n) := by
  unfold State.topRecover
  split
  · exact (State.Upholds.of_books (s.books_settleRange ..)).ended
  · exact (State.Upholds.of_books s.books_modPrinter).ended

theorem State.upholds_takeTop {p : PrinterId} {n : Nat} {b : State} (h : s.takeTop p n = some b) : s.Upholds b := by
  unfold State.takeTop at h
  dsimp only at h
  split at h
  · obtain ⟨k, -, rfl⟩ := Option.map_eq_some_iff.1 h
    exact s.upholds_topLoad ..
  · split at h
    · obtain ⟨k, -, rfl⟩ := Option.map_eq_some_iff.1 h
      exact s.upholds_topUnload ..
    · split at h
      · obtain ⟨g, -, hg⟩ := Option.bind_eq_some_iff.1 h
        obtain ⟨k, -, rfl⟩ := Option.map_eq_some_iff.1 hg
        exact s.upholds_topRecover ..
      · cases h

theorem execTop_upholds (p : PrinterId) (tag : Tag) (body : List Byte) : s.KeepsLaws (execTop p tag body s) :=
  printerFrame_upholds fun _ h => State.upholds_takeTop h

/-! ## Printer lines -/

theorem execPrinterFrameError_upholds (p : PrinterId) (cause : FramingFault) :
    s.KeepsLaws (execPrinterFrameError p cause s) := by
  unfold execPrinterFrameError
  split
  · exact .fault _
  · exact event_upholds_ended rfl

theorem execPrinterFrameGap_upholds (p : PrinterId) : s.KeepsLaws (execPrinterFrameGap p s) :=
  event_upholds_ended rfl

theorem execPrinterUnknownKind_upholds (p : PrinterId) (kind : Byte) :
    s.KeepsLaws (execPrinterUnknownKind p kind s) := by
  unfold execPrinterUnknownKind
  split
  · exact .fault _
  · exact event_upholds_ended rfl

theorem execIdleMark_upholds (p : PrinterId) : s.KeepsLaws (execIdleMark p s) :=
  event_upholds_ended s.books_modPrinter

theorem execLinkGap_upholds (p : PrinterId) (cause : GapCause) : s.KeepsLaws (execLinkGap p cause s) := by
  unfold execLinkGap
  split
  · exact event_upholds_ended s.books_modPrinter
  · exact event_upholds_beside s.books_modPrinter
  · exact event_upholds_never
  · exact event_upholds_never

theorem execSettleTimer_upholds (p : PrinterId) : s.KeepsLaws (execSettleTimer p s) :=
  event_upholds_ended ((State.books_endCondition ..).trans s.books_modPrinter)

theorem execSilenceTimer_upholds (p : PrinterId) : s.KeepsLaws (execSilenceTimer p s) :=
  event_upholds_ended (s.books_linkLoss ..)

theorem execJabber_upholds (p : PrinterId) : s.KeepsLaws (execJabber p s) := event_upholds_ended (s.books_linkLoss ..)

theorem execJabberQuiet_upholds (p : PrinterId) : s.KeepsLaws (execJabberQuiet p s) :=
  event_upholds_ended (s.books_modPrinter fun _ => by split <;> rfl)

/-! ## Printer timers -/

theorem execCapabilityWait_upholds (p : PrinterId) : s.KeepsLaws (execCapabilityWait p s) :=
  event_upholds_ended (s.books_endCapabilityWait ..)

theorem execPrintTimer_upholds (p : PrinterId) : s.KeepsLaws (execPrintTimer p s) := by
  unfold execPrintTimer
  split
  · exact event_upholds_ended ((State.books_modPrinter _).trans (s.books_loseTickets p))
  · exact event_upholds_never

theorem execPauseTimer_upholds (p : PrinterId) : s.KeepsLaws (execPauseTimer p s) := by
  unfold execPauseTimer
  split
  · exact event_upholds_ended (s.books_modPrinter fun _ => Printer.askWithdrawal_pool _)
  · exact event_upholds_never

theorem execWithdrawalTimer_upholds (p : PrinterId) : s.KeepsLaws (execWithdrawalTimer p s) :=
  event_upholds_ended (s.books_modPrinter Printer.endWithdrawal_pool)

theorem execQueryTimer_upholds (p : PrinterId) : s.KeepsLaws (execQueryTimer p s) := by
  unfold execQueryTimer
  split
  · exact event_upholds_beside ((State.books_sendLine ..).trans s.books_modPrinter)
  · exact event_upholds_ended s.books_modPrinter
  · exact event_upholds_never

theorem execLoadAnswerTimer_upholds (p : PrinterId) : s.KeepsLaws (execLoadAnswerTimer p s) := by
  unfold execLoadAnswerTimer
  split
  · refine event_upholds ?_
    split
    · exact .of_books ((State.books_sendLine ..).trans s.books_modPrinter)
    · exact (State.Upholds.of_books (s.books_endLoadCheck ..)).ended
  · exact event_upholds_never

theorem execUnloadAnswerTimer_upholds (p : PrinterId) : s.KeepsLaws (execUnloadAnswerTimer p s) := by
  unfold execUnloadAnswerTimer
  split
  · refine event_upholds ?_
    split
    · exact .of_books ((State.books_sendLine ..).trans s.books_modPrinter)
    · exact (State.Upholds.of_books (s.books_endUnloadCheck ..)).ended
  · exact event_upholds_never

/-! ## The queue and the pool -/

theorem execGrant_upholds (p : PrinterId) : s.KeepsLaws (execGrant p s) :=
  event_upholds <| by
    split
    · exact (State.Upholds.of_books ((State.books_grantOne ..).trans (s.books_endRecordFull p))).ended
    · exact .refl s

theorem execJobWait_upholds (w : Window) (tag : Tag) : s.KeepsLaws (execJobWait w tag s) := by
  unfold execJobWait
  dsimp only
  split
  · exact event_upholds ((s.upholds_filter _).books (State.books_send ..)).ended
  · exact event_upholds_never

theorem execRouteWait_upholds (w : Window) (tag : Tag) : s.KeepsLaws (execRouteWait w tag s) := by
  unfold execRouteWait
  dsimp only
  split
  · exact event_upholds_beside (s.books_modJob _)
  · exact event_upholds_never

/-! ## The box -/

theorem execAlarmIn_upholds (active : Bool) : s.KeepsLaws (execAlarmIn active s) := event_upholds_ended rfl

theorem execActivityPulse_upholds (p : PrinterId) : s.KeepsLaws (execActivityPulse p s) :=
  event_upholds_beside s.books_modPrinter

theorem execFlash_upholds (p : PrinterId) : s.KeepsLaws (execFlash p s) := event_upholds_beside s.books_modPrinter

theorem execResetAsserted_upholds : s.KeepsLaws (execResetAsserted s) :=
  .next <| by
    dsimp only
    split
    · exact .of_books (State.books_stop ..)
    · exact .of_books rfl

theorem execResetReleased_upholds (straps : Straps) : s.KeepsLaws (execResetReleased straps s) := by
  have hpin : s.Upholds { s with resetPin := false } := .of_books rfl
  refine .next ?_
  dsimp only
  split
  · exact hpin.trans (State.upholds_startAs ..)
  · exact hpin
  · exact hpin

theorem execPowerUp_upholds (backupGood : Bool) (straps : Straps) : s.KeepsLaws (execPowerUp backupGood straps s) :=
  .next <| by
    split
    · split
      · exact .of_books rfl
      · exact s.upholds_startAs ..
    · exact .refl s

theorem execPowerFail_upholds : s.KeepsLaws (execPowerFail s) :=
  .next <| by
    split
    · exact .refl s
    · exact .of_books (s.books_stop _)

/-! ## Every command, every step -/

theorem exec_upholds (i : Instr) : s.KeepsLaws (exec i s) := by
  cases i with
  | openShift port tag body => exact execOpenShift_upholds port tag body
  | issue port tag body => exact execIssue_upholds port tag body
  | cancel port tag body => exact execCancel_upholds port tag body
  | void port tag body => exact execVoid_upholds port tag body
  | refund port tag body => exact execRefund_upholds port tag body
  | closeShift port tag body => exact execCloseShift_upholds port tag body
  | declare port tag body => exact execDeclare_upholds port tag body
  | queryShift port tag body => exact execQueryShift_upholds port tag body
  | receivePack port tag body => exact execReceivePack_upholds port tag body
  | loadPack port tag body => exact execLoadPack_upholds port tag body
  | unloadPack port tag body => exact execUnloadPack_upholds port tag body
  | forceUnload port tag body => exact execForceUnload_upholds port tag body
  | writeOffPack port tag body => exact execWriteOffPack_upholds port tag body
  | retirePack port tag body => exact execRetirePack_upholds port tag body
  | readPack port tag body => exact execReadPack_upholds port tag body
  | testPrint port tag body => exact execTestPrint_upholds port tag body
  | setService port tag body => exact execSetService_upholds port tag body
  | resetLine port tag body => exact execResetLine_upholds port tag body
  | resolveDispute port tag body => exact execResolveDispute_upholds port tag body
  | readSpoils port tag body => exact execReadSpoils_upholds port tag body
  | readEntries port tag body => exact execReadEntries_upholds port tag body
  | readShift port tag body => exact execReadShift_upholds port tag body
  | reopenCount port tag body => exact execReopenCount_upholds port tag body
  | signOff port tag body => exact execSignOff_upholds port tag body
  | openDay port tag body => exact execOpenDay_upholds port tag body
  | closeDay port tag body => exact execCloseDay_upholds port tag body
  | nextFault port tag body => exact execNextFault_upholds port tag body
  | readFault port tag body => exact execReadFault_upholds port tag body
  | ackFault port tag body => exact execAckFault_upholds port tag body
  | readChanges port tag body => exact execReadChanges_upholds port tag body
  | silenceAlarm port tag body => exact execSilenceAlarm_upholds port tag body
  | selectEntry port tag body => exact execSelectEntry_upholds port tag body
  | readEntry port tag body => exact execReadEntry_upholds port tag body
  | writeEntry port tag body => exact execWriteEntry_upholds port tag body
  | setClock port tag body => exact execSetClock_upholds port tag body
  | readOffice port tag body => exact execReadOffice_upholds port tag body
  | unknownKind port kind tag => exact execUnknownKind_upholds port kind tag
  | frameError port cause => exact execFrameError_upholds port cause
  | frameGap port => exact execFrameGap_upholds port
  | lineBreak port => exact execLineBreak_upholds port
  | attach port => exact execAttach_upholds port
  | capability printer tag body => exact execCapability_upholds printer tag body
  | status printer tag body => exact execStatus_upholds printer tag body
  | printed printer tag body => exact execPrinted_upholds printer tag body
  | jammed printer tag body => exact execJammed_upholds printer tag body
  | withdrawn printer tag body => exact execWithdrawn_upholds printer tag body
  | tooLate printer tag body => exact execTooLate_upholds printer tag body
  | top printer tag body => exact execTop_upholds printer tag body
  | printerFrameError printer cause => exact execPrinterFrameError_upholds printer cause
  | printerFrameGap printer => exact execPrinterFrameGap_upholds printer
  | idleMark printer => exact execIdleMark_upholds printer
  | linkGap printer cause => exact execLinkGap_upholds printer cause
  | settleTimer printer => exact execSettleTimer_upholds printer
  | silenceTimer printer => exact execSilenceTimer_upholds printer
  | jabber printer => exact execJabber_upholds printer
  | jabberQuiet printer => exact execJabberQuiet_upholds printer
  | capabilityWait printer => exact execCapabilityWait_upholds printer
  | printTimer printer => exact execPrintTimer_upholds printer
  | pauseTimer printer => exact execPauseTimer_upholds printer
  | withdrawalTimer printer => exact execWithdrawalTimer_upholds printer
  | queryTimer printer => exact execQueryTimer_upholds printer
  | loadAnswerTimer printer => exact execLoadAnswerTimer_upholds printer
  | unloadAnswerTimer printer => exact execUnloadAnswerTimer_upholds printer
  | grant printer => exact execGrant_upholds printer
  | jobWait window tag => exact execJobWait_upholds window tag
  | routeWait window tag => exact execRouteWait_upholds window tag
  | clockPulse => exact execClockPulse_upholds
  | alarmIn active => exact execAlarmIn_upholds active
  | activityPulse printer => exact execActivityPulse_upholds printer
  | flash printer => exact execFlash_upholds printer
  | resetAsserted => exact execResetAsserted_upholds
  | resetReleased straps => exact execResetReleased_upholds straps
  | powerUp backupGood straps => exact execPowerUp_upholds backupGood straps
  | powerFail => exact execPowerFail_upholds
  | printerUnknownKind printer kind => exact execPrinterUnknownKind_upholds printer kind
  | frameSent port => exact execFrameSent_upholds port

/-- The queue of waiting commands is not in the books. -/
theorem step_upholds {t : State} (h : step s = .next t) : s.Upholds t := by
  unfold step at h
  split at h
  · cases h
    exact .refl s
  · next c rest _ =>
    have hqueue : s.Upholds { s with pending := rest } := .of_books rfl
    exact hqueue.trans (exec_upholds c t h)

/-- Settles O16: a shift posts an amount to its tender and, apportioned, to its heads; what else moves a shift leaves
its totals, and no split that a job or a posting shift's entry names can lose its parts. -/
theorem stepKeepsShiftAccounts : Obligations.StepKeepsShiftAccounts := fun _ _ hs h => (step_upholds h).accounts hs

/-- Settles O17: WRITE ENTRY, SET CLOCK, SET SERVICE, the clock's pulse and the starts alone change the tables, each
within its ranges. -/
theorem stepKeepsSettings : Obligations.StepKeepsSettings :=
  ⟨fun _ _ hs h => (step_upholds h).settings hs, fun _ _ hs h => (step_upholds h).fallback hs⟩

end Sys2Proof.Machine
end

section
/-! What a cold start leaves of the shifts (R129), and what a posting writes (R113, R114). -/

namespace Sys2Proof.Machine

/-! ## What reset leaves (R129) -/

/-- Settles O4: every shift of the reset state is the empty record. -/
theorem resetShiftsIdleDayClosed : Obligations.ResetShiftsIdleDayClosed := by
  refine ⟨fun w => ?_, rfl, by decide, ?_, rfl, rfl, rfl⟩
  · rw [State.reset_shift w]
    exact ⟨rfl, rfl, rfl, rfl, rfl, rfl⟩
  · rintro w r hr ⟨hsource, -⟩
    rw [List.mem_singleton.1 hr] at hsource
    cases hsource

/-! ## A posting (R113, R114) -/

theorem isHeld_eq (total a : Int) : isHeld total a = decide (heldWithin (total + a) ≠ total + a) := by
  rw [Bool.eq_iff_iff, isHeld, bne_iff_ne, decide_eq_true_iff]

@[simp] theorem Tenders.get_set {α : Type} (t : Tenders α) (k : Tender) (a : α) : (t.set k a).get k = a := by
  cases k <;> rfl

/-- One portion added to the heads, with the indicator: the addition formed exactly and held within its range. -/
def addPortion (v : Vector Int 8 × Bool) (hp : Head × Int) : Vector Int 8 × Bool :=
  let total := v.1[hp.1] + hp.2
  (v.1.set hp.1 (heldWithin total), v.2 || decide (heldWithin total ≠ total))

theorem Shift.addHead_totals (h : Shift) (hp : Head × Int) :
    ((h.addHead hp.1 hp.2).heads, (h.addHead hp.1 hp.2).limited) = addPortion (h.heads, h.limited) hp :=
  Prod.ext rfl (congrArg (h.limited || ·) (isHeld_eq ..))

theorem Shift.addHeads_totals (portions : List (Head × Int)) (h : Shift) :
    ((h.addHeads portions).heads, (h.addHeads portions).limited) = portions.foldl addPortion (h.heads, h.limited) := by
  induction portions generalizing h with
  | nil => rfl
  | cons hp portions ih =>
    rw [List.foldl_cons, ← Shift.addHead_totals]
    exact ih (h.addHead hp.1 hp.2)

theorem Shift.addTender_limited (h : Shift) (k : Tender) (a : Int) : (h.addTender k a).limited
    = (h.limited || decide (heldWithin (h.tenders.get k + a) ≠ h.tenders.get k + a)) :=
  congrArg (h.limited || ·) (isHeld_eq ..)

/-- What portions added to the heads leave of a record. -/
theorem Shift.addHeads_frame (portions : List (Head × Int)) (h : Shift) (heads : Vector Int 8) (limited : Bool) :
    { h.addHeads portions with heads := heads, limited := limited }
      = { h with heads := heads, limited := limited } := by
  induction portions generalizing h with
  | nil => rfl
  | cons hp portions ih => exact ih (h.addHead hp.1 hp.2)

/-- R113: a posting writes the totals and the indicator alone. -/
theorem Shift.post_frame (h : Shift) (k : Tender) (a : Int) (split : Split) :
    { h.post k a split with tenders := h.tenders, heads := h.heads, limited := h.limited } = h :=
  congrArg (fun g : Shift => { g with tenders := h.tenders })
    ((h.addTender k a).addHeads_frame (apportion a split) h.heads h.limited)

/-- R114: an indicator that is clear after a posting was clear after its addition to the tender. -/
theorem Shift.addTender_of_post_not_limited {h : Shift} {k : Tender} {a : Int} {split : Split}
    (hl : (h.post k a split).limited = false) : (h.addTender k a).limited = false :=
  (Shift.addHeads_exact (apportion a split) hl).1

/-- R113: a posting of which no addition is held posts its amount. -/
theorem Shift.posted_post {h : Shift} {k : Tender} {a : Int} {split : Split}
    (hl : (h.post k a split).limited = false) : posted h (h.post k a split) k = a := by
  obtain ⟨-, hexact⟩ := Bool.or_eq_false_iff.1 (Shift.addTender_of_post_not_limited hl)
  unfold posted
  rw [Shift.post_tenders]
  show (h.tenders.set k (heldWithin (h.tenders.get k + a))).get k - _ = a
  rw [Tenders.get_set, heldWithin_add_of_not_held hexact, add_sub_cancel_left]

/-- R114: the limit indicator is never cleared by a posting. -/
theorem Shift.post_limited_of_limited {h : Shift} (k : Tender) (a : Int) (split : Split) (hl : h.limited = true) :
    (h.post k a split).limited = true := by
  rw [← Bool.not_eq_false]
  intro hclear
  obtain ⟨hwas, -⟩ := Shift.addTender_exact (Shift.addTender_of_post_not_limited hclear)
  exact Bool.false_ne_true (hwas.symm.trans hl)

/-- Settles O21: the addition to the tender, and then those to the heads one by one. -/
theorem posting : Obligations.Posting := by
  intro h t a split after held
  refine ⟨Shift.post_tenders .., ?_, Shift.post_limited_of_limited t a split, Shift.posted_post,
    Shift.post_frame ..⟩
  refine (Shift.addHeads_totals (apportion a split) (h.addTender t a)).trans ?_
  rw [Shift.addTender_limited]
  rfl

end Sys2Proof.Machine
end

section
/-! OPEN SHIFT, VOID and REFUND (R112, R121 to R123): what each leaves, where its checks hold. -/

namespace Sys2Proof.Machine

variable {s : State}

/-! ## OPEN SHIFT (R112) -/

/-- R112: the shift of a window opened with a float. -/
def State.shiftOpened (s : State) (w : Window) (float : Nat) : State :=
  { s with
    shifts := s.shifts.set w { s.shifts[w] with
      state := .opened, float := min float 10000000, openedAt := some s.clock }
    windowFlags := s.windowFlags.set w { s.windowFlags[w] with shift := true } }

/-- R101: an OPEN shift holds the table lock. -/
theorem State.tableLock_of_opened {w : Window} (h : s.shifts[w].state = .opened) : s.tableLock = true :=
  List.any_eq_true.2 ⟨w, mem_allWindows w, by rw [Shift.locks, h]; rfl⟩

theorem State.shiftOpened_locks (s : State) (w : Window) (float : Nat) : (s.shiftOpened w float).tableLock = true :=
  State.tableLock_of_opened (w := w) (congrArg Shift.state ((vecGet_set ..).trans (if_pos rfl)))

theorem execOpenShift_ok {w : Window} {tag : Tag} {float : Nat} (h : s.Hears (.window w)) (hfloat : float < 2 ^ 32)
    (hday : s.dayOpen = true) (hidle : s.shifts[w].state = .idle) :
    execOpenShift (.window w) tag (be 4 float) s = .next ((s.shiftOpened w float).answered (.window w)
      (acceptedFrame Cmd.openShift tag (be 4 (min float 10000000)))) := by
  refine windowCommand_ok h (by simp [fits]) ((need_bind hday).trans ((need_bind (beq_iff_eq.2 hidle)).trans ?_))
  dsimp only
  rw [num_be_only hfloat]
  exact congrArg Except.ok (State.sound_send (port := .window w) (s := s.shiftOpened w float) h.listens _)

/-- Settles O26, by the command's two checks in order and the record it writes. -/
theorem openShift : Obligations.OpenShift := by
  intro s w tag float h hfloat c stored u
  have htakes : s.Takes ⟨.window w, 0x10#8, tag, be 4 float, false, 4, 4⟩ :=
    { hears := h, side := by simp, least := by simp, most := by simp }
  obtain ⟨hrefused, -⟩ := openShift_refuses htakes
  refine ⟨fun hday => hrefused _ ?_, fun hday hstate => hrefused _ ?_, fun hday hidle =>
    ⟨execOpenShift_ok h hfloat hday hidle, s.shiftOpened_locks w float⟩⟩
  · show firstFailing [(s.dayOpen, _), _] = _
    rw [firstFailing_cons, hday]
    rfl
  · show firstFailing [(s.dayOpen, _), (s.shifts[w].state == .idle, _)] = _
    rw [firstFailing_cons, firstFailing_cons, hday, beq_eq_false_iff_ne.2 hstate]
    rfl

/-! ## VOID and REFUND (R121 to R123) -/

/-- R121: an entry holds a serial of a stock type. -/
def State.HoldsSerial (s : State) (stock : StockType) (serial : Nat) (x : Entry) : Prop :=
  x.first ≤ serial ∧ serial < x.first + x.count ∧ ∃ k, s.pack? x.pack = some k ∧ k.stock = stock

theorem State.holdsSerial_iff {stock : StockType} {serial : Nat} {x : Entry} : s.HoldsSerial stock serial x
    ↔ (x.covers serial && (s.pack? x.pack).any (·.stock == stock)) = true := by
  simp [State.HoldsSerial, Entry.covers, Option.any_eq_true, and_assoc]

/-- R121, check 3: the first entry that holds the serial is the one named. -/
theorem State.entryHolding_eq {w : Window} {stock : StockType} {serial n : Nat} {e : Entry}
    (he : s.shifts[w].entries[n]? = some e) (hholds : s.HoldsSerial stock serial e)
    (hfirst : ∀ (m : Nat) (x : Entry), m < n → s.shifts[w].entries[m]? = some x → ¬s.HoldsSerial stock serial x) :
    s.entryHolding w stock serial = some n := by
  obtain ⟨hn, rfl⟩ := List.getElem?_eq_some_iff.1 he
  refine List.findIdx?_eq_some_iff_getElem.2 ⟨hn, State.holdsSerial_iff.1 hholds, fun m hm hc => ?_⟩
  exact hfirst m _ hm (List.getElem?_eq_getElem (hm.trans hn)) (State.holdsSerial_iff.2 hc)

/-- A state with the record of one shift replaced. -/
def State.setShift (s : State) (w : Window) (h : Shift) : State := { s with shifts := s.shifts.set w h }

theorem State.setShift_get (s : State) (w : Window) (h : Shift) : (s.setShift w h).shifts[w] = h :=
  (vecGet_set ..).trans (if_pos rfl)

/-- R114, R122, R123: a command that posts leaves the posted record, its answer, and a report of the limit indicator
where it sets it. -/
theorem settled_of_posting {a : Answer} {w : Window} {after : Shift} {f : Frame}
    (ha : a = .next (((s.setShift w after).answered (.window w) f).commit (s.sound (.window w)) [])) :
    ∃ t, a = .next t ∧ State.Settled s ((s.setShift w after).answered (.window w) f) t []
      ∧ (s.shifts[w].limited = false → after.limited = true → t.Told (.window w) .shiftLimited) := by
  refine ⟨_, ha, (State.settled_sound (.window w)).1 (State.commit_settled ..), fun hwas hset => ?_⟩
  refine State.limited_told (s := s.sound (.window w)) hwas ?_
  exact (congrArg Shift.limited (s.setShift_get w after)).trans hset

/-- ACCEPTED after a posting, at the end of the step. -/
theorem accept_posting {w : Window} (h : s.Hears (.window w)) (after : Shift) (kind : Byte) (tag : Tag)
    (fields : List Byte) :
    (pure ((((s.sound (.window w)).modShift w fun _ => after).accept (.window w) kind tag fields).commit
        (s.sound (.window w)) []) : Except Code State)
      = .ok (((s.setShift w after).answered (.window w) (acceptedFrame kind tag fields)).commit
          (s.sound (.window w)) []) :=
  congrArg (fun v : State => Except.ok (v.commit (s.sound (.window w)) []))
    (State.sound_send (port := .window w) (s := s.setShift w after) h.listens _)

/-- R121: the checks that a VOID of a serial in entry `e` of a shift passes on the record. -/
structure Shift.MayVoid (h : Shift) (e : Entry) (serial : Nat) : Prop where
  state : h.state = .opened ∨ h.state = .draining
  clear : e.disputed = false
  unlisted : ∀ v ∈ h.voids, ¬(v.pack = e.pack ∧ v.serial = serial)
  room : h.voids.length < 32

theorem execVoid_ok {w : Window} {tag : Tag} {stock : StockType} {serial n : Nat} {e : Entry}
    (h : s.Hears (.window w)) (hserial : serial < 2 ^ 24) (hn : s.entryHolding w stock serial = some n)
    (he : s.shifts[w].entries[n]? = some e) (hv : s.shifts[w].MayVoid e serial) :
    execVoid (.window w) tag (be 1 stock.val ++ be 3 serial) s = .next
      (((s.setShift w (s.voided s.shifts[w] e serial)).answered (.window w) (acceptedFrame Cmd.void tag
        (be 1 n ++ beInt 4 (posted s.shifts[w] (s.voided s.shifts[w] e serial) e.tender)))).commit
          (s.sound (.window w)) []) := by
  have hposts : (s.shifts[w].state == .opened || s.shifts[w].state == .draining) = true := by simpa using hv.state
  have hmark : (!e.disputed) = true := by rw [hv.clear]; rfl
  have hunlisted : (!s.shifts[w].voids.any fun v => v.pack == e.pack && v.serial == serial) = true := by
    simpa using hv.unlisted
  have hstock : stock.val < 256 ^ 1 := by have := stock.isLt; omega
  refine windowCommand_ok h (by simp [fits]) ?_
  dsimp only
  rw [num_be_head hstock, num_be_last (by simp) (by omega)]
  refine (need_bind hposts).trans ((want_bind (named_val stock)).trans ((want_bind hn).trans ((want_bind he).trans
    ((need_bind hmark).trans ((need_bind hunlisted).trans ((need_bind (decide_eq_true hv.room)).trans ?_))))))
  exact accept_posting h (s.voided s.shifts[w] e serial) ..

/-- R123: the shift after a refund. -/
def State.refunded (s : State) (h : Shift) (tender : Tender) (amount : Nat) (split : EntryIndex) : Shift :=
  { h with refunds := raised h.refunds 1 }.post tender (-amount) s.splits[split]

theorem execRefund_ok {w : Window} {tag : Tag} {amount : Nat} {tender : Tender} {split : EntryIndex}
    (h : s.Hears (.window w)) (hopen : s.shifts[w].state = .opened) (hleast : 1 ≤ amount) (hmost : amount ≤ 1999999)
    (hparts : s.splits[split] ≠ []) :
    execRefund (.window w) tag (be 3 amount ++ be 1 tender.code ++ be 1 split.val) s = .next
      (((s.setShift w (s.refunded s.shifts[w] tender amount split)).answered (.window w)
        (acceptedFrame Cmd.refund tag
          (beInt 4 (posted s.shifts[w] (s.refunded s.shifts[w] tender amount split) tender)))).commit
            (s.sound (.window w)) []) := by
  have hcode := tender.code_lt
  have hsplit := split.isLt
  have hamount : num (be 3 amount ++ be 1 tender.code ++ be 1 split.val) 0 3 = amount := by
    rw [List.append_assoc]
    exact num_be_head (by omega)
  have hfare : (decide (1 ≤ amount) && decide (amount ≤ Config.maxFare)) = true :=
    Bool.and_eq_true_iff.2 ⟨decide_eq_true hleast, decide_eq_true hmost⟩
  have hvalid : (!(s.splits[split] : Split).isEmpty) = true := by
    rw [← bne_nil_eq]
    exact bne_iff_ne.2 hparts
  refine windowCommand_ok h (by simp [fits]) ?_
  dsimp only
  rw [hamount, num_be_mid (by simp) (by omega), num_be_last (by simp) (by omega)]
  refine (need_bind (beq_iff_eq.2 hopen)).trans ((need_bind hfare).trans ((want_bind (tenderNamed_code tender)).trans
    ((want_bind (named_val split)).trans ((need_bind hvalid).trans ?_))))
  exact accept_posting h (s.refunded s.shifts[w] tender amount split) ..

/-- Settles O29, by the two commands' checks in order and the posting each makes. -/
theorem voidAndRefund : Obligations.VoidAndRefund := by
  refine ⟨?_, ?_⟩
  · intro s w tag stock serial n e h holds hears hstate hserial he hholds hfirst hclear hnew hroom after
    have hn : s.entryHolding w stock serial = some n := State.entryHolding_eq he hholds hfirst
    exact settled_of_posting (execVoid_ok hears hserial hn he ⟨hstate, hclear, hnew, hroom⟩)
  · intro s w tag amount tender split h hears hopen hleast hmost hparts after
    exact settled_of_posting (execRefund_ok hears hopen hleast hmost hparts)

end Sys2Proof.Machine
end

section
/-!
The ledger of a state: the state of the office day, and of each shift its state, its void list, and the runs of
serials its entries hold (R117, R120, R127). What leaves it alone, operation by operation.
-/

namespace Sys2Proof.Machine

/-- A run of serials of a pack that an issue entry holds. -/
structure IssueRun where
  pack : Nat
  first : Nat
  count : Nat

def Entry.run (e : Entry) : IssueRun := { pack := e.pack, first := e.first, count := e.count }

/-- What the laws of the void lists and of the closed day read of a shift. -/
structure ShiftLedger where
  state : ShiftState
  voids : List VoidRecord
  voidCount : Nat
  runs : List IssueRun

def Shift.ledger (h : Shift) : ShiftLedger :=
  { state := h.state, voids := h.voids, voidCount := h.voidCount, runs := h.entries.map Entry.run }

/-- What the laws of the void lists and of the closed day read of a state. -/
structure Ledger where
  dayOpen : Bool
  shifts : Vector ShiftLedger 12

def State.ledger (s : State) : Ledger := { dayOpen := s.dayOpen, shifts := s.shifts.map Shift.ledger }

variable (s : State)

variable {s} in
theorem State.ledger_of_shifts {t : State} (hday : t.dayOpen = s.dayOpen)
    (hshifts : ∀ w : Window, t.shifts[w].ledger = s.shifts[w].ledger) : t.ledger = s.ledger := by
  unfold State.ledger
  rw [hday, vecMap_eq hshifts]

/-! ## Frames -/

theorem State.ledger_modPort (port : Port) (f : PortRecord → PortRecord) : (s.modPort port f).ledger = s.ledger := by
  cases port <;> rfl

theorem State.ledger_send (port : Port) (fs : List Frame) : (s.send port fs).ledger = s.ledger := s.ledger_modPort ..

theorem State.ledger_accept (port : Port) (kind : Byte) (tag : Tag) (fields : List Byte) :
    (s.accept port kind tag fields).ledger = s.ledger := s.ledger_send ..

theorem State.ledger_reply (port : Port) (kind : Byte) (tag : Tag) (body : List Byte) :
    (s.reply port kind tag body).ledger = s.ledger := s.ledger_send ..

/-! ## Shifts -/

theorem State.ledger_modShift {w : Window} {f : Shift → Shift}
    (h : ∀ g, (f g).ledger = g.ledger := by exact fun _ => rfl) : (s.modShift w f).ledger = s.ledger :=
  State.ledger_of_shifts rfl fun x => by
    rw [State.modShift_get]
    split
    · subst_vars; exact h _
    · rfl

theorem State.ledger_releaseTicket (f : Ticket) : (s.releaseTicket f).ledger = s.ledger := by
  unfold State.releaseTicket
  split
  · exact s.ledger_modShift
  · rfl

/-- A change of one item that `g` does not see. -/
theorem map_modify_of_eq {α β : Type} (l : List α) (n : Nat) {f : α → α} {g : α → β} (hf : ∀ a, g (f a) = g a) :
    (l.modify n f).map g = l.map g := by
  refine List.ext_getElem? fun i => ?_
  simp only [List.getElem?_map, List.getElem?_modify]
  cases l[i]? with
  | none => rfl
  | some a =>
    rw [Option.map_some]
    split
    · exact congrArg some (hf a)
    · rfl

/-- R81: a resolved entry keeps its run. -/
theorem Shift.resolveEntry_ledger (h : Shift) (number : Nat) (writeOff : Bool) :
    (h.resolveEntry number writeOff).ledger = h.ledger := by
  unfold Shift.ledger Shift.resolveEntry
  congr 1
  exact map_modify_of_eq h.entries number fun _ => rfl

/-! ## Blanks and tickets -/

theorem State.ledger_writeRun (pack first count : Nat) (cause : Cause) (printer : Option PrinterId)
    (charged : Option JobRef) : (s.writeRun pack first count cause printer charged).ledger = s.ledger := by
  cases charged with
  | none => rfl
  | some ref => exact State.ledger_modShift _

theorem State.ledger_spoilRange (p : PrinterId) (pack first : Nat) (charges : List (Option JobRef)) :
    (s.spoilRange p pack first charges).ledger = s.ledger := by
  unfold State.spoilRange
  induction runsOf first charges generalizing s with
  | nil => rfl
  | cons r runs ih => exact (ih _).trans (s.ledger_writeRun ..)

theorem State.ledger_writeOff (k : Pack) : (s.writeOff k).ledger = s.ledger := by
  have hpack (a : State) (f : Pack → Pack) : (a.modPack k.id f).ledger = a.ledger := rfl
  unfold State.writeOff
  dsimp only
  rw [hpack]
  split
  · exact s.ledger_writeRun ..
  · rfl

theorem State.ledger_ticketEnds (p : PrinterId) (f : Ticket) (o : TicketOutcome) (x : TestOutcome) :
    (s.ticketEnds p f o x).ledger = s.ledger := by
  unfold State.ticketEnds
  split
  · exact s.ledger_send ..
  · split
    · exact State.ledger_send ..
    · rfl

/-- R61, R87, R118: a ticket that ends takes its reservation with it, and no more of its shift. -/
theorem State.ledger_ticketGone (p : PrinterId) (f : Ticket) (o : TicketOutcome) (x : TestOutcome) :
    (((s.releaseTicket f).backOff p f.owner).ticketEnds p f o x).ledger = s.ledger :=
  (State.ledger_ticketEnds ..).trans (s.ledger_releaseTicket f)

theorem State.ledger_loseTickets (p : PrinterId) : (s.loseTickets p).ledger = s.ledger := by
  unfold State.loseTickets
  rw [State.foldl_loseTicket]
  refine State.ledger_of_shifts rfl fun w => ?_
  unfold State.lose State.withRecords
  dsimp only
  rw [vecGet_ofFn]
  rfl

theorem State.ledger_withdrawStaged (p : PrinterId) (f : Ticket) : (s.withdrawStaged p f).ledger = s.ledger :=
  State.ledger_ticketGone ..

theorem State.ledger_discardStaged (p : PrinterId) (f : Ticket) (spoiled : Bool) :
    (s.discardStaged p f spoiled).ledger = s.ledger := by
  refine (State.ledger_ticketGone ..).trans ?_
  split <;> rfl

theorem State.ledger_countJam (owner : Option JobRef) (k : Nat) : (s.countJam owner k).ledger = s.ledger := by
  cases owner <;> rfl

theorem State.ledger_jam (p : PrinterId) (f : Ticket) (k : Nat) : (s.jam p f k).ledger = s.ledger := by
  have hfirst (a : State) (cause : Cause) : (((((a.writeRun f.pack f.serial k cause (some p) f.owner).countJam f.owner
      k).releaseTicket f).backOff p f.owner).ticketEnds p f (.jammed k) (.jammed k)).ledger = a.ledger :=
    (State.ledger_ticketGone ..).trans ((State.ledger_countJam ..).trans (a.ledger_writeRun ..))
  unfold State.jam
  dsimp only
  split
  · exact (State.ledger_discardStaged ..).trans (hfirst ..)
  · exact hfirst ..

theorem State.ledger_printedTest (p : PrinterId) (f : Ticket) (read : Option Nat) :
    (s.printedTest p f read).ledger = s.ledger :=
  (State.ledger_ticketEnds ..).trans (State.ledger_writeRun ..)

theorem State.ledger_grantOne (p : PrinterId) (k : Pack) : (s.grantOne p k).ledger = s.ledger := by
  have hjob (j : Job) : (s.sendJob p k j).ledger = s.ledger := s.ledger_modShift (w := j.ref.window) (f := fun h =>
    { h with reservations := h.reservations + (if (s.ticketClass p j).reserves then 1 else 0) })
  unfold State.grantOne
  cases s.choose p with
  | nothing => rfl
  | test x => rfl
  | holder j => exact hjob j
  | burst j => exact hjob j

/-! ## Lines and packs -/

theorem State.ledger_endLoadCheck (p : PrinterId) (c : LoadCheck) (o : LoadOutcome) :
    (s.endLoadCheck p c o).ledger = s.ledger := State.ledger_send ..

theorem State.ledger_endUnloadCheck (p : PrinterId) (c : UnloadCheck) (pack : Option Nat) (o : UnloadOutcome) :
    (s.endUnloadCheck p c pack o).ledger = s.ledger := State.ledger_send ..

theorem State.ledger_endChecks (p : PrinterId) : (s.endChecks p).ledger = s.ledger := by
  have hunload (a : State) : State.ledger (match a.printers[p].unloadCheck with
      | some c => a.endUnloadCheck p c a.printers[p].loaded .linkLost
      | none => a) = a.ledger := by
    split
    · exact State.ledger_endUnloadCheck ..
    · rfl
  refine (hunload _).trans ?_
  split
  · exact State.ledger_endLoadCheck ..
  · rfl

theorem State.ledger_linkLoss (p : PrinterId) (link : Link) : (s.linkLoss p link).ledger = s.ledger :=
  (State.ledger_endChecks ..).trans (s.ledger_loseTickets p)

theorem State.ledger_forceDown (p : PrinterId) : (s.forceDown p).ledger = s.ledger := by
  unfold State.forceDown
  split
  · exact s.ledger_linkLoss ..
  · rfl
  · rfl
  · rfl

theorem State.ledger_spoilOut (p : PrinterId) : (s.spoilOut p).ledger = s.ledger := by
  unfold State.spoilOut
  split
  · exact s.ledger_spoilRange ..
  · rfl

theorem State.ledger_compromise (p : PrinterId) : (s.compromise p).ledger = s.ledger := by
  unfold State.compromise
  dsimp only
  split <;> rfl

theorem State.ledger_settleRange (p : PrinterId) (g : Range) (n : Nat) : (s.settleRange p g n).ledger = s.ledger :=
  s.ledger_spoilRange p ..

/-- No table of the settings touches the shifts. -/
theorem State.ledger_writeEntry (body : List Byte) : Leaves (s.writeEntry body) fun t => t.ledger = s.ledger := by
  unfold State.writeEntry
  split
  · exact .need fun _ => .need fun _ => .pure rfl
  · exact .need fun _ => .need fun _ => .want fun _ _ => .need fun _ => .pure rfl
  · exact .want fun _ _ => .pure rfl
  · unfold State.writeFallback
    split
    · exact .pure rfl
    · exact .want fun _ _ => .need fun _ => .pure rfl
  · exact .pure rfl
  · exact .pure rfl

end Sys2Proof.Machine
end

section
/-!
The laws of the void lists (R120) and of the closed day (R127): what they read of the ledger, and the changes of shifts
that keep them.
-/

namespace Sys2Proof.Machine

variable {s t u : State}

/-! ## Void lists, shift by shift (R120) -/

/-- A record with the void list of another, whose entries hold at least the serials of that one's. -/
theorem Shift.VoidsSound.grow {g h : Shift} (hs : h.VoidsSound) (hvoids : g.voids = h.voids)
    (hcount : g.voidCount = h.voidCount)
    (hruns : ∀ e ∈ h.entries, ∃ e' ∈ g.entries, e'.pack = e.pack ∧ e'.first = e.first ∧ e.count ≤ e'.count) :
    g.VoidsSound := by
  obtain ⟨hroom, hnodup, hlength, hheld⟩ := hs
  unfold Shift.VoidsSound
  rw [hvoids, hcount]
  refine ⟨hroom, hnodup, hlength, fun v hv => ?_⟩
  obtain ⟨e, he, hpack, hfirst, hlast⟩ := hheld v hv
  obtain ⟨e', he', hpack', hfirst', hcount'⟩ := hruns e he
  exact ⟨e', he', hpack'.trans hpack, by omega, by omega⟩

theorem Shift.VoidsSound.of_ledger {g h : Shift} (hs : h.VoidsSound) (e : g.ledger = h.ledger) : g.VoidsSound :=
  hs.grow (congrArg ShiftLedger.voids e) (congrArg ShiftLedger.voidCount e) fun x hx => by
    obtain ⟨y, hy, hrun⟩ := exists_mem_of_map_eq (congrArg ShiftLedger.runs e).symm hx
    exact ⟨y, hy, congrArg IssueRun.pack hrun, congrArg IssueRun.first hrun, (congrArg IssueRun.count hrun).ge⟩

/-- R122: a void of a serial not yet voided, in an entry of the shift, while the list has room. -/
theorem Shift.VoidsSound.add {h : Shift} (hs : h.VoidsSound) {e : Entry} (he : e ∈ h.entries) {serial : Nat}
    (hcovers : e.covers serial = true) (hnew : ∀ v ∈ h.voids, ¬(v.pack = e.pack ∧ v.serial = serial))
    (hroom : h.voids.length < 32) (now : Stamp) :
    ({ h with
      voids := h.voids ++ [{ pack := e.pack, serial := serial, time := now }]
      voidCount := raised h.voidCount 1 } : Shift).VoidsSound := by
  obtain ⟨-, hnodup, hcount, hheld⟩ := hs
  refine ⟨?_, ?_, ?_, fun v hv => ?_⟩
  · rw [List.length_append]
    exact hroom
  · rw [List.map_append, List.nodup_append]
    refine ⟨hnodup, List.nodup_singleton _, ?_⟩
    rintro _ hold _ hone rfl
    obtain ⟨v, hv, hsame⟩ := List.mem_map.1 hold
    obtain ⟨hpack, hserial⟩ := Prod.mk.inj (hsame.trans (List.mem_singleton.1 hone))
    exact hnew v hv ⟨hpack, hserial⟩
  · simp only [raised, Config.countLimit, List.length_append, List.length_singleton]
    omega
  · obtain hv | hv := List.mem_append.1 hv
    · exact hheld v hv
    · obtain ⟨hfirst, hlast⟩ := Bool.and_eq_true_iff.1 hcovers
      rw [List.mem_singleton.1 hv]
      exact ⟨e, he, rfl, of_decide_eq_true hfirst, of_decide_eq_true hlast⟩

/-- R113: a posting leaves the state, the void list and the entries alone. -/
theorem Shift.post_ledger (h : Shift) (k : Tender) (a : Int) (split : Split) :
    (h.post k a split).ledger = h.ledger := by
  have hframe := congrArg Shift.ledger (h.post_frame k a split)
  exact hframe

theorem Shift.VoidsSound.post {h : Shift} (hs : h.VoidsSound) (k : Tender) (a : Int) (split : Split) :
    (h.post k a split).VoidsSound := hs.of_ledger (h.post_ledger k a split)

/-- R119: a recorded ticket lengthens an entry or makes one. -/
theorem Shift.VoidsSound.recorded {h : Shift} (hs : h.VoidsSound) (j : Job) (f : Ticket) (read : Option Nat)
    (same passes : Bool) : (h.recorded j f read same passes).VoidsSound := by
  refine hs.grow rfl rfl fun e he => ?_
  unfold Shift.recorded
  dsimp only
  split
  · next m _ =>
    obtain ⟨i, hi, rfl⟩ := List.mem_iff_getElem.1 he
    refine ⟨(h.entries.modify m fun e => { e with count := e.count + 1 })[i]'(by simpa using hi),
      List.getElem_mem _, ?_⟩
    rw [List.getElem_modify]
    split
    · exact ⟨rfl, rfl, Nat.le_succ _⟩
    · exact ⟨rfl, rfl, le_rfl⟩
  · exact ⟨e, List.mem_append_left _ he, rfl, rfl, le_rfl⟩

/-- R109: an empty record has voided nothing. -/
theorem Shift.empty_voidsSound : Shift.empty.VoidsSound := by
  unfold Shift.VoidsSound
  decide

/-! ## A change that keeps the laws -/

/-- A change that keeps the void lists sound, and every shift IDLE while the day is CLOSED. -/
structure State.Preserves (s t : State) : Prop where
  voids : s.VoidsSound → t.VoidsSound
  day : s.DaySound → t.DaySound

theorem State.Preserves.trans (h : s.Preserves t) (k : t.Preserves u) : s.Preserves u :=
  ⟨fun hs => k.voids (h.voids hs), fun hs => k.day (h.day hs)⟩

/-- Each shift keeps its void list sound and, while the day is CLOSED, stays IDLE. -/
theorem State.Preserves.of_shifts (hday : t.dayOpen = s.dayOpen)
    (hvoids : ∀ w : Window, s.shifts[w].VoidsSound → t.shifts[w].VoidsSound)
    (hidle : ∀ w : Window, s.dayOpen = false → s.shifts[w].state = .idle → t.shifts[w].state = .idle) :
    s.Preserves t where
  voids := fun hs w => hvoids w (hs w)
  day := fun hs hd w => hidle w (hday ▸ hd) (hs (hday ▸ hd) w)

theorem State.ledger_shift (h : t.ledger = s.ledger) (w : Window) : t.shifts[w].ledger = s.shifts[w].ledger := by
  have hshift := congrArg (fun b : Ledger => b.shifts[w]) h
  simpa [State.ledger, vecGet_map] using hshift

theorem State.Preserves.of_ledger (h : t.ledger = s.ledger) : s.Preserves t :=
  .of_shifts (congrArg Ledger.dayOpen h) (fun w hs => hs.of_ledger (State.ledger_shift h w))
    fun w _ hi => (congrArg ShiftLedger.state (State.ledger_shift h w)).trans hi

theorem State.Preserves.refl (s : State) : s.Preserves s := .of_ledger rfl

theorem State.Preserves.ledger (h : s.Preserves t) (e : u.ledger = t.ledger) : s.Preserves u := h.trans (.of_ledger e)

/-- One shift made anew. -/
theorem State.preserves_modShift {w : Window} {f : Shift → Shift}
    (hvoids : s.shifts[w].VoidsSound → (f s.shifts[w]).VoidsSound)
    (hidle : s.dayOpen = false → s.shifts[w].state = .idle → (f s.shifts[w]).state = .idle) :
    s.Preserves (s.modShift w f) :=
  .of_shifts rfl
    (fun x hx => by
      rw [State.modShift_get]
      split
      · next hw => exact hvoids (hw ▸ hx)
      · exact hx)
    fun x hd hx => by
      rw [State.modShift_get]
      split
      · next hw => exact hidle hd (hw ▸ hx)
      · exact hx

/-- A shift that is not IDLE moves on to another state. -/
theorem State.preserves_moveShift {w : Window} {f : Shift → Shift} (hactive : s.shifts[w].state ≠ .idle)
    (hledger : (f s.shifts[w]).ledger = { s.shifts[w].ledger with state := (f s.shifts[w]).state }) :
    s.Preserves (s.modShift w f) :=
  State.preserves_modShift
    (fun hs => Shift.VoidsSound.of_ledger (h := { s.shifts[w] with state := (f s.shifts[w]).state }) hs hledger)
    fun _ hi => absurd hi hactive

/-! ## The end of a step (R132) -/

theorem State.commit_dayOpen (s before : State) (told : List Occurrence) :
    (s.commit before told).dayOpen = s.dayOpen := by
  have hday := congrArg State.dayOpen (s.commit_bare before told)
  exact hday

theorem State.preserves_commit (s before : State) (told : List Occurrence) : s.Preserves (s.commit before told) := by
  refine .of_shifts (s.commit_dayOpen before told) (fun w hs => ?_) fun w _ hi => ?_
  · rw [State.commit_shifts]
    split
    · exact hs
    · exact hs
  · rw [State.commit_shifts]
    split
    · next hd =>
      obtain ⟨hdraining, -⟩ := Bool.and_eq_true_iff.1 hd
      rw [hi] at hdraining
      cases hdraining
    · exact hi

/-- What keeps the laws keeps them at the end of its step. -/
theorem State.Preserves.ended (h : s.Preserves t) {before : State} {told : List Occurrence} :
    s.Preserves (t.commit before told) := h.trans (t.preserves_commit ..)

/-- A change beside the ledger, at the end of its step. -/
theorem State.Preserves.endedBeside {before : State} {told : List Occurrence} (h : t.ledger = s.ledger) :
    s.Preserves (t.commit before told) := (State.Preserves.of_ledger h).ended

theorem State.Preserves.accept (h : s.Preserves t) (port : Port) (kind : Byte) (tag : Tag) (fields : List Byte) :
    s.Preserves (t.accept port kind tag fields) := h.ledger (t.ledger_accept ..)

/-! ## The office day (R144 to R146) -/

/-- R144: with the day OPEN the closed day asks for nothing. -/
theorem State.preserves_openDay (s : State) : s.Preserves { s.markDay with dayOpen := true } := ⟨fun hs => hs, nofun⟩

/-- R145: CLOSE DAY finds every shift IDLE or SIGNED_OFF. -/
theorem State.idle_or_signedOff_of_dayCanClose (h : s.dayCanClose = true) (w : Window) :
    s.shifts[w].state = .idle ∨ s.shifts[w].state = .signedOff := by
  unfold State.dayCanClose at h
  simp only [Bool.and_eq_true, List.all_eq_true, Bool.or_eq_true, beq_iff_eq] at h
  obtain ⟨⟨⟨⟨-, hshifts⟩, -⟩, -⟩, -⟩ := h
  exact hshifts w (mem_allWindows w)

theorem State.dayShifts_get (s : State) (w : Window) :
    s.dayShifts[w] = if s.shifts[w].state = .signedOff then .empty else s.shifts[w] := vecGet_map ..

/-- R146: the SIGNED_OFF shifts are emptied, and so all are IDLE. -/
theorem State.preserves_closeDay (hc : s.dayCanClose = true) :
    s.Preserves { s.emptyShifts.emptySpoils.removeCleared.markDay with dayOpen := false } := by
  rw [State.dayClosed_eq, State.emptyShifts_shifts]
  refine ⟨fun hs w => ?_, fun _ _ w => ?_⟩
  · show s.dayShifts[w].VoidsSound
    rw [State.dayShifts_get]
    split
    · exact Shift.empty_voidsSound
    · exact hs w
  · show s.dayShifts[w].state = .idle
    rw [State.dayShifts_get]
    split
    · rfl
    · next hne => exact (State.idle_or_signedOff_of_dayCanClose hc w).resolve_right hne

/-! ## The starts (R186, R187) -/

theorem State.reset_voidsSound_daySound : State.reset.VoidsSound ∧ State.reset.DaySound := by
  refine ⟨fun w => ?_, fun _ w => ?_⟩
  · rw [State.reset_shift]
    exact Shift.empty_voidsSound
  · rw [State.reset_shift]
    rfl

/-- R128, R148: a restarted shift keeps its void list and its entries, and an IDLE one stays so. -/
theorem State.preserves_warmReset (s : State) (straps : Straps) : s.Preserves (s.warmReset straps) := by
  have hget (w : Window) : (s.warmReset straps).shifts[w] = s.shifts[w].restart := vecGet_map ..
  refine .of_shifts rfl (fun w hs => ?_) fun w _ hi => ?_
  · rw [hget]
    exact hs
  · rw [hget, Shift.restart, hi]
    rfl

theorem State.preserves_startAs (s : State) (kind : StartKind) (straps : Straps) :
    s.Preserves (s.startAs kind straps) := by
  cases kind with
  | cold =>
    have hcold : State.reset.Preserves (s.coldStart straps) := .of_ledger rfl
    obtain ⟨hvoids, hday⟩ := State.reset_voidsSound_daySound
    exact ⟨fun _ => hcold.voids hvoids, fun _ => hcold.day hday⟩
  | warm => exact (s.preserves_warmReset straps).ledger rfl

/-! ## VOID, REFUND and PRINTED (R74, R76, R119, R122, R123) -/

/-- R121, R122: the entry that holds the serial has its ticket voided. -/
theorem State.preserves_voided (s : State) {w : Window} {stock : StockType} {serial number : Nat} {e : Entry}
    (hnumber : s.entryHolding w stock serial = some number) (he : s.shifts[w].entries[number]? = some e)
    (hnew : ∀ v ∈ s.shifts[w].voids, ¬(v.pack = e.pack ∧ v.serial = serial)) (hroom : s.shifts[w].voids.length < 32) :
    s.Preserves (s.modShift w fun _ => s.voided s.shifts[w] e serial) := by
  have hcovers : e.covers serial = true := by
    obtain ⟨hlt, hholds, -⟩ := List.findIdx?_eq_some_iff_getElem.1 hnumber
    obtain ⟨-, rfl⟩ := List.getElem?_eq_some_iff.1 he
    exact (Bool.and_eq_true_iff.1 hholds).1
  exact State.preserves_modShift (fun hs => (hs.add (List.mem_of_getElem? he) hcovers hnew hroom s.clock).post ..)
    fun _ hi => (Shift.post_state ..).trans hi

theorem State.preserves_refunded (s : State) (w : Window) (k : Tender) (amount : Nat) (i : EntryIndex) :
    s.Preserves (s.modShift w fun _ => s.refunded s.shifts[w] k amount i) :=
  State.preserves_modShift (fun hs => hs.of_ledger (Shift.post_ledger ..)) fun _ hi => (Shift.post_state ..).trans hi

/-- A shift with a recorded ticket's charge posted. -/
theorem State.postedShift_voidsSound {j : Job} (hs : s.shifts[j.ref.window].VoidsSound) (f : Ticket)
    (read : Option Nat) (same passes : Bool) : (s.postedShift j f read same passes).VoidsSound :=
  (hs.recorded j f read same passes).post ..

theorem State.postedShift_state (s : State) (j : Job) (f : Ticket) (read : Option Nat) (same passes : Bool) :
    (s.postedShift j f read same passes).state = s.shifts[j.ref.window].state := Shift.post_state ..

theorem State.preserves_settleJobTicket (s : State) (p : PrinterId) (j : Job) (f : Ticket) (read : Option Nat)
    {passes : Bool} (hp : (read == some f.serial) = true → passes = false) :
    s.Preserves (s.settleJobTicket p f j read passes) := by
  rw [State.settleJobTicket_eq s p rfl hp]
  have hposted : s.Preserves (s.modShift j.ref.window fun h =>
      { s.postedShift j f read (read == some f.serial) passes with tickets := min (h.tickets + 1) 65535 }) :=
    State.preserves_modShift (fun hs => State.postedShift_voidsSound hs ..) fun _ hi =>
      (State.postedShift_state ..).trans hi
  exact hposted.ledger ((State.ledger_send ..).trans rfl)

theorem State.preserves_printedJob (s : State) (p : PrinterId) (f : Ticket) (ref : JobRef) (read : Option Nat) :
    s.Preserves (s.printedJob p f ref read) := by
  have hslots : s.Preserves ((s.modPrinter p fun pr =>
      ((if read != some f.serial then pr.passReservation f else pr).finishPrinting).pulse).issueBlank f.pack) :=
    .of_ledger rfl
  have hold (a : State) : (a.holdIf p (read != some f.serial)).ledger = a.ledger := rfl
  unfold State.printedJob
  dsimp only
  refine State.Preserves.ledger ?_ (hold _)
  split
  · refine hslots.trans (State.preserves_settleJobTicket _ p _ f read fun hsame => ?_)
    rw [bne, hsame]
    rfl
  · exact hslots

end Sys2Proof.Machine
end

section
/-!
Every command and event keeps the void lists sound, and every shift IDLE while the day is CLOSED (O15).
-/

namespace Sys2Proof.Machine

variable {s t u : State}

/-! ## The shells of the commands -/

/-- An answer whose state, if any, keeps the laws of void lists and of the closed day. -/
def State.KeepsShiftLaws (s : State) (a : Answer) : Prop := ∀ t, a = .next t → s.Preserves t

theorem State.KeepsShiftLaws.next (h : s.Preserves t) : s.KeepsShiftLaws (.next t) := by
  rintro _ ⟨⟩
  exact h

theorem State.KeepsShiftLaws.fault (f : Fault) : s.KeepsShiftLaws (.fault f) := by rintro _ ⟨⟩

theorem State.preserves_answer {port : Port} {kind : Byte} {tag : Tag} {r : Except Code State}
    (h : Leaves r (s.sound port).Preserves) : s.Preserves ((s.sound port).answer port kind tag r) :=
  State.Preserves.trans (.of_ledger (s.ledger_modPort ..)) <| by
    cases r with
    | error code => exact .of_ledger (State.ledger_send ..)
    | ok t => exact h t rfl

theorem windowCommand_preserves {kind : Byte} {lo hi : Nat} {port : Port} {tag : Tag} {body : List Byte}
    {act : Window → State → Except Code State} (h : ∀ w a, Leaves (act w a) a.Preserves) :
    s.KeepsShiftLaws (windowCommand kind lo hi port tag body s act) := by
  refine .next ?_
  split
  · refine State.preserves_answer fun t ht => ?_
    cases port with
    | supervisor => cases ht
    | window w =>
      dsimp only at ht
      split at ht
      · exact h w _ t ht
      · cases ht
  · exact .refl s

theorem supervisorCommand_preserves {kind : Byte} {lo hi : Nat} {port : Port} {tag : Tag} {body : List Byte}
    {act : State → Except Code State} (h : ∀ a, Leaves (act a) a.Preserves) :
    s.KeepsShiftLaws (supervisorCommand kind lo hi port tag body s act) := by
  refine .next ?_
  split
  · refine State.preserves_answer fun t ht => ?_
    cases port with
    | window w => cases ht
    | supervisor =>
      dsimp only at ht
      split at ht
      · exact h _ t ht
      · cases ht
  · exact .refl s

/-- A printer's frame that is not expected raises PROTOCOL alone. -/
theorem printerFrame_preserves {p : PrinterId} {n : Nat} {body : List Byte} {act : State → Option State}
    (h : ∀ b, act s = some b → s.Preserves b) : s.KeepsShiftLaws (printerFrame p n body s act) := by
  refine .next ?_
  have hprotocol : s.Preserves (s.protocol p) := s.preserves_commit ..
  split
  · split
    · cases ha : act s with
      | none => exact hprotocol
      | some b => exact h b ha
    · exact hprotocol
  · exact .refl s

theorem event_preserves {occurs : Bool} {act : State → State} (h : s.Preserves (act s)) :
    s.KeepsShiftLaws (event s occurs act) := by
  refine .next ?_
  split
  · exact h
  · exact .refl s

/-- An event beside the ledger. -/
theorem event_preserves_beside {occurs : Bool} {act : State → State} (h : (act s).ledger = s.ledger) :
    s.KeepsShiftLaws (event s occurs act) := event_preserves (.of_ledger h)

/-- An event beside the ledger that ends its step. -/
theorem event_preserves_ended {occurs : Bool} {f : State → State} {told : State → List Occurrence}
    (h : (f s).ledger = s.ledger) : s.KeepsShiftLaws (event s occurs fun s => (f s).commit s (told s)) :=
  event_preserves (.endedBeside h)

/-- An event that does not occur. -/
theorem event_preserves_never : s.KeepsShiftLaws (event s false id) := event_preserves (.refl s)

/-- A command beside the ledger that answers by ACCEPTED. -/
theorem Leaves.acceptedBesideLedger {port : Port} {kind : Byte} {tag : Tag} {fields : List Byte}
    (h : t.ledger = s.ledger) : Leaves (Pure.pure (t.accept port kind tag fields)) s.Preserves :=
  .pure ((State.Preserves.of_ledger h).accept ..)

/-- A command beside the ledger that answers by ACCEPTED and ends its step. -/
theorem Leaves.acceptedEndedBesideLedger {port : Port} {kind : Byte} {tag : Tag} {fields : List Byte} {before : State}
    {told : List Occurrence} (h : t.ledger = s.ledger) :
    Leaves (Pure.pure ((t.accept port kind tag fields).commit before told)) s.Preserves :=
  .pure ((State.Preserves.of_ledger h).accept ..).ended

/-- A read. -/
theorem Leaves.repliedBesideLedger {port : Port} {kind : Byte} {tag : Tag} {fields : List Byte} :
    Leaves (Pure.pure (s.reply port kind tag fields)) s.Preserves := .pure (.of_ledger (s.ledger_reply ..))

/-! ## The shifts and the day (R112, R122, R123, R130, R134, R141, R143 to R146) -/

/-- R112: a shift opens only while the day is OPEN. -/
theorem execOpenShift_preserves (port : Port) (tag : Tag) (body : List Byte) :
    s.KeepsShiftLaws (execOpenShift port tag body s) :=
  windowCommand_preserves fun w a => .need fun hday => .need fun _ => by
    have hopened : a.Preserves (a.modShift w fun h =>
        { h with state := .opened, float := min (num body 0 4) Config.maxFloat, openedAt := some a.clock }) :=
      State.preserves_modShift (fun hs => hs) fun hclosed _ => absurd (hclosed.symm.trans hday) nofun
    exact .pure ((hopened.ledger (u := State.flagShift _ w) rfl).accept ..)

theorem execVoid_preserves (port : Port) (tag : Tag) (body : List Byte) : s.KeepsShiftLaws (execVoid port tag body s) :=
  windowCommand_preserves fun w a => .need fun _ => .want fun _ _ => .want fun _ hnumber => .want fun _ he =>
    .need fun _ => .need fun hnew => .need fun hroom => by
      have hvoided := a.preserves_voided hnumber he (by simpa using hnew) (of_decide_eq_true hroom)
      exact .pure (hvoided.accept ..).ended

theorem execRefund_preserves (port : Port) (tag : Tag) (body : List Byte) :
    s.KeepsShiftLaws (execRefund port tag body s) :=
  windowCommand_preserves fun w a => .need fun _ => .need fun _ => .want fun tender _ => .want fun split _ =>
    .need fun _ => .pure ((a.preserves_refunded w tender (num body 0 3) split).accept ..).ended

/-- R130: an OPEN shift drains. -/
theorem execCloseShift_preserves (port : Port) (tag : Tag) (body : List Byte) :
    s.KeepsShiftLaws (execCloseShift port tag body s) :=
  windowCommand_preserves fun w a => .need fun hopen => by
    have hactive : a.shifts[w].state ≠ .idle := by rw [beq_iff_eq.1 hopen]; nofun
    have hmove : a.Preserves (a.modShift w fun h => { h with state :=
      .draining }) := State.preserves_moveShift hactive rfl
    exact .pure ((hmove.accept ..).ledger (u := State.endJobs _ _ _) rfl).ended

theorem execDeclare_preserves (port : Port) (tag : Tag) (body : List Byte) :
    s.KeepsShiftLaws (execDeclare port tag body s) :=
  windowCommand_preserves fun w a => .need fun hcounting => by
    have hactive : a.shifts[w].state ≠ .idle := by rw [beq_iff_eq.1 hcounting]; nofun
    exact .pure (State.Preserves.ledger (State.preserves_moveShift hactive rfl) (State.ledger_send ..)).ended

theorem execReopenCount_preserves (port : Port) (tag : Tag) (body : List Byte) :
    s.KeepsShiftLaws (execReopenCount port tag body s) :=
  supervisorCommand_preserves fun a => .want fun w _ => .need fun hdeclared => by
    have hactive : a.shifts[w].state ≠ .idle := by rw [beq_iff_eq.1 (Bool.and_eq_true_iff.1 hdeclared).1]; nofun
    have hmove : a.Preserves (a.modShift w fun h => { h with state := .counting, recount := h.recount + 1 }) :=
      State.preserves_moveShift hactive rfl
    exact .pure (((hmove.ledger (u := State.flagShift _ w) rfl).accept ..).ledger (State.ledger_send ..))

theorem execSignOff_preserves (port : Port) (tag : Tag) (body : List Byte) :
    s.KeepsShiftLaws (execSignOff port tag body s) :=
  supervisorCommand_preserves fun a => .want fun w _ => .need fun hdeclared => .need fun _ => by
    have hactive : a.shifts[w].state ≠ .idle := by rw [beq_iff_eq.1 hdeclared]; nofun
    have hmove : a.Preserves (a.modShift w fun h => { h with state := .signedOff, signedOffAt := some a.clock }) :=
      State.preserves_moveShift hactive rfl
    exact .pure (((hmove.ledger (u := State.flagShift _ w) rfl).accept ..).ledger (State.ledger_send ..))

theorem execResolveDispute_preserves (port : Port) (tag : Tag) (body : List Byte) :
    s.KeepsShiftLaws (execResolveDispute port tag body s) :=
  supervisorCommand_preserves fun a => .want fun w _ => .need fun _ => .need fun _ => .want fun _ _ => .need fun _ =>
    .bind fun pack _ => by
      have hresolved := a.ledger_modShift (w := w) fun h => h.resolveEntry_ledger (num body 1 1) (num body 2 1 == 1)
      have hmarkers (b : State) (id : Nat) : (b.clearMarkers id).ledger = b.ledger := rfl
      refine .acceptedEndedBesideLedger ((hmarkers ..).trans ?_)
      cases pack with
      | none => exact hresolved
      | some k => exact (State.ledger_writeOff ..).trans hresolved

/-! ## Printer frames -/

theorem execPrinted_preserves (p : PrinterId) (tag : Tag) (body : List Byte) :
    s.KeepsShiftLaws (execPrinted p tag body s) :=
  printerFrame_preserves fun b h => by
    dsimp only at h
    split at h
    · split at h
      · split at h
        · cases h
          exact (s.preserves_printedJob ..).ended
        · cases h
          exact .endedBeside (s.ledger_printedTest ..)
      · cases h
    · cases h

end Sys2Proof.Machine
end

section
/-!
The commands and events beside the ledger, the starts, and every step: void lists stay sound, and every shift stays IDLE
while the day is CLOSED (O15).
-/

namespace Sys2Proof.Machine

variable {s : State}

/-! ## Commands of the windows and the supervisor -/

theorem execIssue_preserves (port : Port) (tag : Tag) (body : List Byte) :
    s.KeepsShiftLaws (execIssue port tag body s) :=
  windowCommand_preserves fun _ a => .bind fun j _ => .acceptedBesideLedger (t := { a with jobs := a.jobs ++ [j] }) rfl

theorem execCancel_preserves (port : Port) (tag : Tag) (body : List Byte) :
    s.KeepsShiftLaws (execCancel port tag body s) :=
  windowCommand_preserves fun _ _ => .need fun _ => .pure (.endedBeside (State.ledger_accept ..))

theorem execQueryShift_preserves (port : Port) (tag : Tag) (body : List Byte) :
    s.KeepsShiftLaws (execQueryShift port tag body s) := windowCommand_preserves fun _ _ => .repliedBesideLedger

theorem execReceivePack_preserves (port : Port) (tag : Tag) (body : List Byte) :
    s.KeepsShiftLaws (execReceivePack port tag body s) :=
  supervisorCommand_preserves fun _ => .need fun _ => .want fun _ _ => .need fun _ => .need fun _ => .need fun _ =>
    .acceptedBesideLedger rfl

theorem execLoadPack_preserves (port : Port) (tag : Tag) (body : List Byte) :
    s.KeepsShiftLaws (execLoadPack port tag body s) :=
  supervisorCommand_preserves fun _ => .want fun _ _ => .want fun _ _ => .need fun _ => .need fun _ => .need fun _ =>
    .need fun _ => .acceptedEndedBesideLedger rfl

theorem execUnloadPack_preserves (port : Port) (tag : Tag) (body : List Byte) :
    s.KeepsShiftLaws (execUnloadPack port tag body s) :=
  supervisorCommand_preserves fun _ => .want fun _ _ => .need fun _ => .need fun _ => .acceptedEndedBesideLedger rfl

theorem execForceUnload_preserves (port : Port) (tag : Tag) (body : List Byte) :
    s.KeepsShiftLaws (execForceUnload port tag body s) :=
  supervisorCommand_preserves fun _ => .want fun _ _ => .need fun _ => .need fun _ => .pure (.endedBeside
    ((State.ledger_compromise ..).trans ((State.ledger_spoilOut ..).trans (State.ledger_accept ..))))

theorem execWriteOffPack_preserves (port : Port) (tag : Tag) (body : List Byte) :
    s.KeepsShiftLaws (execWriteOffPack port tag body s) :=
  supervisorCommand_preserves fun _ => .want fun _ _ => .need fun _ => .need fun _ => .acceptedEndedBesideLedger
    (State.ledger_writeOff ..)

theorem execRetirePack_preserves (port : Port) (tag : Tag) (body : List Byte) :
    s.KeepsShiftLaws (execRetirePack port tag body s) :=
  supervisorCommand_preserves fun _ => .want fun _ _ => .need fun _ => .acceptedBesideLedger rfl

theorem execReadPack_preserves (port : Port) (tag : Tag) (body : List Byte) :
    s.KeepsShiftLaws (execReadPack port tag body s) :=
  supervisorCommand_preserves fun _ => .bind fun _ _ => .repliedBesideLedger

theorem execTestPrint_preserves (port : Port) (tag : Tag) (body : List Byte) :
    s.KeepsShiftLaws (execTestPrint port tag body s) :=
  supervisorCommand_preserves fun _ => .want fun _ _ => .want fun _ _ => .need fun _ => .need fun _ => .need fun _ =>
    .acceptedBesideLedger rfl

theorem execSetService_preserves (port : Port) (tag : Tag) (body : List Byte) :
    s.KeepsShiftLaws (execSetService port tag body s) :=
  supervisorCommand_preserves fun _ => .want fun _ _ => .need fun _ => .need fun _ => .acceptedEndedBesideLedger rfl

theorem execResetLine_preserves (port : Port) (tag : Tag) (body : List Byte) :
    s.KeepsShiftLaws (execResetLine port tag body s) :=
  supervisorCommand_preserves fun _ => .want fun _ _ => .pure (.endedBeside ((State.ledger_forceDown ..).trans
    (State.ledger_accept ..)))

theorem execReadSpoils_preserves (port : Port) (tag : Tag) (body : List Byte) :
    s.KeepsShiftLaws (execReadSpoils port tag body s) :=
  supervisorCommand_preserves fun _ => .need fun _ => .repliedBesideLedger

theorem execReadEntries_preserves (port : Port) (tag : Tag) (body : List Byte) :
    s.KeepsShiftLaws (execReadEntries port tag body s) :=
  supervisorCommand_preserves fun _ => .need fun _ => .want fun _ _ => .need fun _ => .need fun _ =>
    .repliedBesideLedger

theorem execReadShift_preserves (port : Port) (tag : Tag) (body : List Byte) :
    s.KeepsShiftLaws (execReadShift port tag body s) :=
  supervisorCommand_preserves fun _ => .want fun _ _ => .repliedBesideLedger

theorem execOpenDay_preserves (port : Port) (tag : Tag) (body : List Byte) :
    s.KeepsShiftLaws (execOpenDay port tag body s) :=
  supervisorCommand_preserves fun a => .need fun _ => .pure (a.preserves_openDay.accept ..)

theorem execCloseDay_preserves (port : Port) (tag : Tag) (body : List Byte) :
    s.KeepsShiftLaws (execCloseDay port tag body s) :=
  supervisorCommand_preserves fun _ => .need fun hc => .pure ((State.preserves_closeDay hc).accept ..).ended

theorem execNextFault_preserves (port : Port) (tag : Tag) (body : List Byte) :
    s.KeepsShiftLaws (execNextFault port tag body s) := supervisorCommand_preserves fun _ => .repliedBesideLedger

theorem execReadFault_preserves (port : Port) (tag : Tag) (body : List Byte) :
    s.KeepsShiftLaws (execReadFault port tag body s) :=
  supervisorCommand_preserves fun _ => .want fun _ _ => .repliedBesideLedger

theorem execAckFault_preserves (port : Port) (tag : Tag) (body : List Byte) :
    s.KeepsShiftLaws (execAckFault port tag body s) :=
  supervisorCommand_preserves fun _ => .want fun _ _ => .pure (.of_ledger (State.ledger_accept ..))

theorem execReadChanges_preserves (port : Port) (tag : Tag) (body : List Byte) :
    s.KeepsShiftLaws (execReadChanges port tag body s) :=
  supervisorCommand_preserves fun _ => .pure (.of_ledger (State.ledger_reply ..))

theorem execSilenceAlarm_preserves (port : Port) (tag : Tag) (body : List Byte) :
    s.KeepsShiftLaws (execSilenceAlarm port tag body s) :=
  supervisorCommand_preserves fun _ => .pure (.of_ledger (State.ledger_accept ..))

theorem execSelectEntry_preserves (port : Port) (tag : Tag) (body : List Byte) :
    s.KeepsShiftLaws (execSelectEntry port tag body s) :=
  supervisorCommand_preserves fun _ => .want fun _ _ => .acceptedBesideLedger rfl

theorem execReadEntry_preserves (port : Port) (tag : Tag) (body : List Byte) :
    s.KeepsShiftLaws (execReadEntry port tag body s) := supervisorCommand_preserves fun _ => .repliedBesideLedger

theorem execWriteEntry_preserves (port : Port) (tag : Tag) (body : List Byte) :
    s.KeepsShiftLaws (execWriteEntry port tag body s) :=
  supervisorCommand_preserves fun a => .bind fun t ht => .acceptedEndedBesideLedger (a.ledger_writeEntry body t ht)

theorem execSetClock_preserves (port : Port) (tag : Tag) (body : List Byte) :
    s.KeepsShiftLaws (execSetClock port tag body s) :=
  supervisorCommand_preserves fun _ => .need fun _ => .acceptedBesideLedger rfl

theorem execReadOffice_preserves (port : Port) (tag : Tag) (body : List Byte) :
    s.KeepsShiftLaws (execReadOffice port tag body s) := supervisorCommand_preserves fun _ => .repliedBesideLedger

/-! ## Terminal ports -/

theorem execUnknownKind_preserves (port : Port) (kind : Byte) (tag : Tag) :
    s.KeepsShiftLaws (execUnknownKind port kind tag s) := by
  unfold execUnknownKind
  split
  · exact .fault _
  · refine .next ?_
    split
    · exact .of_ledger ((State.ledger_send ..).trans (s.ledger_modPort ..))
    · exact .refl s

theorem State.preserves_framingFault (s : State) (port : Port) (frames : List Frame) :
    s.Preserves (s.framingFault port frames) :=
  .endedBeside ((State.ledger_send ..).trans (s.ledger_modPort ..))

theorem execFrameError_preserves (port : Port) (cause : FramingFault) :
    s.KeepsShiftLaws (execFrameError port cause s) := by
  unfold execFrameError
  split
  · exact .fault _
  · refine .next ?_
    split
    · cases cause with
      | badStart b =>
        dsimp only
        split
        · exact s.preserves_framingFault ..
        · exact .refl s
      | badLength l => exact s.preserves_framingFault ..
      | badCheck kind tag body check => exact s.preserves_framingFault ..
    · exact .refl s

theorem execFrameGap_preserves (port : Port) : s.KeepsShiftLaws (execFrameGap port s) :=
  event_preserves (s.preserves_framingFault ..)

theorem execLineBreak_preserves (port : Port) : s.KeepsShiftLaws (execLineBreak port s) :=
  event_preserves <| by
    cases port with
    | supervisor => exact .of_ledger (s.ledger_modPort ..)
    | window w => exact .endedBeside rfl

theorem execAttach_preserves (port : Port) : s.KeepsShiftLaws (execAttach port s) :=
  event_preserves_beside <| by
    cases port with
    | supervisor => exact (State.ledger_send ..).trans (s.ledger_modPort ..)
    | window w => rfl

theorem execFrameSent_preserves (port : Port) : s.KeepsShiftLaws (execFrameSent port s) :=
  event_preserves_beside (s.ledger_modPort ..)

/-! ## Printer frames -/

theorem execCapability_preserves (p : PrinterId) (tag : Tag) (body : List Byte) :
    s.KeepsShiftLaws (execCapability p tag body s) :=
  printerFrame_preserves fun _ h => by
    cases h
    refine .endedBeside ?_
    split <;> rfl

theorem execStatus_preserves (p : PrinterId) (tag : Tag) (body : List Byte) :
    s.KeepsShiftLaws (execStatus p tag body s) :=
  printerFrame_preserves fun _ h => by
    cases h
    exact .endedBeside rfl

theorem execJammed_preserves (p : PrinterId) (tag : Tag) (body : List Byte) :
    s.KeepsShiftLaws (execJammed p tag body s) :=
  printerFrame_preserves fun _ h => by
    split at h
    · split at h
      · cases h
        exact .endedBeside (s.ledger_jam ..)
      · cases h
    · cases h

theorem execWithdrawn_preserves (p : PrinterId) (tag : Tag) (body : List Byte) :
    s.KeepsShiftLaws (execWithdrawn p tag body s) :=
  printerFrame_preserves fun _ h => by
    split at h
    · split at h
      · split at h
        · cases h
          exact .endedBeside (s.ledger_withdrawStaged ..)
        · cases h
      · cases h
        exact .endedBeside rfl
    · cases h

theorem execTooLate_preserves (p : PrinterId) (tag : Tag) (body : List Byte) :
    s.KeepsShiftLaws (execTooLate p tag body s) :=
  printerFrame_preserves fun _ h => by
    dsimp only at h
    split at h
    · split at h
      · split at h
        · cases h
          exact .endedBeside rfl
        · cases h
      · cases h
        exact .endedBeside rfl
    · cases h

/-! ## TOP -/

theorem State.preserves_topLoad (s : State) (p : PrinterId) (c : LoadCheck) (k : Pack) (n : Nat) :
    s.Preserves (s.topLoad p c k n) := by
  unfold State.topLoad
  split
  · exact .endedBeside (State.ledger_endLoadCheck ..)
  · exact .endedBeside (s.ledger_endLoadCheck ..)

theorem State.preserves_topUnload (s : State) (p : PrinterId) (c : UnloadCheck) (k : Pack) (n : Nat) :
    s.Preserves (s.topUnload p c k n) := by
  unfold State.topUnload
  split
  · exact .endedBeside (State.ledger_endUnloadCheck ..)
  · split
    · exact .endedBeside ((State.ledger_endUnloadCheck ..).trans (s.ledger_writeRun ..))
    · exact .endedBeside (State.ledger_endUnloadCheck ..)

theorem State.preserves_topRecover (s : State) (p : PrinterId) (g : Range) (n : Nat) :
    s.Preserves (s.topRecover p g n) := by
  unfold State.topRecover
  split
  · exact .endedBeside (s.ledger_settleRange ..)
  · exact .endedBeside rfl

theorem State.preserves_takeTop {p : PrinterId} {n : Nat} {b : State} (h : s.takeTop p n = some b) : s.Preserves b := by
  unfold State.takeTop at h
  dsimp only at h
  split at h
  · obtain ⟨k, -, rfl⟩ := Option.map_eq_some_iff.1 h
    exact s.preserves_topLoad ..
  · split at h
    · obtain ⟨k, -, rfl⟩ := Option.map_eq_some_iff.1 h
      exact s.preserves_topUnload ..
    · split at h
      · obtain ⟨g, -, hg⟩ := Option.bind_eq_some_iff.1 h
        obtain ⟨k, -, rfl⟩ := Option.map_eq_some_iff.1 hg
        exact s.preserves_topRecover ..
      · cases h

theorem execTop_preserves (p : PrinterId) (tag : Tag) (body : List Byte) : s.KeepsShiftLaws (execTop p tag body s) :=
  printerFrame_preserves fun _ h => State.preserves_takeTop h

/-! ## Printer lines and timers -/

theorem execPrinterFrameError_preserves (p : PrinterId) (cause : FramingFault) :
    s.KeepsShiftLaws (execPrinterFrameError p cause s) := by
  unfold execPrinterFrameError
  split
  · exact .fault _
  · exact event_preserves_ended rfl

theorem execPrinterFrameGap_preserves (p : PrinterId) :
    s.KeepsShiftLaws (execPrinterFrameGap p s) := event_preserves_ended rfl

theorem execPrinterUnknownKind_preserves (p : PrinterId) (kind : Byte) :
    s.KeepsShiftLaws (execPrinterUnknownKind p kind s) := by
  unfold execPrinterUnknownKind
  split
  · exact .fault _
  · exact event_preserves_ended rfl

theorem execIdleMark_preserves (p : PrinterId) : s.KeepsShiftLaws (execIdleMark p s) := event_preserves_ended rfl

theorem execLinkGap_preserves (p : PrinterId) (cause : GapCause) : s.KeepsShiftLaws (execLinkGap p cause s) := by
  unfold execLinkGap
  split
  · exact event_preserves_ended rfl
  · exact event_preserves_beside rfl
  · exact event_preserves_never
  · exact event_preserves_never

theorem execSettleTimer_preserves (p : PrinterId) : s.KeepsShiftLaws (execSettleTimer p s) := event_preserves_ended rfl

theorem execSilenceTimer_preserves (p : PrinterId) : s.KeepsShiftLaws (execSilenceTimer p s) :=
  event_preserves_ended (s.ledger_linkLoss ..)

theorem execJabber_preserves (p : PrinterId) :
    s.KeepsShiftLaws (execJabber p s) := event_preserves_ended (s.ledger_linkLoss ..)

theorem execJabberQuiet_preserves (p : PrinterId) : s.KeepsShiftLaws (execJabberQuiet p s) := event_preserves_ended rfl

theorem execCapabilityWait_preserves (p : PrinterId) :
    s.KeepsShiftLaws (execCapabilityWait p s) := event_preserves_ended rfl

theorem execPrintTimer_preserves (p : PrinterId) : s.KeepsShiftLaws (execPrintTimer p s) := by
  unfold execPrintTimer
  split
  · exact event_preserves_ended (s.ledger_loseTickets p)
  · exact event_preserves_never

theorem execPauseTimer_preserves (p : PrinterId) : s.KeepsShiftLaws (execPauseTimer p s) := by
  unfold execPauseTimer
  split
  · exact event_preserves_ended rfl
  · exact event_preserves_never

theorem execWithdrawalTimer_preserves (p : PrinterId) :
    s.KeepsShiftLaws (execWithdrawalTimer p s) := event_preserves_ended rfl

theorem execQueryTimer_preserves (p : PrinterId) : s.KeepsShiftLaws (execQueryTimer p s) := by
  unfold execQueryTimer
  split
  · exact event_preserves_beside rfl
  · exact event_preserves_ended rfl
  · exact event_preserves_never

theorem execLoadAnswerTimer_preserves (p : PrinterId) : s.KeepsShiftLaws (execLoadAnswerTimer p s) := by
  unfold execLoadAnswerTimer
  split
  · refine event_preserves ?_
    split
    · exact .of_ledger rfl
    · exact .endedBeside (s.ledger_endLoadCheck ..)
  · exact event_preserves_never

theorem execUnloadAnswerTimer_preserves (p : PrinterId) : s.KeepsShiftLaws (execUnloadAnswerTimer p s) := by
  unfold execUnloadAnswerTimer
  split
  · refine event_preserves ?_
    split
    · exact .of_ledger rfl
    · exact .endedBeside (s.ledger_endUnloadCheck ..)
  · exact event_preserves_never

/-! ## The queue and the pool -/

theorem execGrant_preserves (p : PrinterId) : s.KeepsShiftLaws (execGrant p s) :=
  event_preserves <| by
    split
    · exact .endedBeside (State.ledger_grantOne ..)
    · exact .refl s

theorem execJobWait_preserves (w : Window) (tag : Tag) : s.KeepsShiftLaws (execJobWait w tag s) := by
  unfold execJobWait
  dsimp only
  split
  · exact event_preserves_ended (State.ledger_send ..)
  · exact event_preserves_never

theorem execRouteWait_preserves (w : Window) (tag : Tag) : s.KeepsShiftLaws (execRouteWait w tag s) := by
  unfold execRouteWait
  dsimp only
  split
  · exact event_preserves_beside rfl
  · exact event_preserves_never

/-! ## The box -/

theorem execClockPulse_preserves : s.KeepsShiftLaws (execClockPulse s) := .next (.of_ledger rfl)

theorem execAlarmIn_preserves (active : Bool) : s.KeepsShiftLaws (execAlarmIn active s) := event_preserves_ended rfl

theorem execActivityPulse_preserves (p : PrinterId) :
    s.KeepsShiftLaws (execActivityPulse p s) := event_preserves_beside rfl

theorem execFlash_preserves (p : PrinterId) : s.KeepsShiftLaws (execFlash p s) := event_preserves_beside rfl

theorem execResetAsserted_preserves : s.KeepsShiftLaws (execResetAsserted s) :=
  .next <| by
    dsimp only
    split <;> exact .of_ledger rfl

theorem execResetReleased_preserves (straps : Straps) : s.KeepsShiftLaws (execResetReleased straps s) := by
  have hpin : s.Preserves { s with resetPin := false } := .of_ledger rfl
  refine .next ?_
  dsimp only
  split
  · exact hpin.trans (State.preserves_startAs ..)
  · exact hpin
  · exact hpin

theorem execPowerUp_preserves (backupGood : Bool) (straps : Straps) :
    s.KeepsShiftLaws (execPowerUp backupGood straps s) :=
  .next <| by
    split
    · split
      · exact .of_ledger rfl
      · exact s.preserves_startAs ..
    · exact .refl s

theorem execPowerFail_preserves : s.KeepsShiftLaws (execPowerFail s) :=
  .next <| by
    split
    · exact .refl s
    · exact .of_ledger rfl

/-! ## Every command, every step -/

theorem exec_preserves (i : Instr) : s.KeepsShiftLaws (exec i s) := by
  cases i with
  | openShift port tag body => exact execOpenShift_preserves port tag body
  | issue port tag body => exact execIssue_preserves port tag body
  | cancel port tag body => exact execCancel_preserves port tag body
  | void port tag body => exact execVoid_preserves port tag body
  | refund port tag body => exact execRefund_preserves port tag body
  | closeShift port tag body => exact execCloseShift_preserves port tag body
  | declare port tag body => exact execDeclare_preserves port tag body
  | queryShift port tag body => exact execQueryShift_preserves port tag body
  | receivePack port tag body => exact execReceivePack_preserves port tag body
  | loadPack port tag body => exact execLoadPack_preserves port tag body
  | unloadPack port tag body => exact execUnloadPack_preserves port tag body
  | forceUnload port tag body => exact execForceUnload_preserves port tag body
  | writeOffPack port tag body => exact execWriteOffPack_preserves port tag body
  | retirePack port tag body => exact execRetirePack_preserves port tag body
  | readPack port tag body => exact execReadPack_preserves port tag body
  | testPrint port tag body => exact execTestPrint_preserves port tag body
  | setService port tag body => exact execSetService_preserves port tag body
  | resetLine port tag body => exact execResetLine_preserves port tag body
  | resolveDispute port tag body => exact execResolveDispute_preserves port tag body
  | readSpoils port tag body => exact execReadSpoils_preserves port tag body
  | readEntries port tag body => exact execReadEntries_preserves port tag body
  | readShift port tag body => exact execReadShift_preserves port tag body
  | reopenCount port tag body => exact execReopenCount_preserves port tag body
  | signOff port tag body => exact execSignOff_preserves port tag body
  | openDay port tag body => exact execOpenDay_preserves port tag body
  | closeDay port tag body => exact execCloseDay_preserves port tag body
  | nextFault port tag body => exact execNextFault_preserves port tag body
  | readFault port tag body => exact execReadFault_preserves port tag body
  | ackFault port tag body => exact execAckFault_preserves port tag body
  | readChanges port tag body => exact execReadChanges_preserves port tag body
  | silenceAlarm port tag body => exact execSilenceAlarm_preserves port tag body
  | selectEntry port tag body => exact execSelectEntry_preserves port tag body
  | readEntry port tag body => exact execReadEntry_preserves port tag body
  | writeEntry port tag body => exact execWriteEntry_preserves port tag body
  | setClock port tag body => exact execSetClock_preserves port tag body
  | readOffice port tag body => exact execReadOffice_preserves port tag body
  | unknownKind port kind tag => exact execUnknownKind_preserves port kind tag
  | frameError port cause => exact execFrameError_preserves port cause
  | frameGap port => exact execFrameGap_preserves port
  | lineBreak port => exact execLineBreak_preserves port
  | attach port => exact execAttach_preserves port
  | capability printer tag body => exact execCapability_preserves printer tag body
  | status printer tag body => exact execStatus_preserves printer tag body
  | printed printer tag body => exact execPrinted_preserves printer tag body
  | jammed printer tag body => exact execJammed_preserves printer tag body
  | withdrawn printer tag body => exact execWithdrawn_preserves printer tag body
  | tooLate printer tag body => exact execTooLate_preserves printer tag body
  | top printer tag body => exact execTop_preserves printer tag body
  | printerFrameError printer cause => exact execPrinterFrameError_preserves printer cause
  | printerFrameGap printer => exact execPrinterFrameGap_preserves printer
  | idleMark printer => exact execIdleMark_preserves printer
  | linkGap printer cause => exact execLinkGap_preserves printer cause
  | settleTimer printer => exact execSettleTimer_preserves printer
  | silenceTimer printer => exact execSilenceTimer_preserves printer
  | jabber printer => exact execJabber_preserves printer
  | jabberQuiet printer => exact execJabberQuiet_preserves printer
  | capabilityWait printer => exact execCapabilityWait_preserves printer
  | printTimer printer => exact execPrintTimer_preserves printer
  | pauseTimer printer => exact execPauseTimer_preserves printer
  | withdrawalTimer printer => exact execWithdrawalTimer_preserves printer
  | queryTimer printer => exact execQueryTimer_preserves printer
  | loadAnswerTimer printer => exact execLoadAnswerTimer_preserves printer
  | unloadAnswerTimer printer => exact execUnloadAnswerTimer_preserves printer
  | grant printer => exact execGrant_preserves printer
  | jobWait window tag => exact execJobWait_preserves window tag
  | routeWait window tag => exact execRouteWait_preserves window tag
  | clockPulse => exact execClockPulse_preserves
  | alarmIn active => exact execAlarmIn_preserves active
  | activityPulse printer => exact execActivityPulse_preserves printer
  | flash printer => exact execFlash_preserves printer
  | resetAsserted => exact execResetAsserted_preserves
  | resetReleased straps => exact execResetReleased_preserves straps
  | powerUp backupGood straps => exact execPowerUp_preserves backupGood straps
  | powerFail => exact execPowerFail_preserves
  | printerUnknownKind printer kind => exact execPrinterUnknownKind_preserves printer kind
  | frameSent port => exact execFrameSent_preserves port

/-- The queue of waiting commands is not in the ledger. -/
theorem step_preserves {t : State} (h : step s = .next t) : s.Preserves t := by
  unfold step at h
  split at h
  · cases h
    exact .refl s
  · next c rest _ =>
    have hqueue : s.Preserves { s with pending := rest } := .of_ledger rfl
    exact hqueue.trans (exec_preserves c t h)

/-- Settles O15: VOID adds a void that its checks admit, a printed ticket only lengthens or adds an entry, CLOSE DAY
empties the shifts that are not IDLE, and no shift leaves IDLE but by OPEN SHIFT while the day is OPEN. -/
theorem stepKeepsVoidListsAndClosedDay : Obligations.StepKeepsVoidListsAndClosedDay :=
  ⟨fun _ _ hs h => (step_preserves h).voids hs, fun _ _ hs h => (step_preserves h).day hs⟩

end Sys2Proof.Machine
end

section
/-! The cash-up: DECLARE, REOPEN COUNT and SIGN OFF (R133 to R143): what each leaves, where its checks hold. -/

namespace Sys2Proof.Machine

variable {s : State} {w : Window}

/-! ## The declaration (R134 to R139) -/

/-- R134: the amounts of a DECLARE are read back from its body, each held at its greatest value. -/
theorem declaredAmounts_be {cash card warrant : Nat} (hcash : cash < 2 ^ 32) (hcard : card < 2 ^ 32)
    (hwarrant : warrant < 2 ^ 32) : declaredAmounts (be 4 cash ++ be 4 card ++ be 4 warrant)
      = { cash := min cash 2147483647, card := min card 2147483647, warrant := min warrant 2147483647 } := by
  have hfirst : num (be 4 cash ++ be 4 card ++ be 4 warrant) 0 4 = cash := by
    rw [List.append_assoc]
    exact num_be_head hcash
  unfold declaredAmounts
  rw [hfirst, num_be_mid (be_length 4 cash) hcard, num_be_last (by simp) hwarrant]
  rfl

/-- R137: LIMITED goes before the classes of the tenders. -/
theorem Shift.overall_limited_iff (h : Shift) (classes : Tenders TenderClass) :
    h.overall classes = .limited ↔ h.limited = true := by
  unfold Shift.overall
  cases h.limited with
  | true => simp
  | false =>
    rw [if_neg Bool.false_ne_true]
    split <;> simp

/-- R137: a shift within its limits is BALANCED where every tender is. -/
theorem Shift.overall_balanced_iff (h : Shift) (classes : Tenders TenderClass) :
    h.overall classes = .balanced ↔ h.limited = false
      ∧ classes = { cash := .balanced, card := .balanced, warrant := .balanced } := by
  obtain ⟨cash, card, warrant⟩ := classes
  unfold Shift.overall
  cases h.limited with
  | true => simp
  | false => simp

/-- R139: the shift of a window with its declaration made. -/
def State.shiftDeclared (s : State) (w : Window) (d : Declaration) : State :=
  s.setShift w { s.shifts[w] with state := .declared, declaration := some d }

/-- R140: what a declaration raises. -/
def Declaration.raises (d : Declaration) (w : Window) : List Occurrence :=
  if d.result = .out then [{ source := .window w, kind := .shiftVariance, recount := some d.recount }] else []

theorem Declaration.raises_variance {d : Declaration} (h : d.result = .out) :
    { source := .window w, kind := .shiftVariance, recount := some d.recount } ∈ d.raises w := by
  rw [Declaration.raises, if_pos h]
  exact List.mem_singleton_self _

theorem execDeclare_ok {tag : Tag} {body : List Byte} (h : s.Hears (.window w)) (hfits : fits 12 12 body = true)
    (hcounting : s.shifts[w].state = .counting) :
    let d := s.declarationOf w (declaredAmounts body)
    execDeclare (.window w) tag body s = .next (((s.shiftDeclared w d).answered (.window w)
      (cashUpResult tag d)).commit (s.sound (.window w)) (d.raises w)) := by
  intro d
  refine windowCommand_ok h hfits ((need_bind (beq_iff_eq.2 hcounting)).trans ?_)
  exact congrArg (fun v : State => Except.ok (v.commit (s.sound (.window w)) (d.raises w)))
    (State.sound_send (port := .window w) (s := s.shiftDeclared w d) h.listens _)

/-- Settles O30, by the command's one check and the declaration it makes of the amounts read back from its body. -/
theorem declare : Obligations.Declare := by
  intro s w tag cash card warrant hears hcounting hcash hcard hwarrant h amount variance classed
  have hrun := execDeclare_ok (tag := tag) (body := be 4 cash ++ be 4 card ++ be 4 warrant) hears
    (by simp [fits]) hcounting
  rw [declaredAmounts_be hcash hcard hwarrant] at hrun
  obtain ⟨t, hnext, hsettled, htold⟩ := settled_of_commit hrun rfl
  -- `State.declarationOf` writes each amount, variance and class as R134 to R138 do; only the result needs an argument.
  exact ⟨t, _, hnext, rfl, rfl, rfl, rfl, rfl, rfl, rfl, rfl, rfl, h.overall_limited_iff _,
    h.overall_balanced_iff _, rfl, rfl, rfl, hsettled, fun hout => htold _ (Declaration.raises_variance hout)⟩

/-! ## REOPEN COUNT and SIGN OFF (R141, R143) -/

/-- R111: a state with the record of one shift replaced, and the shift flagged. -/
def State.setFlaggedShift (s : State) (w : Window) (h : Shift) : State :=
  { s.setShift w h with windowFlags := s.windowFlags.set w { s.windowFlags[w] with shift := true } }

/-- ACCEPTED after a change to a shift that flags it, and SHIFT STATE to its window. -/
theorem accept_flaggedShift {kind : Byte} {tag : Tag} {fields : List Byte} (h : s.Hears .supervisor)
    (change : Shift → Shift) :
    (pure (((((s.sound .supervisor).modShift w change).flagShift w).accept .supervisor kind tag
        fields).sendShiftState w) : Except Code State)
      = .ok (((s.setFlaggedShift w (change s.shifts[w])).answered .supervisor
          (acceptedFrame kind tag fields)).sendShiftState w) :=
  congrArg (fun v : State => Except.ok (v.sendShiftState w))
    (accept_eq_answered (v := s.setFlaggedShift w (change s.shifts[w])) rfl h.listens)

/-- A window's number in a body of one byte. -/
theorem named_num_window_only (w : Window) : (named 12 (num (be 1 w.val) 0 1) : Option Window) = some w := by
  rw [num_be_only (by omega), named_val]

theorem execReopenCount_ok {tag : Tag} (h : s.Hears .supervisor) (hdeclared : s.shifts[w].state = .declared)
    (hrecount : s.shifts[w].recount < 3) :
    execReopenCount .supervisor tag (be 1 w.val) s = .next (((s.setFlaggedShift w
      { s.shifts[w] with state := .counting, recount := s.shifts[w].recount + 1 }).answered .supervisor
        (acceptedFrame Cmd.reopenCount tag (be 1 w.val ++ be 1 (s.shifts[w].recount + 1)))).sendShiftState w) := by
  have hmay : (s.shifts[w].state == .declared && decide (s.shifts[w].recount < Config.maxRecounts)) = true :=
    Bool.and_eq_true_iff.2 ⟨beq_iff_eq.2 hdeclared, decide_eq_true hrecount⟩
  refine supervisorCommand_ok h (by simp [fits])
    ((want_bind (named_num_window_only w)).trans ((need_bind hmay).trans ?_))
  exact accept_flaggedShift h fun x => { x with state := .counting, recount := x.recount + 1 }

theorem execSignOff_ok {tag : Tag} (h : s.Hears .supervisor) (hdeclared : s.shifts[w].state = .declared)
    (hclear : s.stockStatus w = .clear) :
    execSignOff .supervisor tag (be 1 w.val) s = .next (((s.setFlaggedShift w
      { s.shifts[w] with state := .signedOff, signedOffAt := some s.clock }).answered .supervisor
        (acceptedFrame Cmd.signOff tag (be 1 w.val))).sendShiftState w) := by
  refine supervisorCommand_ok h (by simp [fits]) ((want_bind (named_num_window_only w)).trans
    ((need_bind (beq_iff_eq.2 hdeclared)).trans ((need_bind (beq_iff_eq.2 hclear)).trans ?_)))
  exact accept_flaggedShift h fun x => { x with state := .signedOff, signedOffAt := some s.clock }

/-- Settles O41, by the checks of the two commands in order and the record each writes. -/
theorem reopenCountAndSignOff : Obligations.ReopenCountAndSignOff := by
  intro s tag w h hdeclared flagged told
  exact ⟨execReopenCount_ok h hdeclared, execSignOff_ok h hdeclared⟩

end Sys2Proof.Machine
end

section
/-!
What one occurrence does to the fault table, case by case of R153, R156 and R157, and how the number counter moves
(R151).
-/

namespace Sys2Proof.Machine

variable {s : State} {o : Occurrence}

/-! ## The number counter (R151) -/

/-- R151: the number `i` places after the counter, 65,535 being followed by 1. -/
def numberAfter (counter i : Nat) : Nat := (counter - 1 + i) % 65535 + 1

theorem nextNumber_eq {n : Nat} (hpos : 1 ≤ n) (hmax : n ≤ 65535) : nextNumber n = numberAfter n 1 := by
  unfold nextNumber numberAfter Config.maxReportNumber
  split <;> omega

theorem nextNumber_numberAfter (counter i : Nat) :
    nextNumber (numberAfter counter i) = numberAfter counter (i + 1) := by
  unfold nextNumber numberAfter Config.maxReportNumber
  split <;> omega

theorem numberAfter_bounds (counter i : Nat) : 1 ≤ numberAfter counter i ∧ numberAfter counter i ≤ 65535 := by
  unfold numberAfter
  omega

theorem numberAfter_ne {counter i j : Nat} (hij : i < j) (hj : j < i + 65535) :
    numberAfter counter i ≠ numberAfter counter j := by
  unfold numberAfter
  omega

/-- The first `n` numbers after the counter. -/
def numbersTried (counter n : Nat) : List Nat := (List.range n).map fun m => numberAfter counter (m + 1)

theorem numbersTried_nodup {counter n : Nat} (hn : n ≤ 65535) : (numbersTried counter n).Nodup :=
  List.pairwise_map.2 <| (List.pairwise_lt_range (n := n)).imp_of_mem fun hi hj hlt => by
    rw [List.mem_range] at hi hj
    exact numberAfter_ne (by omega) (by omega)

/-- The numbers after the counter are distinct, so a list in which the first `n` of them lie is that long. -/
theorem le_length_of_numbers_used {used : List Nat} {counter n : Nat} (hn : n ≤ 65535)
    (hused : ∀ m < n + 1, 1 ≤ m → numberAfter counter m ∈ used) : n ≤ used.length := by
  have hsubset : numbersTried counter n ⊆ used := fun x hx => by
    obtain ⟨m, hm, rfl⟩ := List.mem_map.1 hx
    rw [List.mem_range] at hm
    exact hused (m + 1) (by omega) (by omega)
  have hlength := ((numbersTried_nodup hn).subperm hsubset).length_le
  simpa [numbersTried] using hlength

/-- R151: with as many tries as there are numbers in use, the counter comes to rest at the first that is free. -/
theorem skipUsed_numberAfter (used : List Nat) (counter : Nat) (fuel i : Nat) (hi : 1 ≤ i)
    (hused : ∀ m < i, 1 ≤ m → numberAfter counter m ∈ used) (hfuel : used.length < fuel + i)
    (hmax : i + fuel ≤ 65535) :
    ∃ j, 1 ≤ j ∧ skipUsed used fuel (numberAfter counter i) = numberAfter counter j
      ∧ numberAfter counter j ∉ used ∧ ∀ m < j, 1 ≤ m → numberAfter counter m ∈ used := by
  induction fuel generalizing i with
  | zero =>
    refine ⟨i, hi, rfl, fun h => ?_, hused⟩
    have := le_length_of_numbers_used (by omega) (Nat.forall_lt_succ_right.2 ⟨hused, fun _ => h⟩)
    omega
  | succ fuel ih =>
    unfold skipUsed
    split
    · next h =>
      rw [nextNumber_numberAfter]
      exact ih (i + 1) (by omega) (Nat.forall_lt_succ_right.2 ⟨hused, fun _ => h⟩) (by omega) (by omega)
    · next h => exact ⟨i, hi, rfl, h, hused⟩

theorem State.allReports_length_le (s : State) : s.allReports.length ≤ s.reports.length + 1 := by
  unfold State.allReports
  cases s.reserved <;> simp

/-- R151: the counter moves to the first number after it that is not in use. -/
theorem State.movedCounter_spec (hroom : s.reports.length ≤ 48) (hpos : 1 ≤ s.counter) (hmax : s.counter ≤ 65535) :
    ∃ i, 1 ≤ i ∧ s.movedCounter = numberAfter s.counter i
      ∧ numberAfter s.counter i ∉ s.allReports.map (·.number)
      ∧ ∀ m < i, 1 ≤ m → numberAfter s.counter m ∈ s.allReports.map (·.number) := by
  have hlength := s.allReports_length_le
  unfold State.movedCounter
  dsimp only
  rw [nextNumber_eq hpos hmax]
  refine skipUsed_numberAfter _ s.counter _ 1 le_rfl (fun m hlt hm => by omega) (by omega) ?_
  rw [List.length_map]
  omega

/-! ## An occurrence, case by case (R153, R156, R157) -/

/-- R153: the report of the occurrence's source and kind that is not CLEARED takes it. -/
theorem State.raise_of_same {r : Report} (h : s.reports.find? (fun x => x.uncleared o.source o.kind) = some r) :
    s.raise o = s.coalesceReport r o := by
  unfold State.raise
  rw [h]

/-- R153: a new report where the table has room. -/
theorem State.raise_of_room (hnone : ∀ x ∈ s.reports, ¬x.uncleared o.source o.kind = true)
    (hroom : s.reports.length < 48) : s.raise o = s.createReport o := by
  unfold State.raise
  rw [List.find?_eq_none.2 hnone]
  exact if_pos hroom

/-- R156, step 1: a new report in place of the oldest CLEARED one. -/
theorem State.raise_of_cleared (hnone : ∀ x ∈ s.reports, ¬x.uncleared o.source o.kind = true)
    (hfull : 48 ≤ s.reports.length) (hcleared : ∃ x ∈ s.reports, x.state = .cleared) :
    s.raise o = s.evictFor o fun r => r.state == .cleared := by
  have hany : (s.reports.any fun r => r.state == .cleared) = true :=
    List.any_eq_true.2 (hcleared.imp fun x hx => ⟨hx.1, beq_iff_eq.2 hx.2⟩)
  unfold State.raise
  rw [List.find?_eq_none.2 hnone]
  dsimp only
  rw [if_neg (by unfold Config.maxReports; omega), if_pos hany]

/-- R156, step 2: a new report in place of the oldest ACKNOWLEDGED one of lower severity. -/
theorem State.raise_of_yielding (hnone : ∀ x ∈ s.reports, ¬x.uncleared o.source o.kind = true)
    (hfull : 48 ≤ s.reports.length) (hcleared : ∀ x ∈ s.reports, x.state ≠ .cleared)
    (hyields : ∃ x ∈ s.reports, x.yieldsTo o.kind = true) :
    s.raise o = s.evictFor o fun r => r.yieldsTo o.kind := by
  have hany : ¬(s.reports.any fun r => r.state == .cleared) = true := by simpa using hcleared
  unfold State.raise
  rw [List.find?_eq_none.2 hnone]
  dsimp only
  rw [if_neg (by unfold Config.maxReports; omega), if_neg hany, if_pos (List.any_eq_true.2 hyields)]

/-- R157: no report gives way, and the reserved report takes the occurrence. -/
theorem State.raise_of_full (hnone : ∀ x ∈ s.reports, ¬x.uncleared o.source o.kind = true)
    (hfull : 48 ≤ s.reports.length) (hcleared : ∀ x ∈ s.reports, x.state ≠ .cleared)
    (hyields : ∀ x ∈ s.reports, ¬x.yieldsTo o.kind = true) : s.raise o = s.foldReport o := by
  have hany : ¬(s.reports.any fun r => r.state == .cleared) = true := by simpa using hcleared
  have hany' : ¬(s.reports.any fun r => r.yieldsTo o.kind) = true := by simpa using hyields
  unfold State.raise
  rw [List.find?_eq_none.2 hnone]
  dsimp only
  rw [if_neg (by unfold Config.maxReports; omega), if_neg hany, if_neg hany']

theorem Report.yieldsTo_iff {r : Report} {k : Kind} : r.yieldsTo k = true
    ↔ r.state = .acknowledged ∧ r.kind.severity.rank < k.severity.rank := by
  unfold Report.yieldsTo
  rw [Bool.and_eq_true, beq_iff_eq, decide_eq_true_iff]
  rfl

/-! ## The reserved report (R157) -/

/-- R157: the window charged with an occurrence that is folded. -/
def Occurrence.charged (o : Occurrence) : Option Window :=
  match o.source with
  | .window w => some w
  | .printer _ => none
  | .office => none

/-- R157: the occurrence of TABLE_FULL that a folded occurrence is. -/
def Occurrence.full (o : Occurrence) : Occurrence := { source := .office, kind := .tableFull, window := o.charged }

/-- R157: the reserved report once it has taken one more folded occurrence. -/
def Report.folds (r : Report) (o : Occurrence) (now : Stamp) : Report :=
  { r.coalesce o.full now with folded := some (o.source, o.kind) }

/-- R157: the reserved report that a folded occurrence makes. -/
def Report.fullOf (number : Nat) (o : Occurrence) (now : Stamp) : Report :=
  { Report.create number o.full now with folded := some (o.source, o.kind) }

/-- R157: the table with its reserved report made anew, the counter moved on. -/
def State.reserving (s : State) (o : Occurrence) : State :=
  let u : State := { s with reserved := some (Report.fullOf s.counter o s.clock) }
  { u with counter := u.movedCounter }

theorem State.foldReport_of_open {r : Report} (h : s.reserved = some r) (hopen : r.state = .opened) (o : Occurrence) :
    s.foldReport o
      = ({ s with reserved := some (r.folds o s.clock) } : State).announce (r.folds o s.clock) := by
  unfold State.foldReport Report.folds Occurrence.full Occurrence.charged
  dsimp only
  rw [h]
  dsimp only
  rw [if_pos hopen]
  cases o.source <;> rfl

theorem State.foldReport_of_none (h : ∀ r ∈ s.reserved, r.state ≠ .opened) (o : Occurrence) :
    s.foldReport o = (s.reserving o).announce (Report.fullOf s.counter o s.clock) := by
  unfold State.foldReport State.reserving Report.fullOf Occurrence.full Occurrence.charged
  dsimp only
  cases hreserved : s.reserved with
  | none => cases o.source <;> rfl
  | some r =>
    dsimp only
    rw [if_neg (h r hreserved)]
    cases o.source <;> rfl

theorem State.foldReport_reports (s : State) (o : Occurrence) : (s.foldReport o).reports = s.reports := by
  unfold State.foldReport
  dsimp only
  split
  · split <;> rfl
  · rfl

end Sys2Proof.Machine
end

section
/-!
The laws of the fault table (R151, R156): what keeps them. A report changed where it stands, reports taken out, a
report added under the counter's number; and so an occurrence raised, whatever the table holds.
-/

namespace Sys2Proof.Machine

variable {s t u : State}

/-! ## One uncleared report of a source and kind (R156) -/

/-- Two reports that are not of one source and kind, or of which one is CLEARED. -/
def Report.Apart (a b : Report) : Prop :=
  ¬(a.state ≠ .cleared ∧ b.state ≠ .cleared ∧ a.source = b.source ∧ a.kind = b.kind)

/-- A report changed but for its number, source and kind, and not taken back from CLEARED. -/
structure Report.Moves (f : Report → Report) : Prop where
  number : ∀ r, (f r).number = r.number
  source : ∀ r, (f r).source = r.source
  kind : ∀ r, (f r).kind = r.kind
  uncleared : ∀ r, (f r).state ≠ .cleared → r.state ≠ .cleared

theorem Report.Apart.of_moves {f : Report → Report} (hf : Report.Moves f) {a b : Report} (h : a.Apart b) :
    (f a).Apart (f b) := fun ⟨ha, hb, hsource, hkind⟩ =>
  h ⟨hf.uncleared a ha, hf.uncleared b hb, by rwa [hf.source, hf.source] at hsource,
    by rwa [hf.kind, hf.kind] at hkind⟩

theorem State.tableSound_iff : s.TableSound ↔ s.reports.length ≤ 48 ∧ s.reports.Pairwise Report.Apart := Iff.rfl

theorem State.TableSound.of_reports (hs : s.TableSound) (h : t.reports = s.reports) : t.TableSound := by
  rw [State.tableSound_iff, h]
  exact hs

theorem State.TableSound.of_moves {f : Report → Report} (hf : Report.Moves f) (hs : s.TableSound)
    (h : t.reports = s.reports.map f) : t.TableSound := by
  obtain ⟨hroom, hapart⟩ := hs
  rw [State.tableSound_iff, h, List.length_map]
  exact ⟨hroom, hapart.map f fun _ _ => Report.Apart.of_moves hf⟩

theorem State.TableSound.of_sublist (hs : s.TableSound) (h : t.reports.Sublist s.reports) : t.TableSound :=
  ⟨h.length_le.trans hs.1, hs.2.sublist h⟩

/-- R156: a new report where none of its source and kind stands uncleared. -/
theorem State.TableSound.append (hs : s.TableSound) {r : Report} {rest : List Report}
    (hrest : rest.Sublist s.reports) (hroom : rest.length < 48)
    (hnone : ∀ x ∈ s.reports, ¬x.uncleared r.source r.kind = true) (h : t.reports = rest ++ [r]) :
    t.TableSound := by
  obtain ⟨-, hapart⟩ := hs
  rw [State.tableSound_iff, h, List.length_append, List.pairwise_append]
  refine ⟨Nat.succ_le_of_lt hroom, hapart.sublist hrest, List.pairwise_singleton .., fun x hx y hy => ?_⟩
  rw [List.mem_singleton.1 hy]
  exact fun ⟨hstate, _, hsource, hkind⟩ =>
    hnone x (hrest.subset hx) (Report.uncleared_iff.2 ⟨hsource, hkind, hstate⟩)

/-! ## Numbers (R151) -/

/-- The numbers in use. -/
def State.numbers (s : State) : List Nat := s.allReports.map (·.number)

theorem State.numbersSound_iff : s.NumbersSound ↔ s.reports.length ≤ 48 ∧ s.numbers.Nodup
    ∧ (∀ n ∈ s.numbers, 1 ≤ n ∧ n ≤ 65535) ∧ 1 ≤ s.counter ∧ s.counter ≤ 65535 ∧ s.counter ∉ s.numbers := Iff.rfl

/-- Reports leave, or change but for their numbers. -/
theorem State.NumbersSound.of_sublist (hs : s.NumbersSound) (hroom : t.reports.length ≤ s.reports.length)
    (hnumbers : t.numbers.Sublist s.numbers) (hcounter : t.counter = s.counter) : t.NumbersSound := by
  obtain ⟨hlength, hnodup, hrange, hpos, hmax, hfree⟩ := State.numbersSound_iff.1 hs
  rw [State.numbersSound_iff, hcounter]
  exact ⟨hroom.trans hlength, hnodup.sublist hnumbers, fun n hn => hrange n (hnumbers.subset hn), hpos, hmax,
    fun hn => hfree (hnumbers.subset hn)⟩

theorem State.NumbersSound.of_eq (hs : s.NumbersSound)
    (h : (t.reports, t.reserved, t.counter) = (s.reports, s.reserved, s.counter)) : t.NumbersSound := by
  simp only [Prod.mk.injEq] at h
  obtain ⟨hreports, hreserved, hcounter⟩ := h
  have hnumbers : t.numbers = s.numbers := by
    unfold State.numbers State.allReports
    rw [hreports, hreserved]
  exact hs.of_sublist (by rw [hreports]) (hnumbers ▸ List.Sublist.refl _) hcounter

theorem State.NumbersSound.of_moves {f g : Report → Report} (hf : ∀ r, (f r).number = r.number)
    (hg : ∀ r, (g r).number = r.number) (hs : s.NumbersSound) (hreports : t.reports = s.reports.map f)
    (hreserved : t.reserved = s.reserved.map g) (hcounter : t.counter = s.counter) : t.NumbersSound := by
  have hnumbers : t.numbers = s.numbers := by
    unfold State.numbers State.allReports
    rw [hreports, hreserved, List.map_append, List.map_append, List.map_map]
    refine congrArg₂ (· ++ ·) (List.map_congr_left fun r _ => hf r) ?_
    cases s.reserved with
    | none => rfl
    | some r => exact congrArg (fun n => [n]) (hg r)
  exact hs.of_sublist (by rw [hreports, List.length_map]) (hnumbers ▸ List.Sublist.refl _) hcounter

/-- R151: a report is added under the counter's number, and the counter moves on. -/
theorem State.NumbersSound.created (hs : s.NumbersSound) {kept : List Nat} (hcounter : u.counter = s.counter)
    (hroom : u.reports.length ≤ 48) (hnumbers : u.numbers.Perm (s.counter :: kept))
    (hkept : kept.Sublist s.numbers) : ({ u with counter := u.movedCounter } : State).NumbersSound := by
  obtain ⟨-, hnodup, hrange, hpos, hmax, hfree⟩ := State.numbersSound_iff.1 hs
  obtain ⟨i, -, hmoved, hunused, -⟩ := u.movedCounter_spec hroom (hcounter ▸ hpos) (hcounter ▸ hmax)
  obtain ⟨hpos', hmax'⟩ := numberAfter_bounds u.counter i
  refine State.numbersSound_iff.2 ⟨hroom, ?_, fun n hn => ?_, ?_⟩
  · exact hnumbers.nodup_iff.2 (List.nodup_cons.2 ⟨fun h => hfree (hkept.subset h), hnodup.sublist hkept⟩)
  · obtain rfl | hn := List.mem_cons.1 (hnumbers.mem_iff.1 hn)
    · exact ⟨hpos, hmax⟩
    · exact hrange n (hkept.subset hn)
  · rw [hmoved]
    exact ⟨hpos', hmax', hunused⟩

/-! ## An occurrence raised (R153, R156, R157) -/

theorem Report.moves_coalesce (o : Occurrence) (now : Stamp) :
    Report.Moves fun x => if x.uncleared o.source o.kind then x.coalesce o now else x where
  number r := by split <;> rfl
  source r := by split <;> rfl
  kind r := by split <;> rfl
  uncleared r h := by
    split at h
    · next hr => exact (Report.uncleared_iff.1 hr).2.2
    · exact h

theorem List.length_eraseP_lt {α : Type} {l : List α} {test : α → Bool} (h : l.any test = true) {n : Nat}
    (hroom : l.length ≤ n) : (l.eraseP test).length < n := by
  obtain ⟨x, hx, htest⟩ := List.any_eq_true.1 h
  have hpos := List.length_pos_of_mem hx
  rw [List.length_eraseP_of_mem hx htest]
  omega

/-- R153, R156, R157: an occurrence coalesces, makes a new report where there is or can be made room, or is folded. -/
theorem State.raise_cases (hroom : s.reports.length ≤ 48) (o : Occurrence) :
    (∃ r, s.raise o = s.coalesceReport r o)
      ∨ (∃ rest : List Report, rest.Sublist s.reports ∧ rest.length < 48
          ∧ (∀ x ∈ s.reports, ¬x.uncleared o.source o.kind = true)
          ∧ s.raise o = ({ s with reports := rest } : State).createReport o)
      ∨ s.raise o = s.foldReport o := by
  unfold State.raise
  split
  · next r _ => exact .inl ⟨r, rfl⟩
  · next hfind =>
    have hnone := List.find?_eq_none.1 hfind
    have hevict {test : Report → Bool} (h : s.reports.any test = true) :
        ∃ rest : List Report, rest.Sublist s.reports ∧ rest.length < 48
          ∧ (∀ x ∈ s.reports, ¬x.uncleared o.source o.kind = true)
          ∧ s.evictFor o test = ({ s with reports := rest } : State).createReport o :=
      ⟨_, List.eraseP_sublist, List.length_eraseP_lt h hroom, hnone, rfl⟩
    split
    · next hlt => exact .inr (.inl ⟨s.reports, .refl _, hlt, hnone, rfl⟩)
    · split
      · next h => exact .inr (.inl (hevict h))
      · split
        · next h => exact .inr (.inl (hevict h))
        · exact .inr (.inr rfl)

theorem State.TableSound.raise (hs : s.TableSound) (o : Occurrence) : (s.raise o).TableSound := by
  obtain ⟨r, h⟩ | ⟨rest, hrest, hroom, hnone, h⟩ | h := State.raise_cases hs.1 o
  · exact hs.of_moves (Report.moves_coalesce o s.clock) (by rw [h]; rfl)
  · exact hs.append (r := Report.create s.counter o s.clock) hrest hroom hnone (by rw [h]; rfl)
  · exact hs.of_reports (by rw [h, State.foldReport_reports])

/-- The numbers in use once a report is added at the end of a list. -/
theorem State.numbers_join (s : State) (rest : List Report) (r : Report) :
    ({ s with reports := rest ++ [r] } : State).numbers.Perm
      (r.number :: (rest ++ s.reserved.toList).map (·.number)) := by
  have hmade : ({ s with reports := rest ++ [r] } : State).numbers = (rest ++ r :: s.reserved.toList).map (·.number) := by
    simp [State.numbers, State.allReports]
  have hplace : (rest ++ r :: s.reserved.toList).Perm (r :: (rest ++ s.reserved.toList)) := List.perm_middle
  rw [hmade]
  exact hplace.map _

/-- The numbers in use once the reserved report is another. -/
theorem State.numbers_reserve (s : State) (r : Report) :
    ({ s with reserved := some r } : State).numbers.Perm (r.number :: s.reports.map (·.number)) := by
  have hmade : ({ s with reserved := some r } : State).numbers = s.reports.map (·.number) ++ [r.number] := by
    simp [State.numbers, State.allReports]
  rw [hmade]
  exact List.perm_append_singleton ..

theorem State.NumbersSound.createReport (hs : s.NumbersSound) {rest : List Report} (hrest : rest.Sublist s.reports)
    (hroom : rest.length < 48) (o : Occurrence) :
    (({ s with reports := rest } : State).createReport o).NumbersSound := by
  have hnumbers := s.numbers_join rest (Report.create s.counter o s.clock)
  refine (hs.created (u := { s with reports := rest ++ [Report.create s.counter o s.clock] }) rfl ?_ hnumbers
    ((hrest.append_right _).map _)).of_eq rfl
  rw [List.length_append]
  exact Nat.succ_le_of_lt hroom

theorem State.NumbersSound.foldReport (hs : s.NumbersSound) (o : Occurrence) : (s.foldReport o).NumbersSound := by
  by_cases hopen : ∃ r ∈ s.reserved, r.state = .opened
  · obtain ⟨r, hr, hopen⟩ := hopen
    rw [State.foldReport_of_open hr hopen]
    refine hs.of_moves (f := id) (g := fun x => x.folds o s.clock) (fun _ => rfl) (fun _ => rfl)
      (List.map_id _).symm ?_ rfl
    rw [hr]
    rfl
  · rw [State.foldReport_of_none (fun r hr h => hopen ⟨r, hr, h⟩)]
    have hnumbers := s.numbers_reserve (Report.fullOf s.counter o s.clock)
    exact (hs.created (u := { s with reserved := some (Report.fullOf s.counter o s.clock) }) rfl hs.1 hnumbers
      ((List.sublist_append_left ..).map _)).of_eq rfl

theorem State.NumbersSound.raise (hs : s.NumbersSound) (o : Occurrence) : (s.raise o).NumbersSound := by
  obtain ⟨r, h⟩ | ⟨rest, hrest, hroom, -, h⟩ | h := State.raise_cases hs.1 o
  · rw [h]
    exact hs.of_moves (g := id) (Report.moves_coalesce o s.clock).number (fun _ => rfl) rfl (by simp; rfl) rfl
  · rw [h]
    exact hs.createReport hrest hroom o
  · rw [h]
    exact hs.foldReport o

/-! ## Conditions that end, reports acknowledged, reports removed (R154, R155, R158) -/

theorem Report.moves_ended (which : Report → Bool) :
    Report.Moves fun r => if r.state != .cleared && which r then r.ended else r where
  number r := by split <;> rfl
  source r := by split <;> rfl
  kind r := by split <;> rfl
  uncleared r h := by
    split at h
    · next hr => exact bne_iff_ne.1 (Bool.and_eq_true_iff.1 hr).1
    · exact h

theorem Report.acknowledge_told (r : Report) : r.acknowledge.number = r.number ∧ r.acknowledge.source = r.source
    ∧ r.acknowledge.kind = r.kind ∧ (r.acknowledge.state ≠ .cleared → r.state ≠ .cleared) := by
  unfold Report.acknowledge
  split
  · next h => exact ⟨rfl, rfl, rfl, fun _ => by rw [h]; nofun⟩
  · exact ⟨rfl, rfl, rfl, id⟩
  · exact ⟨rfl, rfl, rfl, id⟩

theorem Report.moves_acknowledge (number : Nat) :
    Report.Moves fun r => if r.number = number then r.acknowledge else r where
  number r := by split; exacts [r.acknowledge_told.1, rfl]
  source r := by split; exacts [r.acknowledge_told.2.1, rfl]
  kind r := by split; exacts [r.acknowledge_told.2.2.1, rfl]
  uncleared r h := by
    split at h
    · exact r.acknowledge_told.2.2.2 h
    · exact h

end Sys2Proof.Machine
end

section
/-!
What a step does to the fault table and the outputs: the laws of the table (R151, R156), ALARM (R167) and the lamps
(R168), what each reads, and a change that keeps them.
-/

namespace Sys2Proof.Machine

variable {s t u : State}

/-! ## ALARM and the lamps (R167, R168, R185) -/

theorem State.running_iff : s.running = true ↔ s.phase = .running := by
  unfold State.running
  exact beq_iff_eq

theorem State.alarmLaw_iff : s.alarmLaw = true ↔ s.phase = .running ∧ s.limits.alarmEnable = true ∧ s.silenced = false
    ∧ ((∃ r ∈ s.reports ++ s.reserved.toList, r.state = .opened ∧ r.kind.severity = .critical)
      ∨ s.alarmIn = true) := by
  unfold State.alarmLaw State.openCritical Report.severity
  simp only [Bool.and_eq_true, Bool.or_eq_true, Bool.not_eq_true', State.running_iff, List.any_eq_true, beq_iff_eq,
    and_assoc]
  rfl

/-- R167: ALARM is as its terms have it. -/
theorem State.alarmSound_iff : s.AlarmSound ↔ s.alarm = s.alarmLaw := by
  unfold State.AlarmSound
  rw [← State.alarmLaw_iff]
  exact Bool.eq_iff_iff.symm

/-- R168: what each aspect leaves lit. -/
structure Lamp.Formed (l : Lamp) : Prop where
  off : l.aspect = .off → l.lit = false
  pulse : l.aspect ≠ .on → l.pulse = false
  on : l.aspect = .on → l.lit = !l.pulse

theorem Lamp.formed_dark : Lamp.dark.Formed := ⟨fun _ => rfl, fun _ => rfl, nofun⟩

theorem Lamp.Formed.show {l : Lamp} (h : l.Formed) (a : Aspect) : (l.show a).Formed := by
  unfold Lamp.show
  split
  · exact h
  · cases a with
    | off => exact ⟨fun _ => rfl, fun _ => rfl, nofun⟩
    | flash => exact ⟨nofun, fun _ => rfl, nofun⟩
    | on => exact ⟨nofun, fun h => absurd rfl h, fun _ => rfl⟩

theorem Lamp.Formed.pulsed {l : Lamp} (h : l.Formed) : l.pulsed.Formed := by
  unfold Lamp.pulsed
  split
  · next hon => exact ⟨fun hoff => absurd (hon.symm.trans hoff) nofun, fun hno => absurd hon hno, fun _ => rfl⟩
  · exact h

theorem Lamp.show_aspect (l : Lamp) (a : Aspect) : (l.show a).aspect = a := by
  unfold Lamp.show
  split
  · assumption
  · rfl

theorem State.printerInTrouble_iff {p : PrinterId} : s.printerInTrouble p = true ↔
    ∃ r ∈ s.reports, r.source = .printer p ∧ r.state ≠ .cleared
      ∧ (r.kind.severity = .fault ∨ r.kind.severity = .critical) := by
  have hrank (v : Severity) : 2 ≤ v.rank ↔ v = .fault ∨ v = .critical := by cases v <;> decide
  unfold State.printerInTrouble Report.severity
  simp only [List.any_eq_true, Bool.and_eq_true, beq_iff_eq, bne_iff_ne, decide_eq_true_iff, hrank, and_assoc]

/-- R168, R185: the lamp of a printer is dark. -/
def State.darkens (s : State) (p : PrinterId) : Prop :=
  s.phase ≠ .running ∨ s.printers[p].link ≠ .up ∨ s.printers[p].outOfService = true

theorem State.lampLaw_of_dark {p : PrinterId} (h : s.darkens p) : s.lampLaw p = .off := by
  unfold State.lampLaw
  split
  · rfl
  · next hrun =>
    have hrun : s.phase = .running := State.running_iff.1 (by simpa using hrun)
    obtain h | h := h
    · exact absurd hrun h
    · exact if_pos (by simpa using h)

theorem State.lampLaw_of_light {p : PrinterId} (h : ¬s.darkens p) :
    s.lampLaw p = if s.printerInTrouble p then .flash else .on := by
  unfold State.darkens at h
  simp only [not_or, ne_eq, not_not, Bool.not_eq_true] at h
  obtain ⟨hrun, hlink, hservice⟩ := h
  unfold State.lampLaw
  rw [State.running_iff.2 hrun, hlink, hservice]
  rfl

/-- R168: a lamp is sound where it shows its printer's aspect in the form of that aspect. -/
theorem State.lampSound_iff {p : PrinterId} :
    s.LampSound p ↔ s.printers[p].lamp.aspect = s.lampLaw p ∧ s.printers[p].lamp.Formed := by
  have haspect : s.printers[p].lamp.aspect = s.lampLaw p ↔ (s.printers[p].lamp.aspect = .off ↔ s.darkens p)
      ∧ (s.printers[p].lamp.aspect = .flash ↔ ¬s.darkens p ∧ s.printerInTrouble p = true) := by
    by_cases hdark : s.darkens p
    · rw [State.lampLaw_of_dark hdark]
      simp only [hdark, iff_true, not_true, false_and, iff_false]
      exact ⟨fun h => ⟨h, fun hf => nomatch h.symm.trans hf⟩, fun h => h.1⟩
    · rw [State.lampLaw_of_light hdark]
      cases htrouble : s.printerInTrouble p <;> cases s.printers[p].lamp.aspect <;> simp [hdark]
  rw [haspect, State.printerInTrouble_iff]
  constructor
  · rintro ⟨hoff, hflash, hlit, hpulse, hon⟩
    exact ⟨⟨hoff, hflash⟩, hlit, hpulse, hon⟩
  · rintro ⟨⟨hoff, hflash⟩, hlit, hpulse, hon⟩
    exact ⟨hoff, hflash, hlit, hpulse, hon⟩

/-- R168: every lamp shows its printer's aspect. -/
def State.AspectsSound (s : State) : Prop := ∀ p : PrinterId, s.printers[p].lamp.aspect = s.lampLaw p

/-- Every lamp has the form of the aspect it shows. -/
def State.LampsFormed (s : State) : Prop := ∀ p : PrinterId, s.printers[p].lamp.Formed

theorem State.lampsSound_iff : s.LampsSound ↔ s.AspectsSound ∧ s.LampsFormed := by
  unfold State.LampsSound State.AspectsSound State.LampsFormed
  simp only [State.lampSound_iff, forall_and]

/-! ## What a step keeps -/

/-- A change that keeps the laws of the fault table, and every lamp in the form of its aspect. -/
structure State.Tends (s t : State) : Prop where
  table : s.TableSound → t.TableSound
  numbers : s.NumbersSound → t.NumbersSound
  lamps : s.LampsFormed → t.LampsFormed

/-- A change that keeps the laws of the fault table and of the outputs. -/
structure State.Attends (s t : State) : Prop extends s.Tends t where
  alarm : s.AlarmSound → t.AlarmSound
  aspects : s.AspectsSound → t.AspectsSound

theorem State.Tends.trans (h : s.Tends t) (k : t.Tends u) : s.Tends u :=
  ⟨fun hs => k.table (h.table hs), fun hs => k.numbers (h.numbers hs), fun hs => k.lamps (h.lamps hs)⟩

theorem State.Attends.trans (h : s.Attends t) (k : t.Attends u) : s.Attends u :=
  ⟨h.toTends.trans k.toTends, fun hs => k.alarm (h.alarm hs), fun hs => k.aspects (h.aspects hs)⟩

/-- The fault table, with the lamps. -/
structure Board where
  reports : List Report
  reserved : Option Report
  counter : Nat
  lamps : Vector Lamp 8

def State.board (s : State) : Board :=
  { reports := s.reports, reserved := s.reserved, counter := s.counter, lamps := s.printers.map (·.lamp) }

theorem State.board_lamp (h : t.board = s.board) (p : PrinterId) : t.printers[p].lamp = s.printers[p].lamp := by
  have hlamp := congrArg (fun b : Board => b.lamps[p]) h
  simpa [State.board, vecGet_map] using hlamp

theorem State.Tends.of_table (h : (t.reports, t.reserved, t.counter) = (s.reports, s.reserved, s.counter))
    (hlamps : s.LampsFormed → t.LampsFormed) : s.Tends t :=
  ⟨fun hs => hs.of_reports (congrArg Prod.fst h), fun hs => hs.of_eq h, hlamps⟩

theorem State.Tends.of_board (h : t.board = s.board) : s.Tends t :=
  .of_table (congrArg (fun b : Board => (b.reports, b.reserved, b.counter)) h) fun hs p => by
    rw [State.board_lamp h]
    exact hs p

theorem State.Tends.refl (s : State) : s.Tends s := .of_board rfl

theorem State.Tends.board (h : s.Tends t) (e : u.board = t.board) : s.Tends u := h.trans (.of_board e)

/-- What ALARM and the lamps follow, and they themselves, beside the fault table. -/
structure Panel where
  board : Board
  phase : Phase
  alarmEnable : Bool
  silenced : Bool
  alarmIn : Bool
  alarm : Bool
  links : Vector (Link × Bool) 8

def State.panel (s : State) : Panel :=
  { board := s.board, phase := s.phase, alarmEnable := s.limits.alarmEnable, silenced := s.silenced
    alarmIn := s.alarmIn, alarm := s.alarm, links := s.printers.map fun pr => (pr.link, pr.outOfService) }

theorem State.panel_link (h : t.panel = s.panel) (p : PrinterId) :
    t.printers[p].link = s.printers[p].link ∧ t.printers[p].outOfService = s.printers[p].outOfService := by
  have hlink := congrArg (fun b : Panel => b.links[p]) h
  simpa [State.panel, vecGet_map] using hlink

/-- ALARM's terms and ALARM are unchanged. -/
theorem State.AlarmSound.of_law (hs : s.AlarmSound) (halarm : t.alarm = s.alarm) (hlaw : t.alarmLaw = s.alarmLaw) :
    t.AlarmSound := by
  rw [State.alarmSound_iff] at hs ⊢
  rw [halarm, hlaw]
  exact hs

theorem State.alarmLaw_of_panel (h : t.panel = s.panel) : t.alarmLaw = s.alarmLaw := by
  have hphase := congrArg Panel.phase h
  have henable := congrArg Panel.alarmEnable h
  have hsilenced := congrArg Panel.silenced h
  have hin := congrArg Panel.alarmIn h
  have hreports := congrArg (fun b : Panel => b.board.reports) h
  have hreserved := congrArg (fun b : Panel => b.board.reserved) h
  simp only [State.panel, State.board] at hphase henable hsilenced hin hreports hreserved
  unfold State.alarmLaw State.running State.openCritical State.allReports
  rw [hphase, henable, hsilenced, hin, hreports, hreserved]

theorem State.lampLaw_of_eq {p : PrinterId} (hphase : t.phase = s.phase)
    (hlink : t.printers[p].link = s.printers[p].link)
    (hservice : t.printers[p].outOfService = s.printers[p].outOfService)
    (htrouble : t.printerInTrouble p = s.printerInTrouble p) : t.lampLaw p = s.lampLaw p := by
  unfold State.lampLaw State.running
  rw [hphase, hlink, hservice, htrouble]

theorem State.lampLaw_of_panel (h : t.panel = s.panel) (p : PrinterId) : t.lampLaw p = s.lampLaw p := by
  obtain ⟨hlink, hservice⟩ := State.panel_link h p
  have hreports : t.reports = s.reports := congrArg (fun b : Panel => b.board.reports) h
  refine State.lampLaw_of_eq (congrArg Panel.phase h) hlink hservice ?_
  unfold State.printerInTrouble
  rw [hreports]

theorem State.Attends.of_panel (h : t.panel = s.panel) : s.Attends t where
  toTends := .of_board (congrArg Panel.board h)
  alarm hs := hs.of_law (congrArg Panel.alarm h) (State.alarmLaw_of_panel h)
  aspects hs p := by
    rw [State.board_lamp (congrArg Panel.board h), State.lampLaw_of_panel h]
    exact hs p

theorem State.Attends.refl (s : State) : s.Attends s := .of_panel rfl

theorem State.Attends.panel (h : s.Attends t) (e : u.panel = t.panel) : s.Attends u := h.trans (.of_panel e)

/-! ## The end of a step -/

/-- R167, R168: the outputs recomputed are as their terms have them, whatever they were. -/
theorem State.Tends.outputs (h : s.Tends t) : s.Attends t.outputs where
  toTends := h.trans <| .of_table rfl fun hs p => by
    rw [State.outputs_printer]
    exact (hs p).show _
  alarm _ := State.alarmSound_iff.2 t.outputs_alarm
  aspects _ p := by
    rw [State.outputs_lampLaw, State.outputs_printer]
    exact Lamp.show_aspect ..

theorem State.board_of_printers (h : (t.reports, t.reserved, t.counter) = (s.reports, s.reserved, s.counter))
    (hlamps : ∀ p : PrinterId, t.printers[p].lamp = s.printers[p].lamp) : t.board = s.board := by
  simp only [Prod.mk.injEq] at h
  obtain ⟨hreports, hreserved, hcounter⟩ := h
  unfold State.board
  rw [hreports, hreserved, hcounter, vecMap_eq hlamps]

theorem State.Besides.kept (h : s.Besides t) : t.reserved = s.reserved ∧ t.counter = s.counter := by
  unfold State.Besides at h
  rw [h]
  exact ⟨rfl, rfl⟩

theorem State.board_housekeep (s : State) : s.housekeep.board = s.board := by
  obtain ⟨hreports, -⟩ := s.housekeep_kept
  obtain ⟨hreserved, hcounter⟩ := s.housekeep_besides.kept
  exact State.board_of_printers (by rw [hreports, hreserved, hcounter]) fun p => by rw [s.housekeep_printer]

theorem State.tends_endConditions (s : State) (f : Source → Kind → Bool) : s.Tends (s.endConditions f) where
  table hs := hs.of_moves (Report.moves_ended fun r => f r.source r.kind) rfl
  numbers hs := hs.of_moves (g := id) (Report.moves_ended fun r => f r.source r.kind).number (fun _ => rfl) rfl
    Option.map_id'.symm rfl
  lamps hs := hs

theorem State.tends_raise (s : State) (o : Occurrence) : s.Tends (s.raise o) where
  table hs := hs.raise o
  numbers hs := hs.raise o
  lamps hs p := by
    rw [(s.raise_step o).kept.1]
    exact hs p

theorem State.tends_raiseAll (s : State) (os : List Occurrence) : s.Tends (s.raiseAll os) := by
  induction os generalizing s with
  | nil => exact .refl s
  | cons o os ih => exact (s.tends_raise o).trans (ih (s.raise o))

theorem State.board_changeFlags (s before : State) : (s.changeFlags before).board = s.board :=
  State.board_of_printers rfl fun p => by rw [State.changeFlags_printer]

/-- The end of a step keeps the laws of the table, and leaves the outputs as they must be. -/
theorem State.Tends.ended (h : s.Tends t) {before : State} {told : List Occurrence} :
    s.Attends (t.commit before told) := by
  have hraised : t.Tends (t.raisedAt before told) :=
    (State.Tends.of_board t.board_housekeep).trans ((State.tends_endConditions ..).trans (State.tends_raiseAll ..))
  rw [State.commit_eq]
  exact ((h.trans hraised).board (State.board_changeFlags ..)).outputs

end Sys2Proof.Machine
end

section
/-! What leaves the fault table and the lamps alone, operation by operation; and the operations that start an activity
pulse (R168). -/

namespace Sys2Proof.Machine

variable (s : State)

/-! ## Frames, packs and shifts -/

@[simp] theorem State.board_modPort (port : Port) (f : PortRecord → PortRecord) :
    (s.modPort port f).board = s.board := by
  cases port <;> rfl

@[simp] theorem State.board_send (port : Port) (fs : List Frame) : (s.send port fs).board = s.board :=
  s.board_modPort ..

@[simp] theorem State.board_accept (port : Port) (kind : Byte) (tag : Tag) (fields : List Byte) :
    (s.accept port kind tag fields).board = s.board := s.board_send ..

@[simp] theorem State.board_modPack (id : Nat) (f : Pack → Pack) : (s.modPack id f).board = s.board := rfl

@[simp] theorem State.board_returnBlank (pack serial : Nat) : (s.returnBlank pack serial).board = s.board := rfl

@[simp] theorem State.board_assign (k : Pack) : (s.assign k).board = s.board := rfl

@[simp] theorem State.board_makeSafe (pack : Nat) : (s.makeSafe pack).board = s.board := rfl

@[simp] theorem State.board_modShift (w : Window) (f : Shift → Shift) : (s.modShift w f).board = s.board := rfl

@[simp] theorem State.board_modJob (ref : JobRef) (f : Job → Job) : (s.modJob ref f).board = s.board := rfl

@[simp] theorem State.board_releaseTicket (f : Ticket) : (s.releaseTicket f).board = s.board := by
  unfold State.releaseTicket
  split <;> rfl

@[simp] theorem State.board_writeRun (pack first count : Nat) (cause : Cause) (printer : Option PrinterId)
    (charged : Option JobRef) : (s.writeRun pack first count cause printer charged).board = s.board := by
  cases charged <;> rfl

@[simp] theorem State.board_spoilRange (p : PrinterId) (pack first : Nat) (charges : List (Option JobRef)) :
    (s.spoilRange p pack first charges).board = s.board := by
  unfold State.spoilRange
  induction runsOf first charges generalizing s with
  | nil => rfl
  | cons r runs ih => exact (ih _).trans (s.board_writeRun ..)

@[simp] theorem State.board_writeOff (k : Pack) : (s.writeOff k).board = s.board := by
  unfold State.writeOff
  dsimp only
  rw [State.board_modPack]
  split
  · exact s.board_writeRun ..
  · rfl

@[simp] theorem State.board_countJam (owner : Option JobRef) (k : Nat) : (s.countJam owner k).board = s.board := by
  cases owner <;> rfl

@[simp] theorem State.board_endRecordFull (p : PrinterId) : (s.endRecordFull p).board = s.board := rfl

/-! ## Printers whose lamp stays -/

theorem State.board_modPrinter {p : PrinterId} {f : Printer → Printer}
    (h : ∀ pr, (f pr).lamp = pr.lamp := by exact fun _ => rfl) : (s.modPrinter p f).board = s.board :=
  State.board_of_printers rfl fun q => by
    rw [State.modPrinter_get]
    split
    · subst_vars; exact h _
    · rfl

theorem State.board_mapPrinters {f : PrinterId → Printer → Printer}
    (h : ∀ p pr, (f p pr).lamp = pr.lamp := by exact fun _ _ => rfl) : (s.mapPrinters f).board = s.board :=
  State.board_of_printers rfl fun q => by rw [State.mapPrinters_get]; exact h ..

@[simp] theorem State.board_sendLine (p : PrinterId) (f : Frame) : (s.sendLine p f).board = s.board :=
  s.board_modPrinter

@[simp] theorem State.board_backOff (p : PrinterId) (owner : Option JobRef) : (s.backOff p owner).board = s.board :=
  s.board_modPrinter fun _ => by split <;> rfl

@[simp] theorem State.board_holdIf (p : PrinterId) (b : Bool) : (s.holdIf p b).board = s.board := s.board_modPrinter

@[simp] theorem State.board_emptyPrinter (p : PrinterId) : (s.emptyPrinter p).board = s.board := s.board_modPrinter

@[simp] theorem State.board_clearMarkers (pack : Nat) : (s.clearMarkers pack).board = s.board :=
  s.board_mapPrinters fun _ _ => by split <;> rfl

@[simp] theorem Printer.askWithdrawal_lamp (pr : Printer) : pr.askWithdrawal.lamp = pr.lamp := by
  unfold Printer.askWithdrawal
  split
  · split <;> rfl
  · rfl

@[simp] theorem Printer.promote_lamp (pr : Printer) : pr.promote.lamp = pr.lamp := by
  unfold Printer.promote
  split <;> rfl

@[simp] theorem Printer.finishPrinting_lamp (pr : Printer) : pr.finishPrinting.lamp = pr.lamp := by
  unfold Printer.finishPrinting
  dsimp only
  split
  · rfl
  · exact Printer.promote_lamp _

@[simp] theorem Printer.endWithdrawal_lamp (pr : Printer) : pr.endWithdrawal.lamp = pr.lamp := by
  unfold Printer.endWithdrawal
  dsimp only
  split
  · exact Printer.promote_lamp _
  · rfl

@[simp] theorem Printer.takeStatus_lamp (pr : Printer) (c : Conditions) : (pr.takeStatus c).lamp = pr.lamp := by
  have hreleased (b : Bool) :
      (if b then ({ pr with conditions := c } : Printer).promote else { pr with conditions := c }).lamp = pr.lamp := by
    split
    · exact Printer.promote_lamp _
    · rfl
  unfold Printer.takeStatus
  dsimp only
  split
  · exact (Printer.askWithdrawal_lamp _).trans (hreleased _)
  · exact hreleased _

@[simp] theorem Printer.recoverIfDue_lamp (pr : Printer) : pr.recoverIfDue.lamp = pr.lamp := by
  unfold Printer.recoverIfDue
  split <;> rfl

@[simp] theorem Printer.passReservation_lamp (pr : Printer) (f : Ticket) : (pr.passReservation f).lamp = pr.lamp := by
  unfold Printer.passReservation
  split <;> rfl

@[simp] theorem State.board_compareCapability (p : PrinterId) : (s.compareCapability p).board = s.board :=
  s.board_modPrinter fun pr => by
    split
    · exact Printer.askWithdrawal_lamp _
    · rfl

@[simp] theorem State.board_endCapabilityWait (p : PrinterId) (c : Capability) :
    (s.endCapabilityWait p c).board = s.board :=
  (State.board_modPrinter _ Printer.recoverIfDue_lamp).trans
    ((State.board_compareCapability ..).trans s.board_modPrinter)

@[simp] theorem State.board_endJobs (chosen : Job → Bool) (e : Ending) : (s.endJobs chosen e).board = s.board :=
  Eq.trans (b := (s.mapPrinters fun p pr => if s.stagedOf p chosen then pr.askWithdrawal else pr).board) rfl
    (s.board_mapPrinters fun p pr => by
      split
      · exact pr.askWithdrawal_lamp
      · rfl)

@[simp] theorem State.board_settleQuiet : s.settleQuiet.board = s.board :=
  s.board_mapPrinters fun _ _ => by split <;> rfl

/-! ## Tickets -/

@[simp] theorem State.board_ticketEnds (p : PrinterId) (f : Ticket) (o : TicketOutcome) (x : TestOutcome) :
    (s.ticketEnds p f o x).board = s.board := by
  unfold State.ticketEnds
  split
  · exact s.board_send ..
  · split
    · exact (State.board_send ..).trans s.board_modPrinter
    · rfl

@[simp] theorem State.board_loseTickets (p : PrinterId) : (s.loseTickets p).board = s.board := by
  have hfold (l : List Ticket) (a : State) : (l.foldl (fun s f => s.loseTicket p f) a).board = a.board := by
    induction l generalizing a with
    | nil => rfl
    | cons f l ih => exact (ih _).trans (by simp [State.loseTicket])
  exact (hfold ..).trans s.board_modPrinter

@[simp] theorem State.board_withdrawStaged (p : PrinterId) (f : Ticket) : (s.withdrawStaged p f).board = s.board := by
  have hslot := s.board_modPrinter (p := p) (f := fun pr => { pr with staged := none, withdrawal := false })
    fun _ => rfl
  simp [State.withdrawStaged, hslot]

@[simp] theorem State.board_discardStaged (p : PrinterId) (f : Ticket) (spoiled : Bool) :
    (s.discardStaged p f spoiled).board = s.board := by
  unfold State.discardStaged
  cases spoiled <;> simp

@[simp] theorem State.board_jam (p : PrinterId) (f : Ticket) (k : Nat) : (s.jam p f k).board = s.board := by
  have hfirst (a : State) (cause : Cause) : (((((a.writeRun f.pack f.serial k cause (some p) f.owner).countJam f.owner
      k).releaseTicket f).backOff p f.owner).ticketEnds p f (.jammed k) (.jammed k)).board = a.board := by
    rw [State.board_ticketEnds, State.board_backOff, State.board_releaseTicket, State.board_countJam,
      State.board_writeRun]
  unfold State.jam
  dsimp only
  split
  · exact (State.board_discardStaged ..).trans ((hfirst ..).trans s.board_modPrinter)
  · exact (hfirst ..).trans s.board_modPrinter

@[simp] theorem State.board_settleJobTicket (p : PrinterId) (f : Ticket) (j : Job) (read : Option Nat)
    (passed : Bool) : (s.settleJobTicket p f j read passed).board = s.board := State.board_send ..

/-! ## Lines and checks -/

@[simp] theorem State.board_endLoadCheck (p : PrinterId) (c : LoadCheck) (o : LoadOutcome) :
    (s.endLoadCheck p c o).board = s.board := (State.board_send ..).trans (State.board_modPrinter _)

@[simp] theorem State.board_endUnloadCheck (p : PrinterId) (c : UnloadCheck) (pack : Option Nat) (o : UnloadOutcome) :
    (s.endUnloadCheck p c pack o).board = s.board := (State.board_send ..).trans s.board_modPrinter

@[simp] theorem State.board_endChecks (p : PrinterId) : (s.endChecks p).board = s.board := by
  unfold State.endChecks
  dsimp only
  cases s.printers[p].loadCheck with
  | none => dsimp only; split <;> simp
  | some c => dsimp only; split <;> simp

@[simp] theorem State.board_linkLoss (p : PrinterId) (link : Link) : (s.linkLoss p link).board = s.board :=
  (State.board_endChecks ..).trans ((State.board_modPrinter _).trans (s.board_loseTickets p))

@[simp] theorem State.board_forceDown (p : PrinterId) : (s.forceDown p).board = s.board := by
  unfold State.forceDown
  cases s.printers[p].link with
  | up => exact s.board_linkLoss ..
  | settling => exact s.board_modPrinter
  | jabber => exact s.board_modPrinter
  | down => rfl

@[simp] theorem State.board_spoilOut (p : PrinterId) : (s.spoilOut p).board = s.board := by
  unfold State.spoilOut
  split
  · exact (State.board_modPrinter _).trans (s.board_spoilRange ..)
  · rfl

@[simp] theorem State.board_compromise (p : PrinterId) : (s.compromise p).board = s.board := by
  unfold State.compromise
  dsimp only
  rw [State.board_emptyPrinter]
  split <;> rfl

@[simp] theorem State.board_settleRange (p : PrinterId) (g : Range) (n : Nat) : (s.settleRange p g n).board = s.board :=
  (State.board_modPrinter _).trans ((State.board_returnBlank ..).trans (s.board_spoilRange ..))

@[simp] theorem State.board_load (p : PrinterId) (c : LoadCheck) : (s.load p c).board = s.board :=
  (State.board_compareCapability ..).trans (State.board_modPrinter _)

/-- No table of the settings touches the fault table or a lamp. -/
theorem State.board_writeEntry (body : List Byte) : Leaves (s.writeEntry body) fun t => t.board = s.board := by
  unfold State.writeEntry
  split
  · exact .need fun _ => .need fun _ => .pure rfl
  · exact .need fun _ => .need fun _ => .want fun _ _ => .need fun _ => .pure rfl
  · exact .want fun _ _ => .pure rfl
  · unfold State.writeFallback
    split
    · exact .pure rfl
    · exact .want fun _ _ => .need fun _ => .pure rfl
  · exact .pure rfl
  · exact .pure (State.board_settleQuiet _)

/-! ## Activity pulses (R168) -/

theorem State.tends_modPrinter {p : PrinterId} {f : Printer → Printer}
    (h : s.printers[p].lamp.Formed → (f s.printers[p]).lamp.Formed) : s.Tends (s.modPrinter p f) :=
  .of_table rfl fun hs q => by
    rw [State.modPrinter_get]
    split
    · exact h (hs p)
    · exact hs q

/-- R168: each PRINT sent starts a pulse. -/
theorem Printer.place_lamp (pr : Printer) (f : Ticket) (stock : StockType) (fields : List (List Byte)) :
    (pr.place f stock fields).lamp = pr.lamp.pulsed := by
  unfold Printer.place
  dsimp only
  split <;> rfl

theorem State.tends_sendTest (p : PrinterId) (k : Pack) (x : TestPrint) : s.Tends (s.sendTest p k x) := by
  unfold State.sendTest
  dsimp only
  refine .trans (.of_board (s.board_assign k)) (State.tends_modPrinter _ fun h => ?_)
  dsimp only
  rw [Printer.place_lamp]
  exact h.pulsed

theorem State.tends_sendJob (p : PrinterId) (k : Pack) (j : Job) : s.Tends (s.sendJob p k j) := by
  unfold State.sendJob
  dsimp only
  refine State.Tends.board (State.Tends.trans (.of_board ?_) (State.tends_modPrinter _ fun h => ?_))
    (State.board_modJob ..)
  · exact (State.board_assign ..).trans (State.board_modShift ..)
  · rw [Printer.place_lamp]
    exact h.pulsed

theorem State.tends_grantOne (p : PrinterId) (k : Pack) : s.Tends (s.grantOne p k) := by
  refine State.Tends.board ?_ (State.board_modPrinter _)
  cases s.choose p with
  | nothing => exact .refl s
  | test x => exact s.tends_sendTest p k x
  | holder j => exact s.tends_sendJob p k j
  | burst j => exact s.tends_sendJob p k j

/-- R168: each PRINTED taken starts a pulse. -/
theorem State.tends_pulse {p : PrinterId} {f : Printer → Printer} (h : ∀ pr, (f pr).lamp = pr.lamp) :
    s.Tends (s.modPrinter p fun pr => (f pr).pulse) :=
  s.tends_modPrinter fun hs => by
    have hlamp : (f s.printers[p]).pulse.lamp = s.printers[p].lamp.pulsed := congrArg Lamp.pulsed (h _)
    rw [hlamp]
    exact hs.pulsed

theorem State.tends_printedJob (p : PrinterId) (f : Ticket) (ref : JobRef) (read : Option Nat) :
    s.Tends (s.printedJob p f ref read) := by
  unfold State.printedJob
  dsimp only
  refine State.Tends.board (State.Tends.board (s.tends_pulse (p := p)
    (f := fun pr => (if read != some f.serial then pr.passReservation f else pr).finishPrinting) fun pr => ?_) ?_)
    (State.board_holdIf ..)
  · rw [Printer.finishPrinting_lamp]
    split
    · exact pr.passReservation_lamp f
    · rfl
  · split
    · exact State.board_settleJobTicket ..
    · rfl

theorem State.tends_printedTest (p : PrinterId) (f : Ticket) (read : Option Nat) :
    s.Tends (s.printedTest p f read) := by
  refine State.Tends.board (s.tends_pulse (p := p) (f := Printer.finishPrinting) Printer.finishPrinting_lamp) ?_
  simp [State.printedTest]

end Sys2Proof.Machine
end

section
/-!
The shells of the commands, and what an operation that ends no step leaves of the outputs and of what they follow
(R167, R168).
-/

namespace Sys2Proof.Machine

variable {s t u : State}

/-! ## Operations beside the outputs -/

@[simp] theorem State.panel_modPort (s : State) (port : Port) (f : PortRecord → PortRecord) :
    (s.modPort port f).panel = s.panel := by
  cases port <;> rfl

@[simp] theorem State.panel_send (s : State) (port : Port) (fs : List Frame) : (s.send port fs).panel = s.panel :=
  s.panel_modPort ..

@[simp] theorem State.panel_sound (s : State) (port : Port) : (s.sound port).panel = s.panel := s.panel_modPort ..

@[simp] theorem State.panel_accept (s : State) (port : Port) (kind : Byte) (tag : Tag) (fields : List Byte) :
    (s.accept port kind tag fields).panel = s.panel := s.panel_send ..

@[simp] theorem State.panel_reply (s : State) (port : Port) (kind : Byte) (tag : Tag) (body : List Byte) :
    (s.reply port kind tag body).panel = s.panel := s.panel_send ..

@[simp] theorem State.panel_refuse (s : State) (port : Port) (code : Code) (kind : Byte) (tag : Tag) :
    (s.refuse port code kind tag).panel = s.panel := s.panel_send ..

@[simp] theorem State.panel_sendShiftState (s : State) (w : Window) : (s.sendShiftState w).panel = s.panel :=
  s.panel_send ..

/-- What the lamp of a printer is and follows, beside the fault table. -/
def Printer.front (pr : Printer) : Lamp × Link × Bool := (pr.lamp, pr.link, pr.outOfService)

theorem State.panel_of_printers (h : t = { s with printers := t.printers })
    (hfront : ∀ p : PrinterId, t.printers[p].front = s.printers[p].front) : t.panel = s.panel := by
  have hlamps : t.printers.map (·.lamp) = s.printers.map (·.lamp) :=
    vecMap_eq fun p => congrArg Prod.fst (hfront p)
  have hlinks : (t.printers.map fun pr => (pr.link, pr.outOfService))
      = s.printers.map fun pr => (pr.link, pr.outOfService) := vecMap_eq fun p => congrArg Prod.snd (hfront p)
  rw [h]
  unfold State.panel State.board
  dsimp only
  rw [hlamps, hlinks]

theorem State.panel_modPrinter (s : State) {p : PrinterId} {f : Printer → Printer}
    (h : ∀ pr, (f pr).front = pr.front := by exact fun _ => rfl) : (s.modPrinter p f).panel = s.panel :=
  State.panel_of_printers rfl fun q => by
    rw [State.modPrinter_get]
    split
    · subst_vars; exact h _
    · rfl

@[simp] theorem State.panel_sendLine (s : State) (p : PrinterId) (f : Frame) : (s.sendLine p f).panel = s.panel :=
  s.panel_modPrinter

@[simp] theorem State.panel_clearFlags (s : State) : s.clearFlags.panel = s.panel :=
  Eq.trans (b := (s.mapPrinters fun _ pr => { pr with flags := .clear }).panel) rfl <|
    State.panel_of_printers rfl fun p => by rw [State.mapPrinters_get]; rfl

/-! ## A lamp that shows the same aspect (R168) -/

/-- The lamp of a printer changes, but not its aspect nor what that follows. -/
theorem State.attends_modLamp (s : State) (p : PrinterId) {l : Lamp}
    (haspect : l.aspect = s.printers[p].lamp.aspect) (hformed : s.printers[p].lamp.Formed → l.Formed) :
    s.Attends (s.modPrinter p fun pr => { pr with lamp := l }) where
  toTends := s.tends_modPrinter hformed
  alarm hs := hs.of_law rfl rfl
  aspects hs q := by
    have hlaw : (s.modPrinter p fun pr => { pr with lamp := l }).lampLaw q = s.lampLaw q := by
      refine State.lampLaw_of_eq rfl ?_ ?_ rfl
      · rw [State.modPrinter_get]; split <;> [(subst_vars; rfl); rfl]
      · rw [State.modPrinter_get]; split <;> [(subst_vars; rfl); rfl]
    rw [hlaw, ← hs q, State.modPrinter_get]
    split
    · subst_vars; exact haspect
    · rfl

/-! ## Conditions of a window that end without the outputs (R154) -/

theorem State.tends_endCondition (s : State) (a : Source) (k : Kind) : s.Tends (s.endCondition a k) := by
  have heq : s.endCondition a k = s.endConditions fun source kind => source == a && kind == k := by
    refine congrArg (fun l => ({ s with reports := l } : State)) (List.map_congr_left fun r _ => ?_)
    exact if_congr (by simp [Report.uncleared_iff]; tauto) rfl rfl
  rw [heq]
  exact s.tends_endConditions _

/-- A report ended is OPEN where it was. -/
theorem Report.ended_opened {r : Report} : r.ended.state = .opened ↔ r.state = .opened := by
  unfold Report.ended
  dsimp only
  split
  · next h => rw [h]; exact ⟨nofun, nofun⟩
  · rfl

theorem State.openCritical_endCondition (s : State) (a : Source) (k : Kind) :
    (s.endCondition a k).openCritical = s.openCritical := by
  unfold State.openCritical State.allReports State.endCondition
  dsimp only
  rw [List.any_append, List.any_append, List.any_map]
  congr 2
  funext r
  rw [Function.comp_apply]
  split
  · rw [Bool.eq_iff_iff]
    simp only [Bool.and_eq_true, beq_iff_eq, Report.ended_opened]
    rfl
  · rfl

/-- R168: a window's report is no printer's trouble. -/
theorem State.attends_endCondition_window (s : State) (w : Window) (k : Kind) :
    s.Attends (s.endCondition (.window w) k) where
  toTends := s.tends_endCondition ..
  alarm hs := hs.of_law rfl <| by
    unfold State.alarmLaw
    rw [State.openCritical_endCondition]
    rfl
  aspects hs p := by
    have htrouble : (s.endCondition (.window w) k).printerInTrouble p = s.printerInTrouble p := by
      unfold State.printerInTrouble State.endCondition
      dsimp only
      rw [List.any_map]
      congr 1
      funext r
      rw [Function.comp_apply]
      split
      · next hr =>
        have hsource : r.source = .window w := (Report.uncleared_iff.1 hr).1
        have hended : r.ended.source = r.source := rfl
        rw [hended, hsource]
        rfl
      · rfl
    have hlaw : (s.endCondition (.window w) k).lampLaw p = s.lampLaw p := State.lampLaw_of_eq rfl rfl rfl htrouble
    exact (hs p).trans hlaw.symm

/-! ## The shells of the commands -/

/-- An answer whose state, if any, keeps the laws of the fault table and of the outputs. -/
def State.Serves (s : State) (a : Answer) : Prop := ∀ t, a = .next t → s.Attends t

theorem State.Serves.next (h : s.Attends t) : s.Serves (.next t) := by
  rintro _ ⟨⟩
  exact h

theorem State.Serves.fault (f : Fault) : s.Serves (.fault f) := by rintro _ ⟨⟩

theorem State.attends_answer {port : Port} {kind : Byte} {tag : Tag} {r : Except Code State}
    (h : Leaves r (s.sound port).Attends) : s.Attends ((s.sound port).answer port kind tag r) :=
  State.Attends.trans (.of_panel (s.panel_sound port)) <| by
    cases r with
    | error code => exact .of_panel (State.panel_refuse ..)
    | ok t => exact h t rfl

theorem windowCommand_attends {kind : Byte} {lo hi : Nat} {port : Port} {tag : Tag} {body : List Byte}
    {act : Window → State → Except Code State} (h : ∀ w a, Leaves (act w a) a.Attends) :
    s.Serves (windowCommand kind lo hi port tag body s act) := by
  refine .next ?_
  split
  · refine State.attends_answer fun t ht => ?_
    cases port with
    | supervisor => cases ht
    | window w =>
      dsimp only at ht
      split at ht
      · exact h w _ t ht
      · cases ht
  · exact .refl s

theorem supervisorCommand_attends {kind : Byte} {lo hi : Nat} {port : Port} {tag : Tag} {body : List Byte}
    {act : State → Except Code State} (h : ∀ a, Leaves (act a) a.Attends) :
    s.Serves (supervisorCommand kind lo hi port tag body s act) := by
  refine .next ?_
  split
  · refine State.attends_answer fun t ht => ?_
    cases port with
    | window w => cases ht
    | supervisor =>
      dsimp only at ht
      split at ht
      · exact h _ t ht
      · cases ht
  · exact .refl s

theorem State.attends_commit (s before : State) (told : List Occurrence) : s.Attends (s.commit before told) :=
  (State.Tends.refl s).ended

/-- A printer's frame that is not expected raises PROTOCOL alone. -/
theorem printerFrame_attends {p : PrinterId} {n : Nat} {body : List Byte} {act : State → Option State}
    (h : ∀ b, act s = some b → s.Attends b) : s.Serves (printerFrame p n body s act) := by
  refine .next ?_
  have hprotocol : s.Attends (s.protocol p) := s.attends_commit ..
  split
  · split
    · cases ha : act s with
      | none => exact hprotocol
      | some b => exact h b ha
    · exact hprotocol
  · exact .refl s

theorem event_attends {occurs : Bool} {act : State → State} (h : s.Attends (act s)) :
    s.Serves (event s occurs act) := by
  refine .next ?_
  split
  · exact h
  · exact .refl s

/-- An event beside the outputs. -/
theorem event_attends_beside {occurs : Bool} {act : State → State} (h : (act s).panel = s.panel) :
    s.Serves (event s occurs act) := event_attends (.of_panel h)

/-- An event beside the fault table and the lamps that ends its step. -/
theorem event_attends_ended {occurs : Bool} {f : State → State} {told : State → List Occurrence}
    (h : (f s).board = s.board) : s.Serves (event s occurs fun s => (f s).commit s (told s)) :=
  event_attends (State.Tends.of_board h).ended

/-- The event of a wait that does not run. -/
theorem event_attends_never {act : State → State} : s.Serves (event s false act) := .next <| by
  rw [Bool.and_false]
  exact .refl s

theorem State.Tends.accept (h : s.Tends t) (port : Port) (kind : Byte) (tag : Tag) (fields : List Byte) :
    s.Tends (t.accept port kind tag fields) := h.board (t.board_accept ..)

/-- A command that is taken beside the outputs, with no end of a step. -/
theorem Leaves.besidePanel (h : t.panel = s.panel) : Leaves (Pure.pure t) s.Attends := .pure (.of_panel h)

/-- ACCEPTED beside the outputs. -/
theorem Leaves.acceptedBesidePanel {port : Port} {kind : Byte} {tag : Tag} {fields : List Byte}
    (h : t.panel = s.panel) : Leaves (Pure.pure (t.accept port kind tag fields)) s.Attends :=
  .besidePanel ((t.panel_accept ..).trans h)

theorem Leaves.repliedBesidePanel {port : Port} {kind : Byte} {tag : Tag} {fields : List Byte} :
    Leaves (Pure.pure (s.reply port kind tag fields)) s.Attends := .besidePanel (s.panel_reply ..)

/-- ACCEPTED, and the end of the step. -/
theorem Leaves.acceptedEndedTending {port : Port} {kind : Byte} {tag : Tag} {fields : List Byte} {before : State}
    {told : List Occurrence} (h : s.Tends t) :
    Leaves (Pure.pure ((t.accept port kind tag fields).commit before told)) s.Attends :=
  .pure (h.accept ..).ended

/-- The end of the step after a change beside the fault table and the lamps. -/
theorem Leaves.endedBesideBoard {before : State} {told : List Occurrence} (h : t.board = s.board) :
    Leaves (Pure.pure (t.commit before told)) s.Attends := .pure (State.Tends.of_board h).ended

end Sys2Proof.Machine
end

section
/-! The end of the day, stopping and the starts (R146, R158, R185 to R187): the laws of the fault table and of the
outputs are kept. -/

namespace Sys2Proof.Machine

variable {s t : State}

/-! ## The end of the day (R93, R146, R158) -/

theorem State.tends_emptyShifts (s : State) : s.Tends s.emptyShifts := by
  unfold State.emptyShifts
  dsimp only
  refine State.Tends.trans ?_ (State.tends_endConditions ..)
  exact .of_board rfl

theorem State.tends_emptySpoils (s : State) : s.Tends s.emptySpoils := by
  unfold State.emptySpoils
  dsimp only
  refine State.Tends.trans ?_ (State.tends_endConditions ..)
  exact .of_board rfl

/-- R158: reports leave the table, and the rest stay as they are. -/
theorem State.tends_removeCleared (s : State) : s.Tends s.removeCleared where
  table hs := hs.of_sublist List.filter_sublist
  numbers hs := by
    have hreserved : (s.reserved.filter (·.state != .cleared)).toList.Sublist s.reserved.toList := by
      cases s.reserved with
      | none => exact .slnil
      | some r => rw [Option.filter_some]; split <;> simp
    exact hs.of_sublist (List.length_filter_le ..) ((List.filter_sublist.append hreserved).map _) rfl
  lamps hs := hs

theorem State.tends_closeDay (s : State) :
    s.Tends { s.emptyShifts.emptySpoils.removeCleared.markDay with dayOpen := false } := by
  have hremoved : s.Tends s.emptyShifts.emptySpoils.removeCleared :=
    (s.tends_emptyShifts.trans (State.tends_emptySpoils _)).trans (State.tends_removeCleared _)
  generalize s.emptyShifts.emptySpoils.removeCleared = closed at hremoved ⊢
  exact hremoved.board rfl

/-! ## A part that does not run (R185) -/

theorem State.alarmLaw_of_stopped (h : s.phase ≠ .running) : s.alarmLaw = false :=
  Bool.eq_false_iff.2 fun hlaw => h (State.alarmLaw_iff.1 hlaw).1

theorem State.lampLaw_of_stopped (h : s.phase ≠ .running) (p : PrinterId) : s.lampLaw p = .off :=
  State.lampLaw_of_dark (.inl h)

/-- R185: a part that does not run stays so. -/
theorem State.Attends.of_stopped (hs : s.phase ≠ .running) (ht : t.phase ≠ .running) (hboard : t.board = s.board)
    (halarm : t.alarm = s.alarm) : s.Attends t where
  toTends := .of_board hboard
  alarm h := h.of_law halarm ((State.alarmLaw_of_stopped ht).trans (State.alarmLaw_of_stopped hs).symm)
  aspects h p := by
    rw [State.board_lamp hboard, h p, State.lampLaw_of_stopped hs, State.lampLaw_of_stopped ht]

theorem State.stop_lamp (s : State) (phase : Phase) (p : PrinterId) : (s.stop phase).printers[p].lamp = .dark :=
  congrArg Printer.lamp (vecGet_map Printer.stop s.printers p)

/-- R185: the part stops with ALARM released and every lamp dark. -/
theorem State.attends_stop (s : State) {phase : Phase} (h : phase ≠ .running) : s.Attends (s.stop phase) where
  toTends := .of_table rfl fun _ p => by
    rw [State.stop_lamp]
    exact Lamp.formed_dark
  alarm _ := State.alarmSound_iff.2 (State.alarmLaw_of_stopped (s := s.stop phase) h).symm
  aspects _ p := by
    rw [State.stop_lamp, State.lampLaw_of_stopped (s := s.stop phase) h]
    rfl

/-! ## The starts (R186, R187) -/

theorem State.reset_tableSound : State.reset.TableSound := ⟨by decide, List.pairwise_singleton ..⟩

theorem State.reset_numbersSound : State.reset.NumbersSound := by unfold State.NumbersSound; decide

theorem State.reset_alarmSound : State.reset.AlarmSound := State.alarmSound_iff.2 (by decide)

theorem State.reset_aspectsSound : State.reset.AspectsSound := fun p => by
  rw [State.lampLaw_of_dark (.inr (.inl (by rw [State.reset_printer]; decide))), State.reset_printer]
  rfl

theorem State.reset_lampsFormed : State.reset.LampsFormed := fun p => by
  rw [State.reset_printer]
  exact Lamp.formed_dark

/-- R186: a cold start leaves what reset leaves. -/
theorem State.attends_coldStart (s : State) (straps : Straps) : s.Attends (s.coldStart straps) :=
  have hreset : State.reset.Attends (s.coldStart straps) := .of_panel rfl
  ⟨⟨fun _ => hreset.table State.reset_tableSound, fun _ => hreset.numbers State.reset_numbersSound,
      fun _ => hreset.lamps State.reset_lampsFormed⟩,
    fun _ => hreset.alarm State.reset_alarmSound, fun _ => hreset.aspects State.reset_aspectsSound⟩

/-- R187: a warm start leaves the fault table, darkens the lamps and ends conditions before the outputs follow. -/
theorem State.attends_warmStart (s : State) (straps : Straps) : s.Attends (s.warmStart straps) := by
  have hlamp (p : PrinterId) : (s.warmReset straps).printers[p].lamp = .dark :=
    congrArg Printer.lamp (vecGet_map Printer.restart s.printers p)
  have hreset : s.Tends (s.warmReset straps) := .of_table rfl fun _ p => by
    rw [hlamp]
    exact Lamp.formed_dark
  rw [State.warmStart_eq]
  exact (hreset.trans (State.tends_endConditions ..)).outputs

theorem State.attends_startAs (s : State) (kind : StartKind) (straps : Straps) : s.Attends (s.startAs kind straps) := by
  cases kind with
  | cold => exact s.attends_coldStart straps
  | warm => exact s.attends_warmStart straps

end Sys2Proof.Machine
end

section
/-! Every command and event, and so every step, keeps the laws of the fault table and of the outputs (O6 to O9). -/

namespace Sys2Proof.Machine

variable {s : State}

/-! ## Shifts, the day, settings and membership -/

theorem execOpenShift_attends (port : Port) (tag : Tag) (body : List Byte) :
    s.Serves (execOpenShift port tag body s) :=
  windowCommand_attends fun _ _ => .need fun _ => .need fun _ => .acceptedBesidePanel rfl

theorem execIssue_attends (port : Port) (tag : Tag) (body : List Byte) : s.Serves (execIssue port tag body s) :=
  windowCommand_attends fun _ _ => .bind fun _ _ => .acceptedBesidePanel rfl

theorem execVoid_attends (port : Port) (tag : Tag) (body : List Byte) : s.Serves (execVoid port tag body s) :=
  windowCommand_attends fun _ _ => .need fun _ => .want fun _ _ => .want fun _ _ => .want fun _ _ =>
    .need fun _ => .need fun _ => .need fun _ => .acceptedEndedTending (.of_board rfl)

theorem execRefund_attends (port : Port) (tag : Tag) (body : List Byte) : s.Serves (execRefund port tag body s) :=
  windowCommand_attends fun _ _ => .need fun _ => .need fun _ => .want fun _ _ => .want fun _ _ =>
    .need fun _ => .acceptedEndedTending (.of_board rfl)

theorem execCloseShift_attends (port : Port) (tag : Tag) (body : List Byte) :
    s.Serves (execCloseShift port tag body s) :=
  windowCommand_attends fun _ _ => .need fun _ => .endedBesideBoard (by simp)

theorem execDeclare_attends (port : Port) (tag : Tag) (body : List Byte) : s.Serves (execDeclare port tag body s) :=
  windowCommand_attends fun _ _ => .need fun _ => .endedBesideBoard ((State.board_send ..).trans rfl)

theorem execReopenCount_attends (port : Port) (tag : Tag) (body : List Byte) :
    s.Serves (execReopenCount port tag body s) :=
  supervisorCommand_attends fun _ => .want fun _ _ => .need fun _ =>
    .besidePanel ((State.panel_sendShiftState ..).trans ((State.panel_accept ..).trans rfl))

theorem execSignOff_attends (port : Port) (tag : Tag) (body : List Byte) : s.Serves (execSignOff port tag body s) :=
  supervisorCommand_attends fun _ => .want fun _ _ => .need fun _ => .need fun _ =>
    .besidePanel ((State.panel_sendShiftState ..).trans ((State.panel_accept ..).trans rfl))

theorem execResolveDispute_attends (port : Port) (tag : Tag) (body : List Byte) :
    s.Serves (execResolveDispute port tag body s) :=
  supervisorCommand_attends fun a => .want fun w _ => .need fun _ => .need fun _ => .want fun _ _ => .need fun _ =>
    .bind fun pack _ => .acceptedEndedTending <| .of_board <| by
      rw [State.board_clearMarkers]
      cases pack with
      | none => rfl
      | some k => exact State.board_writeOff ..

theorem execCloseDay_attends (port : Port) (tag : Tag) (body : List Byte) :
    s.Serves (execCloseDay port tag body s) :=
  supervisorCommand_attends fun a => .need fun _ => .acceptedEndedTending a.tends_closeDay

theorem execWriteEntry_attends (port : Port) (tag : Tag) (body : List Byte) :
    s.Serves (execWriteEntry port tag body s) :=
  supervisorCommand_attends fun a => .bind fun t ht => .acceptedEndedTending (.of_board (a.board_writeEntry body t ht))

theorem execSetClock_attends (port : Port) (tag : Tag) (body : List Byte) :
    s.Serves (execSetClock port tag body s) :=
  supervisorCommand_attends fun _ => .need fun _ => .acceptedBesidePanel rfl

theorem execSetService_attends (port : Port) (tag : Tag) (body : List Byte) :
    s.Serves (execSetService port tag body s) :=
  supervisorCommand_attends fun a => .want fun _ _ => .need fun _ => .need fun _ =>
    .acceptedEndedTending (.of_board a.board_modPrinter)

/-! ## Commands of the windows and the supervisor -/

theorem execCancel_attends (port : Port) (tag : Tag) (body : List Byte) : s.Serves (execCancel port tag body s) :=
  windowCommand_attends fun _ _ => .need fun _ => .endedBesideBoard (by simp)

theorem execQueryShift_attends (port : Port) (tag : Tag) (body : List Byte) :
    s.Serves (execQueryShift port tag body s) := windowCommand_attends fun _ _ => .repliedBesidePanel

theorem execReceivePack_attends (port : Port) (tag : Tag) (body : List Byte) :
    s.Serves (execReceivePack port tag body s) :=
  supervisorCommand_attends fun _ => .need fun _ => .want fun _ _ => .need fun _ => .need fun _ => .need fun _ =>
    .acceptedBesidePanel rfl

theorem execLoadPack_attends (port : Port) (tag : Tag) (body : List Byte) :
    s.Serves (execLoadPack port tag body s) :=
  supervisorCommand_attends fun _ => .want fun _ _ => .want fun _ _ => .need fun _ => .need fun _ => .need fun _ =>
    .need fun _ => .acceptedEndedTending (.of_board ((State.board_sendLine ..).trans (State.board_modPrinter _)))

theorem execUnloadPack_attends (port : Port) (tag : Tag) (body : List Byte) :
    s.Serves (execUnloadPack port tag body s) :=
  supervisorCommand_attends fun _ => .want fun _ _ => .need fun _ => .need fun _ =>
    .acceptedEndedTending (.of_board ((State.board_sendLine ..).trans (State.board_modPrinter _)))

theorem execForceUnload_attends (port : Port) (tag : Tag) (body : List Byte) :
    s.Serves (execForceUnload port tag body s) :=
  supervisorCommand_attends fun _ => .want fun _ _ => .need fun _ => .need fun _ => .endedBesideBoard (by simp)

theorem execWriteOffPack_attends (port : Port) (tag : Tag) (body : List Byte) :
    s.Serves (execWriteOffPack port tag body s) :=
  supervisorCommand_attends fun _ => .want fun _ _ => .need fun _ => .need fun _ =>
    .acceptedEndedTending (.of_board (State.board_writeOff ..))

theorem execRetirePack_attends (port : Port) (tag : Tag) (body : List Byte) :
    s.Serves (execRetirePack port tag body s) :=
  supervisorCommand_attends fun _ => .want fun _ _ => .need fun _ => .acceptedBesidePanel rfl

theorem execReadPack_attends (port : Port) (tag : Tag) (body : List Byte) :
    s.Serves (execReadPack port tag body s) :=
  supervisorCommand_attends fun _ => .bind fun _ _ => .repliedBesidePanel

theorem execTestPrint_attends (port : Port) (tag : Tag) (body : List Byte) :
    s.Serves (execTestPrint port tag body s) :=
  supervisorCommand_attends fun a => .want fun _ _ => .want fun _ _ => .need fun _ => .need fun _ => .need fun _ =>
    .acceptedBesidePanel a.panel_modPrinter

theorem execResetLine_attends (port : Port) (tag : Tag) (body : List Byte) :
    s.Serves (execResetLine port tag body s) :=
  supervisorCommand_attends fun _ => .want fun _ _ => .endedBesideBoard (by simp)

theorem execReadSpoils_attends (port : Port) (tag : Tag) (body : List Byte) :
    s.Serves (execReadSpoils port tag body s) :=
  supervisorCommand_attends fun _ => .need fun _ => .repliedBesidePanel

theorem execReadEntries_attends (port : Port) (tag : Tag) (body : List Byte) :
    s.Serves (execReadEntries port tag body s) :=
  supervisorCommand_attends fun _ => .need fun _ => .want fun _ _ => .need fun _ => .need fun _ => .repliedBesidePanel

theorem execReadShift_attends (port : Port) (tag : Tag) (body : List Byte) :
    s.Serves (execReadShift port tag body s) :=
  supervisorCommand_attends fun _ => .want fun _ _ => .repliedBesidePanel

theorem execOpenDay_attends (port : Port) (tag : Tag) (body : List Byte) :
    s.Serves (execOpenDay port tag body s) :=
  supervisorCommand_attends fun _ => .need fun _ => .acceptedBesidePanel rfl

theorem execNextFault_attends (port : Port) (tag : Tag) (body : List Byte) :
    s.Serves (execNextFault port tag body s) := supervisorCommand_attends fun _ => .repliedBesidePanel

theorem execReadFault_attends (port : Port) (tag : Tag) (body : List Byte) :
    s.Serves (execReadFault port tag body s) :=
  supervisorCommand_attends fun _ => .want fun _ _ => .repliedBesidePanel

/-- R155, R161: a report acknowledged, and the outputs follow. -/
theorem State.tends_acknowledge (s : State) (number : Nat) : s.Tends (s.acknowledge number) where
  table hs := hs.of_moves (Report.moves_acknowledge number) rfl
  numbers hs :=
    have hnumber := (Report.moves_acknowledge number).number
    hs.of_moves hnumber hnumber rfl rfl rfl
  lamps hs := hs

theorem execAckFault_attends (port : Port) (tag : Tag) (body : List Byte) :
    s.Serves (execAckFault port tag body s) :=
  supervisorCommand_attends fun a => .want fun _ _ => .pure ((a.tends_acknowledge _).accept ..).outputs

theorem execReadChanges_attends (port : Port) (tag : Tag) (body : List Byte) :
    s.Serves (execReadChanges port tag body s) := supervisorCommand_attends fun _ => .besidePanel (by simp)

theorem execSilenceAlarm_attends (port : Port) (tag : Tag) (body : List Byte) :
    s.Serves (execSilenceAlarm port tag body s) :=
  supervisorCommand_attends fun _ => .pure <| by
    refine (State.Tends.accept ?_ ..).outputs
    exact .of_board rfl

theorem execSelectEntry_attends (port : Port) (tag : Tag) (body : List Byte) :
    s.Serves (execSelectEntry port tag body s) :=
  supervisorCommand_attends fun _ => .want fun _ _ => .acceptedBesidePanel rfl

theorem execReadEntry_attends (port : Port) (tag : Tag) (body : List Byte) :
    s.Serves (execReadEntry port tag body s) := supervisorCommand_attends fun _ => .repliedBesidePanel

theorem execReadOffice_attends (port : Port) (tag : Tag) (body : List Byte) :
    s.Serves (execReadOffice port tag body s) := supervisorCommand_attends fun _ => .repliedBesidePanel

/-! ## Terminal ports -/

theorem execUnknownKind_attends (port : Port) (kind : Byte) (tag : Tag) :
    s.Serves (execUnknownKind port kind tag s) := by
  unfold execUnknownKind
  split
  · exact .fault _
  · refine .next ?_
    split
    · exact .of_panel (by simp)
    · exact .refl s

theorem State.attends_framingFault (s : State) (port : Port) (frames : List Frame) :
    s.Attends (s.framingFault port frames) := (State.Tends.of_board (by simp)).ended

theorem execFrameError_attends (port : Port) (cause : FramingFault) : s.Serves (execFrameError port cause s) := by
  unfold execFrameError
  split
  · exact .fault _
  · refine .next ?_
    split
    · cases cause with
      | badStart b =>
        dsimp only
        split
        · exact s.attends_framingFault ..
        · exact .refl s
      | badLength l => exact s.attends_framingFault ..
      | badCheck kind tag body check => exact s.attends_framingFault ..
    · exact .refl s

theorem execFrameGap_attends (port : Port) : s.Serves (execFrameGap port s) :=
  event_attends (s.attends_framingFault ..)

theorem execLineBreak_attends (port : Port) : s.Serves (execLineBreak port s) :=
  event_attends <| by
    cases port with
    | supervisor => exact .of_panel (s.panel_modPort ..)
    | window w => exact (State.Tends.of_board ((State.board_endJobs ..).trans (s.board_modPort ..))).ended

theorem execAttach_attends (port : Port) : s.Serves (execAttach port s) :=
  event_attends <| by
    have hgreeted (t : State) (fs : List Frame) (f : PortRecord → PortRecord) (e : t = s.modPort port f) :
        s.Attends (t.send port fs) := .of_panel ((t.panel_send ..).trans (e ▸ s.panel_modPort ..))
    cases port with
    | supervisor => exact hgreeted _ _ _ rfl
    | window w => exact ((hgreeted _ _ _ rfl).trans (State.attends_endCondition_window ..)).panel rfl

theorem execFrameSent_attends (port : Port) : s.Serves (execFrameSent port s) :=
  event_attends_beside (s.panel_modPort ..)

/-! ## Printer frames -/

theorem execCapability_attends (p : PrinterId) (tag : Tag) (body : List Byte) :
    s.Serves (execCapability p tag body s) :=
  printerFrame_attends fun _ h => by
    cases h
    refine (State.Tends.of_board ?_).ended
    split
    · exact s.board_endCapabilityWait ..
    · exact (State.board_compareCapability ..).trans s.board_modPrinter

theorem execStatus_attends (p : PrinterId) (tag : Tag) (body : List Byte) : s.Serves (execStatus p tag body s) :=
  printerFrame_attends fun _ h => by
    cases h
    exact (State.Tends.of_board (s.board_modPrinter fun pr => pr.takeStatus_lamp _)).ended

theorem execJammed_attends (p : PrinterId) (tag : Tag) (body : List Byte) : s.Serves (execJammed p tag body s) :=
  printerFrame_attends fun _ h => by
    split at h
    · split at h
      · cases h
        exact (State.Tends.of_board (s.board_jam ..)).ended
      · cases h
    · cases h

theorem execWithdrawn_attends (p : PrinterId) (tag : Tag) (body : List Byte) :
    s.Serves (execWithdrawn p tag body s) :=
  printerFrame_attends fun _ h => by
    split at h
    · split at h
      · split at h
        · cases h
          exact (State.Tends.of_board (s.board_withdrawStaged ..)).ended
        · cases h
      · cases h
        exact (State.Tends.of_board s.board_modPrinter).ended
    · cases h

theorem execTooLate_attends (p : PrinterId) (tag : Tag) (body : List Byte) : s.Serves (execTooLate p tag body s) :=
  printerFrame_attends fun _ h => by
    dsimp only at h
    split at h
    · split at h
      · split at h
        · cases h
          exact (State.Tends.of_board (s.board_modPrinter Printer.endWithdrawal_lamp)).ended
        · cases h
      · cases h
        exact (State.Tends.of_board s.board_modPrinter).ended
    · cases h

/-! ## TOP -/

theorem State.attends_topLoad (s : State) (p : PrinterId) (c : LoadCheck) (k : Pack) (n : Nat) :
    s.Attends (s.topLoad p c k n) := by
  unfold State.topLoad
  split
  · exact (State.Tends.of_board (by simp)).ended
  · exact (State.Tends.of_board (by simp)).ended

theorem State.attends_topUnload (s : State) (p : PrinterId) (c : UnloadCheck) (k : Pack) (n : Nat) :
    s.Attends (s.topUnload p c k n) := by
  unfold State.topUnload
  split
  · exact (State.Tends.of_board (by simp)).ended
  · split
    · exact (State.Tends.of_board (by simp)).ended
    · exact (State.Tends.of_board (by simp)).ended

theorem State.attends_topRecover (s : State) (p : PrinterId) (g : Range) (n : Nat) :
    s.Attends (s.topRecover p g n) := by
  unfold State.topRecover
  split
  · exact (State.Tends.of_board (s.board_settleRange ..)).ended
  · exact (State.Tends.of_board s.board_modPrinter).ended

theorem State.attends_takeTop {p : PrinterId} {n : Nat} {b : State} (h : s.takeTop p n = some b) : s.Attends b := by
  unfold State.takeTop at h
  dsimp only at h
  split at h
  · obtain ⟨k, -, rfl⟩ := Option.map_eq_some_iff.1 h
    exact s.attends_topLoad ..
  · split at h
    · obtain ⟨k, -, rfl⟩ := Option.map_eq_some_iff.1 h
      exact s.attends_topUnload ..
    · split at h
      · obtain ⟨g, -, hg⟩ := Option.bind_eq_some_iff.1 h
        obtain ⟨k, -, rfl⟩ := Option.map_eq_some_iff.1 hg
        exact s.attends_topRecover ..
      · cases h

theorem execPrinted_attends (p : PrinterId) (tag : Tag) (body : List Byte) : s.Serves (execPrinted p tag body s) :=
  printerFrame_attends fun b h => by
    dsimp only at h
    split at h
    · split at h
      · split at h
        · cases h
          exact (s.tends_printedJob ..).ended
        · cases h
          exact (s.tends_printedTest ..).ended
      · cases h
    · cases h

theorem execTop_attends (p : PrinterId) (tag : Tag) (body : List Byte) : s.Serves (execTop p tag body s) :=
  printerFrame_attends fun _ h => State.attends_takeTop h

/-! ## Printer lines -/

theorem execPrinterFrameError_attends (p : PrinterId) (cause : FramingFault) :
    s.Serves (execPrinterFrameError p cause s) := by
  unfold execPrinterFrameError
  split
  · exact .fault _
  · exact event_attends_ended rfl

theorem execPrinterFrameGap_attends (p : PrinterId) : s.Serves (execPrinterFrameGap p s) :=
  event_attends_ended rfl

theorem execPrinterUnknownKind_attends (p : PrinterId) (kind : Byte) :
    s.Serves (execPrinterUnknownKind p kind s) := by
  unfold execPrinterUnknownKind
  split
  · exact .fault _
  · exact event_attends_ended rfl

theorem execIdleMark_attends (p : PrinterId) : s.Serves (execIdleMark p s) :=
  event_attends_ended s.board_modPrinter

theorem execLinkGap_attends (p : PrinterId) (cause : GapCause) : s.Serves (execLinkGap p cause s) := by
  unfold execLinkGap
  split
  · exact event_attends_ended s.board_modPrinter
  · exact event_attends_beside s.panel_modPrinter
  · exact event_attends_never
  · exact event_attends_never

theorem execSettleTimer_attends (p : PrinterId) : s.Serves (execSettleTimer p s) :=
  event_attends (((State.Tends.of_board s.board_modPrinter).trans (State.tends_endCondition ..)).ended)

theorem execSilenceTimer_attends (p : PrinterId) : s.Serves (execSilenceTimer p s) :=
  event_attends_ended (s.board_linkLoss ..)

theorem execJabber_attends (p : PrinterId) : s.Serves (execJabber p s) := event_attends_ended (s.board_linkLoss ..)

theorem execJabberQuiet_attends (p : PrinterId) : s.Serves (execJabberQuiet p s) :=
  event_attends_ended (s.board_modPrinter fun _ => by split <;> rfl)

/-! ## Printer timers -/

theorem execCapabilityWait_attends (p : PrinterId) : s.Serves (execCapabilityWait p s) :=
  event_attends_ended (s.board_endCapabilityWait ..)

theorem execPrintTimer_attends (p : PrinterId) : s.Serves (execPrintTimer p s) := by
  unfold execPrintTimer
  split
  · exact event_attends_ended ((State.board_modPrinter _).trans (s.board_loseTickets p))
  · exact event_attends_never

theorem execPauseTimer_attends (p : PrinterId) : s.Serves (execPauseTimer p s) := by
  unfold execPauseTimer
  split
  · exact event_attends_ended (s.board_modPrinter fun _ => Printer.askWithdrawal_lamp _)
  · exact event_attends_never

theorem execWithdrawalTimer_attends (p : PrinterId) : s.Serves (execWithdrawalTimer p s) :=
  event_attends_ended (s.board_modPrinter Printer.endWithdrawal_lamp)

theorem execQueryTimer_attends (p : PrinterId) : s.Serves (execQueryTimer p s) := by
  unfold execQueryTimer
  split
  · exact event_attends_beside ((State.panel_sendLine ..).trans s.panel_modPrinter)
  · exact event_attends_ended s.board_modPrinter
  · exact event_attends_never

theorem execLoadAnswerTimer_attends (p : PrinterId) : s.Serves (execLoadAnswerTimer p s) := by
  unfold execLoadAnswerTimer
  split
  · refine event_attends ?_
    split
    · exact .of_panel ((State.panel_sendLine ..).trans s.panel_modPrinter)
    · exact (State.Tends.of_board (s.board_endLoadCheck ..)).ended
  · exact event_attends_never

theorem execUnloadAnswerTimer_attends (p : PrinterId) : s.Serves (execUnloadAnswerTimer p s) := by
  unfold execUnloadAnswerTimer
  split
  · refine event_attends ?_
    split
    · exact .of_panel ((State.panel_sendLine ..).trans s.panel_modPrinter)
    · exact (State.Tends.of_board (s.board_endUnloadCheck ..)).ended
  · exact event_attends_never

/-! ## The queue and the pool -/

theorem execGrant_attends (p : PrinterId) : s.Serves (execGrant p s) :=
  event_attends <| by
    split
    · exact ((State.Tends.of_board (s.board_endRecordFull p)).trans (State.tends_grantOne ..)).ended
    · exact .refl s

theorem execJobWait_attends (w : Window) (tag : Tag) : s.Serves (execJobWait w tag s) := by
  unfold execJobWait
  dsimp only
  split
  · exact event_attends_ended (State.board_send ..)
  · exact event_attends_never

theorem execRouteWait_attends (w : Window) (tag : Tag) : s.Serves (execRouteWait w tag s) := by
  unfold execRouteWait
  dsimp only
  split
  · exact event_attends_beside rfl
  · exact event_attends_never

/-! ## The box -/

theorem execClockPulse_attends : s.Serves (execClockPulse s) := .next (.of_panel rfl)

theorem execAlarmIn_attends (active : Bool) : s.Serves (execAlarmIn active s) := event_attends_ended rfl

theorem execActivityPulse_attends (p : PrinterId) : s.Serves (execActivityPulse p s) := .next <| by
  split
  · next hoccurs =>
    obtain ⟨hon, -⟩ := Bool.and_eq_true_iff.1 (Bool.and_eq_true_iff.1 hoccurs).2
    refine s.attends_modLamp p rfl fun _ => ?_
    exact ⟨fun hoff => absurd ((beq_iff_eq.1 hon).symm.trans hoff) nofun, fun _ => rfl, fun _ => rfl⟩
  · exact .refl s

theorem execFlash_attends (p : PrinterId) : s.Serves (execFlash p s) := .next <| by
  split
  · next hoccurs =>
    have hflash : s.printers[p].lamp.aspect = .flash := beq_iff_eq.1 (Bool.and_eq_true_iff.1 hoccurs).2
    refine s.attends_modLamp p rfl fun h => ?_
    exact ⟨fun hoff => absurd (hflash.symm.trans hoff) nofun, h.pulse, fun hon => absurd (hflash.symm.trans hon) nofun⟩
  · exact .refl s

theorem execResetAsserted_attends : s.Serves (execResetAsserted s) := by
  have hpin : s.Attends { s with resetPin := true } := .of_panel rfl
  refine .next ?_
  dsimp only
  split
  · exact hpin.trans (State.attends_stop _ nofun)
  · exact hpin

theorem execResetReleased_attends (straps : Straps) : s.Serves (execResetReleased straps s) := by
  have hpin : s.Attends { s with resetPin := false } := .of_panel rfl
  refine .next ?_
  dsimp only
  split
  · exact hpin.trans (State.attends_startAs ..)
  · exact hpin
  · exact hpin

theorem execPowerUp_attends (backupGood : Bool) (straps : Straps) : s.Serves (execPowerUp backupGood straps s) :=
  .next <| by
    split
    · next hoff =>
      split
      · exact .of_stopped (by rw [hoff]; nofun) nofun rfl rfl
      · exact s.attends_startAs ..
    · exact .refl s

theorem execPowerFail_attends : s.Serves (execPowerFail s) :=
  .next <| by
    split
    · exact .refl s
    · exact s.attends_stop nofun

/-! ## Every command, every step -/

theorem exec_attends (i : Instr) : s.Serves (exec i s) := by
  cases i with
  | openShift port tag body => exact execOpenShift_attends port tag body
  | issue port tag body => exact execIssue_attends port tag body
  | cancel port tag body => exact execCancel_attends port tag body
  | void port tag body => exact execVoid_attends port tag body
  | refund port tag body => exact execRefund_attends port tag body
  | closeShift port tag body => exact execCloseShift_attends port tag body
  | declare port tag body => exact execDeclare_attends port tag body
  | queryShift port tag body => exact execQueryShift_attends port tag body
  | receivePack port tag body => exact execReceivePack_attends port tag body
  | loadPack port tag body => exact execLoadPack_attends port tag body
  | unloadPack port tag body => exact execUnloadPack_attends port tag body
  | forceUnload port tag body => exact execForceUnload_attends port tag body
  | writeOffPack port tag body => exact execWriteOffPack_attends port tag body
  | retirePack port tag body => exact execRetirePack_attends port tag body
  | readPack port tag body => exact execReadPack_attends port tag body
  | testPrint port tag body => exact execTestPrint_attends port tag body
  | setService port tag body => exact execSetService_attends port tag body
  | resetLine port tag body => exact execResetLine_attends port tag body
  | resolveDispute port tag body => exact execResolveDispute_attends port tag body
  | readSpoils port tag body => exact execReadSpoils_attends port tag body
  | readEntries port tag body => exact execReadEntries_attends port tag body
  | readShift port tag body => exact execReadShift_attends port tag body
  | reopenCount port tag body => exact execReopenCount_attends port tag body
  | signOff port tag body => exact execSignOff_attends port tag body
  | openDay port tag body => exact execOpenDay_attends port tag body
  | closeDay port tag body => exact execCloseDay_attends port tag body
  | nextFault port tag body => exact execNextFault_attends port tag body
  | readFault port tag body => exact execReadFault_attends port tag body
  | ackFault port tag body => exact execAckFault_attends port tag body
  | readChanges port tag body => exact execReadChanges_attends port tag body
  | silenceAlarm port tag body => exact execSilenceAlarm_attends port tag body
  | selectEntry port tag body => exact execSelectEntry_attends port tag body
  | readEntry port tag body => exact execReadEntry_attends port tag body
  | writeEntry port tag body => exact execWriteEntry_attends port tag body
  | setClock port tag body => exact execSetClock_attends port tag body
  | readOffice port tag body => exact execReadOffice_attends port tag body
  | unknownKind port kind tag => exact execUnknownKind_attends port kind tag
  | frameError port cause => exact execFrameError_attends port cause
  | frameGap port => exact execFrameGap_attends port
  | lineBreak port => exact execLineBreak_attends port
  | attach port => exact execAttach_attends port
  | capability printer tag body => exact execCapability_attends printer tag body
  | status printer tag body => exact execStatus_attends printer tag body
  | printed printer tag body => exact execPrinted_attends printer tag body
  | jammed printer tag body => exact execJammed_attends printer tag body
  | withdrawn printer tag body => exact execWithdrawn_attends printer tag body
  | tooLate printer tag body => exact execTooLate_attends printer tag body
  | top printer tag body => exact execTop_attends printer tag body
  | printerFrameError printer cause => exact execPrinterFrameError_attends printer cause
  | printerFrameGap printer => exact execPrinterFrameGap_attends printer
  | idleMark printer => exact execIdleMark_attends printer
  | linkGap printer cause => exact execLinkGap_attends printer cause
  | settleTimer printer => exact execSettleTimer_attends printer
  | silenceTimer printer => exact execSilenceTimer_attends printer
  | jabber printer => exact execJabber_attends printer
  | jabberQuiet printer => exact execJabberQuiet_attends printer
  | capabilityWait printer => exact execCapabilityWait_attends printer
  | printTimer printer => exact execPrintTimer_attends printer
  | pauseTimer printer => exact execPauseTimer_attends printer
  | withdrawalTimer printer => exact execWithdrawalTimer_attends printer
  | queryTimer printer => exact execQueryTimer_attends printer
  | loadAnswerTimer printer => exact execLoadAnswerTimer_attends printer
  | unloadAnswerTimer printer => exact execUnloadAnswerTimer_attends printer
  | grant printer => exact execGrant_attends printer
  | jobWait window tag => exact execJobWait_attends window tag
  | routeWait window tag => exact execRouteWait_attends window tag
  | clockPulse => exact execClockPulse_attends
  | alarmIn active => exact execAlarmIn_attends active
  | activityPulse printer => exact execActivityPulse_attends printer
  | flash printer => exact execFlash_attends printer
  | resetAsserted => exact execResetAsserted_attends
  | resetReleased straps => exact execResetReleased_attends straps
  | powerUp backupGood straps => exact execPowerUp_attends backupGood straps
  | powerFail => exact execPowerFail_attends
  | printerUnknownKind printer kind => exact execPrinterUnknownKind_attends printer kind
  | frameSent port => exact execFrameSent_attends port

/-- The queue of waiting commands is beside the outputs. -/
theorem step_attends {t : State} (h : step s = .next t) : s.Attends t := by
  unfold step at h
  split at h
  · cases h
    exact .refl s
  · next c rest _ =>
    have hqueue : s.Attends { s with pending := rest } := .of_panel rfl
    exact hqueue.trans (exec_attends c t h)

/-- Settles O6, the end of a step making ALARM what its terms say; what ends no step leaves ALARM and its terms. -/
theorem stepKeepsAlarm : Obligations.StepKeepsAlarm := fun _ _ hs h => (step_attends h).alarm hs

/-- Settles O7, the end of a step giving each lamp the aspect its printer calls for; the pulses and FLASH keep it. -/
theorem stepKeepsLamps : Obligations.StepKeepsLamps := fun _ _ hs h => by
  obtain ⟨haspects, hformed⟩ := State.lampsSound_iff.1 hs
  exact State.lampsSound_iff.2 ⟨(step_attends h).aspects haspects, (step_attends h).lamps hformed⟩

/-- Settles O8, an occurrence raised coalescing where an uncleared report of its source and kind stands, and making
room before it makes a report. -/
theorem stepKeepsFaultTable : Obligations.StepKeepsFaultTable := fun _ _ hs h => (step_attends h).table hs

/-- Settles O9, a new report taking the counter's number and the counter moving past every number in use. -/
theorem stepKeepsReportNumbers : Obligations.StepKeepsReportNumbers := fun _ _ hs h => (step_attends h).numbers hs

end Sys2Proof.Machine
end

section
/-! The alarm contact, the activity pulses and FLASH (R166, R168). -/

namespace Sys2Proof.Machine

variable {s : State} {active : Bool} {p : PrinterId}

/-- R166: an active contact raises EXTERNAL_ALARM, one that was not active before. -/
theorem State.told_externalAlarm {before : State} {told : List Occurrence} (hbefore : before.alarmIn = false)
    (hnow : s.alarmIn = true) : (s.commit before told).Told .office .externalAlarm :=
  s.commit_condition (List.mem_append_right _ (List.mem_cons_of_mem _ (List.mem_singleton.2 rfl))) hbefore hnow

theorem execAlarmIn_changed (hr : s.phase = .running) (h : s.alarmIn ≠ active) :
    execAlarmIn active s = .next (({ s with alarmIn := active } : State).commit s []) :=
  event_occurs hr (bne_iff_ne.2 h.symm)

theorem execAlarmIn_same (h : s.alarmIn = active) : execAlarmIn active s = .next s :=
  event_passes (.inr (bne_eq_false_iff_eq.2 h.symm))

theorem execActivityPulse_ends (hr : s.phase = .running) (hon : s.printers[p].lamp.aspect = .on)
    (hpulse : s.printers[p].lamp.pulse = true) : execActivityPulse p s =
      .next (s.modPrinter p fun pr => { pr with lamp := { pr.lamp with lit := true, pulse := false } }) :=
  event_occurs hr (Bool.and_eq_true_iff.2 ⟨beq_iff_eq.2 hon, hpulse⟩)

theorem execActivityPulse_passes (h : s.printers[p].lamp.aspect ≠ .on ∨ s.printers[p].lamp.pulse = false) :
    execActivityPulse p s = .next s :=
  event_passes (.inr (Bool.and_eq_false_iff.2 (h.imp_left beq_eq_false_iff_ne.2)))

theorem execFlash_toggles (hr : s.phase = .running) (h : s.printers[p].lamp.aspect = .flash) : execFlash p s =
    .next (s.modPrinter p fun pr => { pr with lamp := { pr.lamp with lit := !pr.lamp.lit } }) :=
  event_occurs hr (beq_iff_eq.2 h)

theorem execFlash_passes (h : s.printers[p].lamp.aspect ≠ .flash) : execFlash p s = .next s :=
  event_passes (.inr (beq_eq_false_iff_ne.2 h))

/-- Settles O60: the contact taken as changed ends its step, and a lamp event writes its own printer's lamp. -/
theorem contactAndLamps : Obligations.ContactAndLamps := by
  refine ⟨fun s active hr => ⟨fun hne => ?_, execAlarmIn_same⟩, fun s p hr =>
    ⟨execActivityPulse_ends hr, execActivityPulse_passes, execFlash_toggles hr, execFlash_passes⟩⟩
  refine ⟨_, execAlarmIn_changed hr hne, State.commit_settled .., fun hactive => ?_⟩
  have hbefore : s.alarmIn = false := Bool.eq_false_iff.2 fun h => hne (h.trans hactive.symm)
  exact State.told_externalAlarm hbefore hactive

end Sys2Proof.Machine
end

section
/-!
The supervisor's commands on the fault table (R155, R161, R163, R167), and what an occurrence raised leaves of the
table, the window ports and the silencing (R153, R156, R157, R165).
-/

namespace Sys2Proof.Machine

variable {s u : State} {o : Occurrence}

/-! ## ACK FAULT, READ CHANGES and SILENCE ALARM -/

/-- R167, R168: the outputs recomputed follow the state they are recomputed in. -/
theorem State.shown_outputs (u : State) : State.Shown u u.outputs :=
  ⟨u.outputs_alarm, fun p => by rw [State.outputs_printer, State.outputs_lampLaw], rfl⟩

/-- R155: an OPEN report is acknowledged, any other left. -/
theorem Report.acknowledge_eq (r : Report) : r.acknowledge = if r.state = .opened then
    { r with state := if r.active = some true then .acknowledged else .cleared } else r := by
  unfold Report.acknowledge
  cases h : r.state <;> rfl

/-- R155, R161: ACK FAULT on a report, by its number. -/
def Report.acknowledgedAs (number : Nat) (x : Report) : Report :=
  if x.number = number ∧ x.state = .opened then
    { x with state := if x.active = some true then .acknowledged else .cleared }
  else x

theorem Report.acknowledge_of_number (number : Nat) :
    (fun x : Report => if x.number = number then x.acknowledge else x) = Report.acknowledgedAs number := by
  funext x
  unfold Report.acknowledgedAs
  rw [Report.acknowledge_eq, ite_and]

theorem State.acknowledge_eq (s : State) (number : Nat) : s.acknowledge number = { s with
    reports := s.reports.map (Report.acknowledgedAs number)
    reserved := s.reserved.map (Report.acknowledgedAs number) } := by
  unfold State.acknowledge
  rw [Report.acknowledge_of_number]

theorem execAckFault_ok {tag : Tag} {number : Nat} {r : Report} (h : s.Hears .supervisor) (hn : number < 65536)
    (hr : s.allReports.find? (·.number == number) = some r) :
    execAckFault .supervisor tag (be 2 number) s = .next (State.outputs (({ s with
      reports := s.reports.map (Report.acknowledgedAs number)
      reserved := s.reserved.map (Report.acknowledgedAs number) } : State).answered .supervisor
        (acceptedFrame 0x34#8 tag (be 2 number ++ be 1 (r.acknowledgedAs number).state.code)))) := by
  have hnumber : r.number = number := by simpa using List.find?_some hr
  have hmoved : r.acknowledge = r.acknowledgedAs number := by
    rw [← Report.acknowledge_of_number]
    exact (if_pos hnumber).symm
  refine supervisorCommand_ok h rfl ?_
  rw [num_be_only hn]
  refine (want_bind hr).trans (congrArg (fun t => Except.ok (State.outputs t)) ?_)
  rw [hmoved]
  exact accept_eq_answered (State.acknowledge_eq ..) h.listens

/-- R163: every change flag clear. -/
def State.flagsCleared (s : State) : State :=
  { s with
    windowFlags := Vector.replicate 12 { line := false, shift := false }
    printers := s.printers.map fun pr => { pr with
      flags := { link := false, service := false, stock := false, conditions := false } } }

theorem State.clearFlags_eq (s : State) : s.clearFlags = s.flagsCleared := by
  have hprinters : (s.mapPrinters fun _ pr => { pr with flags := .clear }).printers = s.flagsCleared.printers :=
    vector_ext_get fun p => by
      rw [State.mapPrinters_get]
      unfold State.flagsCleared
      dsimp only
      rw [vecGet_map]
      rfl
  exact congrArg (fun printers => ({ s with windowFlags := Vector.replicate 12 .clear, printers } : State)) hprinters

theorem execReadChanges_ok {tag : Tag} (h : s.Hears .supervisor) : execReadChanges .supervisor tag [] s =
    .next (s.flagsCleared.answered .supervisor { kind := 0x90#8, tag := tag, body := s.changesBody }) := by
  refine supervisorCommand_ok h rfl (congrArg Except.ok ?_)
  rw [State.clearFlags_eq]
  exact congrArg State.flagsCleared (State.sound_send h.listens _)

theorem execSilenceAlarm_ok {tag : Tag} (h : s.Hears .supervisor) : execSilenceAlarm .supervisor tag [] s =
    .next (({ s with silenced := true } : State).answered .supervisor (acceptedFrame 0x36#8 tag [])).outputs :=
  supervisorCommand_ok h rfl <| congrArg (fun t => Except.ok (State.outputs t)) <|
    accept_eq_answered (v := { s with silenced := true }) rfl h.listens

/-! ## What an occurrence tells (R165, R167) -/

/-- R165: an occurrence concerns a window. -/
def State.routes (s : State) (o : Occurrence) (w : Window) : Bool :=
  match o.source with
  | .printer p => decide (s.routing[p].minimum.rank ≤ o.kind.severity.rank) && s.routing[p].windows.getLsbD w.val
  | .window x => x == w && o.kind != .frameError
  | .office => o.kind.severity == .critical

/-- R165, R167: NOTICE of an occurrence under a number to the windows it concerns, and the silencing ended by a
CRITICAL one. -/
def State.noticed (s : State) (o : Occurrence) (number : Nat) (u : State) : State := { u with
  ports := Vector.ofFn fun w : Window => s.ports[w].push (if s.routes o w then
      [⟨0x84#8, 0#8, be 2 number ++ be 1 o.source.code ++ be 1 o.kind.code ++ be 1 o.kind.severity.rank⟩]
    else [])
  silenced := s.silenced && o.kind.severity != .critical }

/-- A report is announced as the occurrence it has taken. -/
theorem State.announce_eq {r : Report} (hsource : r.source = o.source) (hkind : r.kind = o.kind)
    (hports : u.ports = s.ports) (hrouting : u.routing = s.routing) (hsilenced : u.silenced = s.silenced) :
    u.announce r = s.noticed o r.number u := by
  have hconcerns (w : Window) : u.concerns r w = s.routes o w := by
    unfold State.concerns State.routes Report.severity
    cases ho : o.source <;> simp only [hsource, hkind, hrouting, ho]
  unfold State.announce State.noticed State.sendWindows noticeFrame Report.severity
  simp only [hconcerns, hports, hsilenced, hsource, hkind]
  rfl

/-- R165: a fold is told to no window, and ends no silencing. -/
theorem State.announce_full {r : Report} (hsource : r.source = .office) (hkind : r.kind = .tableFull) :
    u.announce r = u := by
  have hports : (u.sendWindows fun w => if u.concerns r w then [noticeFrame r] else []).ports = u.ports :=
    vector_ext_get fun w => by
      have hquiet : u.concerns r w = false := by
        unfold State.concerns Report.severity
        rw [hsource, hkind]
        rfl
      rw [State.sendWindows_get, hquiet]
      exact PortRecord.push_nil _
  have hsilenced : (u.silenced && r.kind.severity != .critical) = u.silenced := by
    rw [hkind]
    exact Bool.and_true _
  exact congrArg₂ (fun ports silenced => ({ u with ports, silenced } : State)) hports hsilenced

/-! ## What an occurrence leaves (R153, R156, R157) -/

theorem Report.coalesce_eq {r : Report} (hkind : r.kind = o.kind) (now : Stamp) : r.coalesce o now = { r with
    state := .opened, repeats := min (r.repeats + 1) 255, lastAt := now
    active := if o.kind.isCondition then some true else none
    serial := o.serial, pack := o.pack, window := o.window, jobTag := o.jobTag, recount := o.recount } := by
  rw [← hkind]
  rfl

/-- R157: a TABLE_FULL report takes the occurrence. -/
theorem Report.folds_eq {r : Report} (hkind : r.kind = .tableFull) (now : Stamp) : r.folds o now = { r with
    state := .opened, repeats := min (r.repeats + 1) 255, lastAt := now, active := none, serial := none, pack := none
    window := o.charged, jobTag := none, recount := none, folded := some (o.source, o.kind) } := by
  unfold Report.folds
  rw [Report.coalesce_eq (o := o.full) hkind]
  rfl

/-- R153: the occurrence coalesces into the one report of its source and kind. -/
theorem State.raise_coalesces {before after : List Report} {r : Report} (hreports : s.reports = before ++ r :: after)
    (hr : r.uncleared o.source o.kind = true)
    (hothers : ∀ x ∈ before ++ after, ¬x.uncleared o.source o.kind = true) :
    s.raise o = s.noticed o r.number { s with reports := before ++ r.coalesce o s.clock :: after } := by
  obtain ⟨hsource, hkind, -⟩ := Report.uncleared_iff.1 hr
  have hbefore (x) (hx : x ∈ before) := hothers x (List.mem_append_left _ hx)
  have hafter (x) (hx : x ∈ after) := hothers x (List.mem_append_right _ hx)
  have hfind : s.reports.find? (fun x => x.uncleared o.source o.kind) = some r := by
    rw [hreports, List.find?_append, List.find?_eq_none.2 hbefore,
      List.find?_cons_of_pos (p := fun x : Report => x.uncleared o.source o.kind) hr]
    rfl
  have hkeep (l : List Report) (hl : ∀ x ∈ l, ¬x.uncleared o.source o.kind = true) :
      (l.map fun x => if x.uncleared o.source o.kind then x.coalesce o s.clock else x) = l :=
    (List.map_congr_left fun x hx => if_neg (hl x hx)).trans (List.map_id' l)
  have hmerged : (s.reports.map fun x => if x.uncleared o.source o.kind then x.coalesce o s.clock else x)
      = before ++ r.coalesce o s.clock :: after := by
    rw [hreports, List.map_append, List.map_cons, hkeep before hbefore, hkeep after hafter, if_pos hr]
  rw [State.raise_of_same hfind]
  unfold State.coalesceReport
  dsimp only
  rw [hmerged]
  exact State.announce_eq hsource hkind rfl rfl rfl

/-- R153: a new report after those that stay, under the counter's number. -/
def State.joins (s : State) (o : Occurrence) (rest : List Report) : State :=
  let u : State := { s with reports := rest ++ [Report.create s.counter o s.clock] }
  s.noticed o s.counter { u with counter := u.movedCounter }

theorem State.createReport_eq (rest : List Report) :
    ({ s with reports := rest } : State).createReport o = s.joins o rest :=
  State.announce_eq rfl rfl rfl rfl rfl

theorem List.eraseP_first {α : Type} {test : α → Bool} {before after : List α} {x : α} (hx : test x = true)
    (hbefore : ∀ y ∈ before, ¬test y = true) : (before ++ x :: after).eraseP test = before ++ after := by
  rw [List.eraseP_append_right _ hbefore, List.eraseP_cons_of_pos hx]

/-- R156: the first report that a test picks gives way. -/
theorem State.evictFor_eq {test : Report → Bool} {before after : List Report} {r : Report}
    (hreports : s.reports = before ++ r :: after) (hr : test r = true) (hbefore : ∀ x ∈ before, ¬test x = true) :
    s.evictFor o test = s.joins o (before ++ after) := by
  unfold State.evictFor
  rw [hreports, List.eraseP_first hr hbefore]
  exact State.createReport_eq _

/-- R157: an OPEN reserved report takes the occurrence. -/
theorem State.foldReport_takes {r : Report} (h : s.reserved = some r) (hsource : r.source = .office)
    (hkind : r.kind = .tableFull) (hopen : r.state = .opened) :
    s.foldReport o = { s with reserved := some (r.folds o s.clock) } := by
  rw [State.foldReport_of_open h hopen]
  exact State.announce_full hsource hkind

/-- R157: where no reserved report is OPEN a new one takes the occurrence. -/
theorem State.foldReport_makes (h : ∀ r ∈ s.reserved, r.state ≠ .opened) : s.foldReport o = s.reserving o := by
  rw [State.foldReport_of_none h]
  exact State.announce_full rfl rfl

/-- Settles O43, command by command, and for an occurrence by what the table holds of its source and kind. -/
theorem faultTableCommands : Obligations.FaultTableCommands := by
  refine ⟨fun s tag number r h hn hr => ⟨_, execAckFault_ok h hn hr, State.shown_outputs _⟩,
    fun s tag h => execReadChanges_ok h, fun s tag h => ⟨_, execSilenceAlarm_ok h, State.shown_outputs _⟩, ?_, ?_⟩
  · intro s o
    have hsame (x : Report) : x.uncleared o.source o.kind = true ↔ x.source = o.source ∧ x.kind = o.kind
        ∧ x.state ≠ .cleared := Report.uncleared_iff
    have hyields (x : Report) : x.yieldsTo o.kind = true ↔ x.state = .acknowledged
        ∧ x.kind.severity.rank < o.kind.severity.rank := Report.yieldsTo_iff
    simp only [← hsame, ← hyields]
    refine ⟨fun before after r hreports hr hothers => ?_, fun hnone => ⟨fun hroom => ?_, fun hfull =>
      ⟨fun before after r hreports hr hbefore => ?_, fun hkept => ⟨fun before after r hreports hr hbefore => ?_,
        fun hnever => ⟨fun r hreserved hsource hkind hopen => ?_, fun hclosed => ?_⟩⟩⟩⟩⟩
    · rw [State.raise_coalesces hreports hr hothers, Report.coalesce_eq (Report.uncleared_iff.1 hr).2.1]
      rfl
    · rw [State.raise_of_room hnone hroom]
      exact State.createReport_eq s.reports
    · rw [State.raise_of_cleared hnone hfull ⟨r, hreports ▸ List.mem_append_cons_self, hr⟩]
      exact State.evictFor_eq hreports (beq_iff_eq.2 hr) fun x hx h => hbefore x hx (beq_iff_eq.1 h)
    · rw [State.raise_of_yielding hnone hfull hkept ⟨r, hreports ▸ List.mem_append_cons_self, hr⟩]
      exact State.evictFor_eq hreports hr hbefore
    · rw [State.raise_of_full hnone hfull hkept hnever, State.foldReport_takes hreserved hsource hkind hopen,
        Report.folds_eq hkind, ← hopen]
      rfl
    · rw [State.raise_of_full hnone hfull hkept hnever]
      exact State.foldReport_makes hclosed
  · intro s hroom hpos hmax
    obtain ⟨i, hi, hmoved, hfree, hused⟩ := s.movedCounter_spec hroom hpos hmax
    exact ⟨i, hi, hmoved, hfree, fun m hm hlt => hused m hlt hm⟩

end Sys2Proof.Machine
end

section
/-! The bytes that a layout of R183 prescribes, and the pieces that the replies are built from. -/

namespace Sys2Proof.Machine

/-- The bytes of a layout: its numbers one after the other, each high byte first in its width. -/
def layoutBytes (fields : List (Nat × Nat)) : List Byte := fields.flatMap fun x => be x.1 x.2

/-- R183: a body is laid out in the fields whose bytes it is. -/
theorem laid_of_eq {fields : List (Nat × Nat)} {body : List Byte} (h : body = layoutBytes fields) :
    Laid fields body := by
  subst h
  induction fields with
  | nil => rfl
  | cons x fields ih => exact (laid_be_append x.1 x.2 fields _).2 ih

@[simp] theorem layoutBytes_nil : layoutBytes [] = [] := rfl

@[simp] theorem layoutBytes_cons (x : Nat × Nat) (fields : List (Nat × Nat)) :
    layoutBytes (x :: fields) = be x.1 x.2 ++ layoutBytes fields := rfl

@[simp] theorem layoutBytes_append (f g : List (Nat × Nat)) :
    layoutBytes (f ++ g) = layoutBytes f ++ layoutBytes g := List.flatMap_append

/-- The layout of a list of items, each in its fields. -/
theorem layoutBytes_flatMap {α : Type} {fields : α → List (Nat × Nat)} {bytes : α → List Byte}
    (h : ∀ x, bytes x = layoutBytes (fields x)) (l : List α) :
    layoutBytes (l.flatMap fields) = (l.map bytes).flatten := by
  unfold layoutBytes
  rw [List.flatMap_assoc, ← List.flatMap_def]
  exact congrArg (l.flatMap ·) (funext fun x => (h x).symm)

/-- The layout of a list of items, each in one field. -/
theorem layoutBytes_map {α : Type} (field : α → Nat × Nat) (l : List α) :
    layoutBytes (l.map field) = (l.map fun x => be (field x).1 (field x).2).flatten := by
  unfold layoutBytes
  rw [List.flatMap_map, List.flatMap_def]

/-! ## Fields (R183) -/

theorem be_one (n : Nat) : be 1 n = [BitVec.ofNat 8 n] := rfl

theorem be_one_toNat (b : Byte) : be 1 b.toNat = [b] := by
  rw [be_one, BitVec.ofNat_toNat, BitVec.setWidth_eq]

theorem beBool_eq (b : Bool) : beBool b = be 1 b.toNat := by cases b <;> rfl

theorem bytes_flatten {α : Type} (number : α → Nat) (l : List α) :
    (l.map fun x => be 1 (number x)).flatten = l.map fun x => BitVec.ofNat 8 (number x) := by
  induction l with
  | nil => rfl
  | cons x l ih => exact congrArg (BitVec.ofNat 8 (number x) :: ·) ih

/-- An absent field holds the greatest number of its width. -/
theorem absent_eq (width : Nat) : absent width = be width (256 ^ width - 1) := by
  induction width with
  | zero => rfl
  | succ width ih =>
    have hpos : 0 < 256 ^ width := by positivity
    have hrest : (256 ^ (width + 1) - 1) / 256 = 256 ^ width - 1 := by rw [Nat.pow_succ]; omega
    have hlast : BitVec.ofNat 8 (256 ^ (width + 1) - 1) = 0xFF#8 := by
      refine BitVec.eq_of_toNat_eq ?_
      rw [BitVec.toNat_ofNat, BitVec.toNat_ofNat, Nat.pow_succ]
      omega
    rw [be, hrest, hlast, ← ih]
    exact List.replicate_succ'

theorem beOpt_eq (width : Nat) (n : Option Nat) : beOpt width n = be width (n.getD (256 ^ width - 1)) := by
  cases n with
  | none => exact absent_eq width
  | some n => rfl

theorem beStamp_eq (t : Stamp) : beStamp t = layoutBytes [(3, t.time), (2, t.day)] := by simp [beStamp]

theorem absent_add (a b : Nat) : absent (a + b) = absent a ++ absent b := List.replicate_add ..

/-- The fields of an optional time. -/
def stampFields (t : Option Stamp) : List (Nat × Nat) :=
  t.elim [(3, 256 ^ 3 - 1), (2, 256 ^ 2 - 1)] fun t => [(3, t.time), (2, t.day)]

theorem beStampOpt_eq (t : Option Stamp) : beStampOpt t = layoutBytes (stampFields t) := by
  cases t with
  | none => rfl
  | some t => exact beStamp_eq t

theorem allPrinters_eq : allPrinters = List.finRange 8 := by decide

theorem allWindows_eq : allWindows = List.finRange 12 := by decide

/-! ## Records -/

theorem SpoilRun.bytes_eq (r : SpoilRun) : r.bytes = layoutBytes ([(2, r.pack), (3, r.first), (2, r.count),
    (1, r.cause.code), (1, (r.printer.map (·.val)).getD (256 ^ 1 - 1)),
    (1, (r.charged.map (·.window.val)).getD (256 ^ 1 - 1)), (1, (r.charged.map (·.tag.toNat)).getD (256 ^ 1 - 1))]
      ++ [(3, r.time.time), (2, r.time.day)]) := by
  simp [SpoilRun.bytes, bePrinter, beOpt_eq, beStamp_eq]

theorem entryBytes_eq (number : Nat) (e : Entry) : entryBytes number e = layoutBytes [(1, number),
    (1, e.allowance.code), (1, e.tag.toNat), (2, e.pack), (3, e.first), (1, e.count), (3, e.unit),
    (1, e.tender.code), (1, e.concession.val), (1, e.split.val), (1, e.disputed.toNat),
    (3, e.readSerial.getD (256 ^ 3 - 1)), (1, e.writtenOff.toNat)] := by
  simp [entryBytes, beBool_eq, beOpt_eq, be_one_toNat]

theorem voidBytes_eq (place : Nat) (v : VoidRecord) : voidBytes place v = layoutBytes
    ([(1, place), (2, v.pack), (3, v.serial)] ++ [(3, v.time.time), (2, v.time.day)]) := by
  simp [voidBytes, beStamp_eq]

/-- The items of a list from a starting index, each after its place. -/
theorem placed_eq {α : Type} (items : List α) (start count : Nat) : placed items start count =
    ((items.zipIdx.drop start).take count).map fun x => (x.2, x.1) := by
  rw [placed, List.map_take, List.map_drop]

/-! ## Bodies -/

variable (s : State)

theorem Declaration.bytes_eq (d : Declaration) : d.bytes = layoutBytes (
    [(4, d.declared.cash), (4, d.declared.card), (4, d.declared.warrant),
      (5, (d.expected.cash % (256 ^ 5 : Nat)).toNat), (5, (d.expected.card % (256 ^ 5 : Nat)).toNat),
      (5, (d.expected.warrant % (256 ^ 5 : Nat)).toNat), (4, d.tolerances.cash), (4, d.tolerances.card),
      (4, d.tolerances.warrant), (4, (d.variances.cash % (256 ^ 4 : Nat)).toNat),
      (4, (d.variances.card % (256 ^ 4 : Nat)).toNat), (4, (d.variances.warrant % (256 ^ 4 : Nat)).toNat),
      (1, d.classes.cash.code), (1, d.classes.card.code), (1, d.classes.warrant.code), (1, d.result.code),
      (1, d.status.code), (1, d.recount)] ++ [(3, d.time.time), (2, d.time.day)]) := by
  simp [Declaration.bytes, beInt, beStamp_eq]

theorem Report.bytes_eq (r : Report) : r.bytes = layoutBytes (
    [(2, r.number), (1, r.source.code), (1, r.kind.code), (1, r.kind.severity.rank), (1, r.state.code)]
      ++ [(3, r.firstAt.time), (2, r.firstAt.day)] ++ [(3, r.lastAt.time), (2, r.lastAt.day)]
      ++ [(1, r.repeats), (1, (r.active.map (·.toNat)).getD (256 ^ 1 - 1)), (3, r.serial.getD (256 ^ 3 - 1)),
        (2, r.pack.getD 0), (1, (r.window.map (·.val)).getD (256 ^ 1 - 1)),
        (1, (r.jobTag.map (·.toNat)).getD (256 ^ 1 - 1)), (1, r.recount.getD (256 ^ 1 - 1)),
        (1, (r.folded.map (·.1.code)).getD (256 ^ 1 - 1)), (1, (r.folded.map (·.2.code)).getD (256 ^ 1 - 1))]) := by
  have hactive : r.active.elim (absent 1) beBool = be 1 ((r.active.map (·.toNat)).getD (256 ^ 1 - 1)) := by
    cases r.active with
    | none => rfl
    | some b => exact beBool_eq b
  simp [Report.bytes, Report.severity, hactive, beOpt_eq, bePack, beStamp_eq]

theorem Printer.officeBytes_eq (pr : Printer) : pr.officeBytes = layoutBytes (
    [(1, pr.link.code), (1, pr.service.code), (1, (!pr.pool).toNat), (1, pr.outOfService.toNat),
      (2, pr.loaded.getD 0)]
    ++ (match pr.capability with
      | none => [(1, 0), (1, 256 ^ 1 - 1), (1, 256 ^ 1 - 1), (1, 256 ^ 1 - 1), (2, 256 ^ 2 - 1)]
      | some c => [(1, if c.basic then 2 else 1), (1, c.types.toNat), (1, c.maxBody), (1, c.staging.toNat),
          (2, c.model)])
    ++ [(1, pr.printing.toList.length + pr.staged.toList.length),
      (1, match pr.range with | none => 0 | some g => if g.disputed then 2 else 1)]) := by
  have hslots : pr.tickets.length = pr.printing.toList.length + pr.staged.toList.length := List.length_append
  have habsent : absent 5 = be 1 255 ++ be 1 255 ++ be 1 255 ++ be 2 65535 := rfl
  cases hcapability : pr.capability <;> cases hrange : pr.range <;>
    simp [Printer.officeBytes, hcapability, hrange, hslots, habsent, beBool_eq, bePack]

/-- R163, R172: the number of OPEN reports and their highest severity. -/
theorem State.openBytes_eq : s.openBytes = layoutBytes [(1, s.allReports.countP (·.state == .opened)),
    (1, (s.highestOpen.map (·.rank)).getD (256 ^ 1 - 1))] := by
  simp [State.openBytes, State.openCount, beOpt_eq]

theorem State.queryBody_eq (w : Window) : s.queryBody w = layoutBytes ((1, s.shifts[w].state.code)
    :: stampFields s.shifts[w].openedAt
    ++ [(2, s.shifts[w].tickets), (2, s.shifts[w].voidCount), (2, s.shifts[w].refunds), (2, s.shifts[w].spoils),
      (1, s.shifts[w].mainEntries), (1, s.shifts[w].disputedEntries), (1, s.shifts[w].standing),
      (1, s.shifts[w].freeDisputed), (1, s.liveJobs w), (1, s.shifts[w].limited.toNat), (1, s.shifts[w].recount)]) := by
  simp [State.queryBody, beStampOpt_eq, beBool_eq]

/-- The fields of a declaration, where there is one. -/
theorem declaration_bytes {d : Option Declaration} {fields : Declaration → List (Nat × Nat)}
    (h : ∀ d, d.bytes = layoutBytes (fields d)) :
    d.elim (absent 62) Declaration.bytes = layoutBytes (d.elim [(62, 256 ^ 62 - 1)] fields) := by
  cases d with
  | none =>
    rw [Option.elim_none, Option.elim_none, absent_eq, layoutBytes_cons, layoutBytes_nil, List.append_nil]
  | some d => exact h d

theorem State.shiftBody_eq (w : Window) {fields : Declaration → List (Nat × Nat)}
    (h : ∀ d, d.bytes = layoutBytes (fields d)) : s.shiftBody w = layoutBytes (
      [(1, w.val), (1, s.shifts[w].state.code), (4, s.shifts[w].float)] ++ stampFields s.shifts[w].openedAt
        ++ stampFields s.shifts[w].signedOffAt
        ++ [(4, (s.shifts[w].tenders.cash % (256 ^ 4 : Nat)).toNat),
          (4, (s.shifts[w].tenders.card % (256 ^ 4 : Nat)).toNat),
          (4, (s.shifts[w].tenders.warrant % (256 ^ 4 : Nat)).toNat)]
        ++ s.shifts[w].heads.toList.map (fun i : Int => (4, (i % (256 ^ 4 : Nat)).toNat))
        ++ [(2, s.shifts[w].tickets), (2, s.shifts[w].voidCount), (2, s.shifts[w].refunds), (2, s.shifts[w].spoils),
          (1, s.shifts[w].limited.toNat), (1, s.shifts[w].reservations), (1, s.shifts[w].recount),
          (1, s.shifts[w].mainEntries), (1, s.shifts[w].disputedEntries), (1, s.shifts[w].standing),
          (1, s.shifts[w].voids.length), (1, s.liveJobs w)]
        ++ s.shifts[w].declaration.elim [(62, 256 ^ 62 - 1)] fields) := by
  have hheads : (s.shifts[w].heads.toList.map (beInt 4)).flatten
      = layoutBytes (s.shifts[w].heads.toList.map fun i : Int => (4, (i % (256 ^ 4 : Nat)).toNat)) := by
    rw [layoutBytes_map]
    rfl
  rw [layoutBytes_append, ← declaration_bytes h]
  unfold State.shiftBody
  dsimp only
  generalize s.shifts[w].declaration.elim (absent 62) Declaration.bytes = declared
  simp only [hheads, beStampOpt_eq, beBool_eq, beInt, layoutBytes_append, layoutBytes_cons,
    layoutBytes_nil, List.append_nil, List.append_assoc]

end Sys2Proof.Machine
end

section
/-! NEXT FAULT's report (R159), the rest of the replies, and the codes (R159, R183). -/

namespace Sys2Proof.Machine

variable {s : State}

/-! ## The report NEXT FAULT reads (R159) -/

theorem State.openAt_pos {v : Severity} :
    0 < s.openAt v ↔ ∃ r ∈ s.allReports, r.state = .opened ∧ r.kind.severity = v := by
  unfold State.openAt Report.severity
  simp [List.countP_pos_iff]

/-- R159: there are OPEN reports of the highest severity, and of none above it. -/
theorem State.highestOpen_some {v : Severity} (h : s.highestOpen = some v) :
    0 < s.openAt v ∧ ∀ w : Severity, 0 < s.openAt w → w.rank ≤ v.rank := by
  unfold State.highestOpen at h
  split_ifs at h with hcritical hfault hwarning hinfo <;> cases h
  · exact ⟨hcritical, fun w _ => by cases w <;> decide⟩
  · refine ⟨hfault, fun w hw => ?_⟩
    cases w with
    | critical => exact absurd hw hcritical
    | fault | warning | info => decide
  · refine ⟨hwarning, fun w hw => ?_⟩
    cases w with
    | critical => exact absurd hw hcritical
    | fault => exact absurd hw hfault
    | warning | info => decide
  · refine ⟨hinfo, fun w hw => ?_⟩
    cases w with
    | critical => exact absurd hw hcritical
    | fault => exact absurd hw hfault
    | warning => exact absurd hw hwarning
    | info => decide

theorem State.highestOpen_none (h : s.highestOpen = none) (v : Severity) : ¬0 < s.openAt v := by
  unfold State.highestOpen at h
  split_ifs at h with hcritical hfault hwarning hinfo
  cases v with
  | critical => exact hcritical
  | fault => exact hfault
  | warning => exact hwarning
  | info => exact hinfo

/-- R159: the report read is the first of the OPEN ones of the highest severity. -/
theorem State.nextReport_some {r : Report} (h : s.nextReport = some r) :
    ∃ before after, s.allReports = before ++ r :: after ∧ r.state = .opened
      ∧ (∀ x ∈ before, x.state = .opened → x.kind.severity.rank < r.kind.severity.rank)
      ∧ ∀ x ∈ after, x.state = .opened → x.kind.severity.rank ≤ r.kind.severity.rank := by
  obtain ⟨v, hv, hfind⟩ := Option.bind_eq_some_iff.1 h
  obtain ⟨-, hhighest⟩ := State.highestOpen_some hv
  obtain ⟨hr, before, after, hreports, hbefore⟩ := List.find?_eq_some_iff_append.1 hfind
  obtain ⟨hopen, hsev⟩ : r.state = .opened ∧ r.kind.severity = v := by
    simpa [Report.severity] using hr
  have hmost (x : Report) (hx : x ∈ s.allReports) (hxopen : x.state = .opened) :
      x.kind.severity.rank ≤ v.rank := hhighest _ (State.openAt_pos.2 ⟨x, hx, hxopen, rfl⟩)
  have hrank {a b : Severity} (hne : a ≠ b) : a.rank ≠ b.rank := by
    revert hne
    cases a <;> cases b <;> decide
  rw [hsev]
  refine ⟨before, after, hreports, hopen, fun x hx hxopen => ?_, fun x hx hxopen => ?_⟩
  · have hother : x.kind.severity ≠ v := by
      have := hbefore x hx
      simpa [hxopen, Report.severity] using this
    exact lt_of_le_of_ne (hmost x (hreports ▸ List.mem_append_left _ hx) hxopen) (hrank hother)
  · exact hmost x (hreports ▸ List.mem_append_right _ (List.mem_cons_of_mem _ hx)) hxopen

/-- R159: none is read only where none is OPEN. -/
theorem State.nextReport_none : s.nextReport = none ↔ ∀ r ∈ s.allReports, r.state ≠ .opened := by
  constructor
  · intro h r hr hopen
    have hpos : 0 < s.openAt r.kind.severity := State.openAt_pos.2 ⟨r, hr, hopen, rfl⟩
    cases hv : s.highestOpen with
    | none => exact State.highestOpen_none hv _ hpos
    | some v =>
      obtain ⟨x, hx, hxopen, hxsev⟩ := State.openAt_pos.1 (State.highestOpen_some hv).1
      have hnever := List.find?_eq_none.1 (Option.bind_eq_none_iff.1 h v hv) x hx
      exact hnever (by simp [hxopen, hxsev, Report.severity])
  · intro h
    cases hv : s.highestOpen with
    | none => rw [State.nextReport, hv, Option.bind_none]
    | some v =>
      obtain ⟨x, hx, hxopen, -⟩ := State.openAt_pos.1 (State.highestOpen_some hv).1
      exact absurd hxopen (h x hx)

/-! ## The rest of the replies -/

theorem Frame.line_eq (f : Frame) : f.line = layoutBytes (
    [(1, 0xA5), (1, f.body.length + 2), (1, f.kind.toNat), (1, f.tag.toNat)]
      ++ f.body.map (fun b => (1, b.toNat)) ++ [(2, (checkOf (covered f.kind f.tag f.body)).toNat)]) := by
  have hbody : layoutBytes (f.body.map fun b => (1, b.toNat)) = f.body := by
    rw [layoutBytes_map, bytes_flatten]
    simp
  have hstart : be 1 0xA5 = [Config.startByte] := rfl
  have hcovered : covered f.kind f.tag f.body = BitVec.ofNat 8 (f.body.length + 2) :: f.kind :: f.tag :: f.body := rfl
  simp only [layoutBytes_append, hbody, layoutBytes_cons, layoutBytes_nil, be_one_toNat, hstart,
    be_one (f.body.length + 2)]
  rw [Frame.line, hcovered]
  simp

theorem State.packBody_eq (s : State) (i : Nat) (k : Pack) : s.packBody i k = layoutBytes (
    [(1, i), (2, k.id), (1, k.stock.val), (3, k.first), (3, k.last), (3, k.next), (1, k.location.code),
      (1, (k.location.printer.map (·.val)).getD (256 ^ 1 - 1)), (1, (k.loadCheck.map (·.val)).getD (256 ^ 1 - 1)),
      (1, (k.compromisedAt.map (·.val)).getD (256 ^ 1 - 1)), (2, k.issued), (2, k.spoiled), (1, s.held k.id),
      (2, k.last + 1 - k.next), (3, k.dayMark)] ++ [(3, k.received.time), (2, k.received.day)]) := by
  simp [State.packBody, bePrinter, beOpt_eq, beStamp_eq, Pack.unused]

theorem State.spoilsBody_eq (s : State) (start count : Nat) {fields : SpoilRun → List (Nat × Nat)}
    (h : ∀ r, r.bytes = layoutBytes (fields r)) : s.spoilsBody start count
      = layoutBytes ((2, s.spoils.length) :: ((s.spoils.drop start).take count).flatMap fields) := by
  rw [layoutBytes_cons, layoutBytes_flatMap h]
  rfl

theorem Shift.entriesBody_entries (h : Shift) (start count : Nat) {fields : Entry × Nat → List (Nat × Nat)}
    (hfields : ∀ x, entryBytes x.2 x.1 = layoutBytes (fields x)) : h.entriesBody false start count
      = layoutBytes ((1, h.entries.length) :: (1, 0) :: ((h.entries.zipIdx.drop start).take count).flatMap fields) := by
  rw [layoutBytes_cons, layoutBytes_cons, layoutBytes_flatMap hfields, Shift.entriesBody, if_neg nofun, placed_eq,
    List.map_map]
  rfl

theorem Shift.entriesBody_voids (h : Shift) (start count : Nat) {fields : VoidRecord × Nat → List (Nat × Nat)}
    (hfields : ∀ x, voidBytes x.2 x.1 = layoutBytes (fields x)) : h.entriesBody true start count
      = layoutBytes ((1, h.voids.length) :: (1, 1) :: ((h.voids.zipIdx.drop start).take count).flatMap fields) := by
  rw [layoutBytes_cons, layoutBytes_cons, layoutBytes_flatMap hfields, Shift.entriesBody, if_pos rfl, placed_eq,
    List.map_map]
  rfl

theorem State.faultBody_eq (s : State) (r : Option Report) (following : Nat) {fields : Report → List (Nat × Nat)}
    (h : ∀ r, r.bytes = layoutBytes (fields r)) : s.faultBody r following = layoutBytes (
      (1, r.isSome.toNat) :: r.elim [(28, 0)] fields ++ [(2, following), (1, s.openAt .info), (1, s.openAt .warning),
        (1, s.openAt .fault), (1, s.openAt .critical)]) := by
  have hreport : r.elim (be 28 0) Report.bytes = layoutBytes (r.elim [(28, 0)] fields) := by
    cases r with
    | none => rfl
    | some r => exact h r
  rw [layoutBytes_append, layoutBytes_cons, ← hreport]
  simp [State.faultBody, beBool_eq]

theorem State.changesBody_eq (s : State) {rest : List (Nat × Nat)} (hrest : s.openBytes = layoutBytes rest) :
    s.changesBody = layoutBytes (
      s.printers.toList.map (fun pr => (1, pr.flags.link.toNat + 2 * pr.flags.service.toNat
        + 4 * pr.flags.stock.toNat + 8 * pr.flags.conditions.toNat))
      ++ s.windowFlags.toList.map (fun f => (1, f.line.toNat + 2 * f.shift.toNat)) ++ rest) := by
  rw [layoutBytes_append, layoutBytes_append, layoutBytes_map, layoutBytes_map, bytes_flatten, bytes_flatten, ← hrest,
    vector_toList, vector_toList, List.map_ofFn, List.map_ofFn, List.ofFn_eq_map, List.ofFn_eq_map,
    ← allPrinters_eq, ← allWindows_eq]
  rfl

theorem State.officeBody_eq (s : State) {fields : Printer → List (Nat × Nat)}
    (h : ∀ pr, pr.officeBytes = layoutBytes (fields pr)) : s.officeBody = layoutBytes (
      [(3, s.clock.time), (2, s.clock.day)] ++ [(1, s.clockUnset.toNat), (1, if s.lastStart = .cold then 0 else 1),
        (1, s.speed.val), (1, s.dayOpen.toNat), (1, s.hold.toNat), (2, s.spoils.length), (1, s.jobs.length),
        (1, s.alarm.toNat), (1, s.silenced.toNat), (1, s.alarmIn.toNat)] ++ s.printers.toList.flatMap fields) := by
  have hprinters : (allPrinters.map fun p => s.printers[p].officeBytes).flatten
      = layoutBytes (s.printers.toList.flatMap fields) := by
    rw [layoutBytes_flatMap h, vector_toList, List.map_ofFn, List.ofFn_eq_map, ← allPrinters_eq]
    rfl
  rw [layoutBytes_append, ← hprinters]
  simp [State.officeBody, beStamp_eq, beBool_eq]

theorem Concession.bytes_eq (c : Concession) :
    c.bytes = layoutBytes [(1, c.valid.toNat), (2, c.discount), (3, c.minimum), (1, c.step)] := by
  simp [Concession.bytes, beBool_eq]

/-- The unused places of a split are absent (log 18). -/
theorem unused_parts (n : Nat) : absent (4 * n)
    = layoutBytes (List.replicate n [(1, 256 ^ 1 - 1), (3, 256 ^ 3 - 1)]).flatten := by
  induction n with
  | zero => rfl
  | succ n ih =>
    rw [Nat.mul_succ, Nat.add_comm, absent_add, ih, List.replicate_succ, List.flatten_cons, layoutBytes_append]
    rfl

theorem Split.bytes_eq (split : Split) : split.bytes = layoutBytes ((1, split.length)
    :: split.flatMap (fun part => [(1, part.head.val), (3, part.share)])
      ++ (List.replicate (4 - split.length) [(1, 256 ^ 1 - 1), (3, 256 ^ 3 - 1)]).flatten) := by
  have hparts : (split.map fun part => be 1 part.head.val ++ be 3 part.share).flatten
      = layoutBytes (split.flatMap fun part => [(1, part.head.val), (3, part.share)]) :=
    (layoutBytes_flatMap (fun part => by simp) split).symm
  rw [Split.bytes, unused_parts, hparts, layoutBytes_append, layoutBytes_cons]

theorem Route.bytes_eq (r : Route) : r.bytes = layoutBytes [(2, r.windows.toNat), (1, r.minimum.rank)] := by
  simp [Route.bytes]

theorem bePrinter_eq (p : Option PrinterId) :
    bePrinter p = layoutBytes [(1, (p.map (·.val)).getD (256 ^ 1 - 1))] := by
  simp [bePrinter, beOpt_eq]

theorem Limits.bytes_eq (l : Limits) : l.bytes = layoutBytes [(1, l.burst), (1, l.pause), (2, l.routeWait),
    (2, l.jobWait), (2, l.lowStock), (1, l.latches.toNat), (1, l.alarmEnable.toNat)] := by
  simp [Limits.bytes, beBool_eq]

/-- R159: the severities of OPEN reports are coded by their ranks. -/
theorem State.highestOpen_rank (s : State) : s.highestOpen.map (·.rank) =
    if 0 < s.openAt .critical then some 3 else if 0 < s.openAt .fault then some 2
    else if 0 < s.openAt .warning then some 1 else if 0 < s.openAt .info then some 0 else none := by
  unfold State.highestOpen
  split_ifs <;> rfl

/-- Settles O32, reply by reply as the bytes of its layout. -/
theorem repliesAreAsLaidDown : Obligations.RepliesAreAsLaidDown := by
  refine ⟨fun f _ => laid_of_eq f.line_eq, fun s => ?_⟩
  have hopen : s.openBytes = layoutBytes [(1, s.allReports.countP (·.state == .opened)),
      (1, (if 0 < s.openAt .critical then some 3 else if 0 < s.openAt .fault then some 2
        else if 0 < s.openAt .warning then some 1 else if 0 < s.openAt .info then some 0 else none).getD
          (256 ^ 1 - 1))] := by
    rw [← State.highestOpen_rank]
    exact s.openBytes_eq
  refine ⟨State.nextReport_none, fun r => State.nextReport_some, fun w => ⟨laid_of_eq (s.queryBody_eq w),
    laid_of_eq (s.shiftBody_eq w Declaration.bytes_eq), fun start count =>
      ⟨laid_of_eq (Shift.entriesBody_entries _ start count fun x => entryBytes_eq x.2 x.1),
        laid_of_eq (Shift.entriesBody_voids _ start count fun x => voidBytes_eq x.2 x.1)⟩⟩,
    fun i k => laid_of_eq ?_, fun start count => laid_of_eq (s.spoilsBody_eq start count SpoilRun.bytes_eq),
    fun r following => laid_of_eq (s.faultBody_eq r following Report.bytes_eq),
    laid_of_eq (s.changesBody_eq hopen), laid_of_eq ?_, laid_of_eq ?_, fun i =>
      ⟨laid_of_eq (Concession.bytes_eq _), fun _ => laid_of_eq (Split.bytes_eq _)⟩,
    fun p => laid_of_eq (Route.bytes_eq _), fun t => laid_of_eq (bePrinter_eq _), fun t => laid_be _ _,
    laid_of_eq (Limits.bytes_eq _), rfl, rfl, rfl, rfl, rfl, rfl, rfl, rfl, fun _ => rfl, fun _ => rfl, rfl⟩
  · rw [s.packBody_eq]
    cases k.location <;> rfl
  · show beBool s.dayOpen ++ s.openBytes = _
    rw [beBool_eq, hopen]
    rfl
  · have hoffice := s.officeBody_eq Printer.officeBytes_eq
    rw [State.hold_eq] at hoffice
    exact hoffice

end Sys2Proof.Machine
end

section
/-! Framing faults of a terminal port: when each is answered and what it raises (R174). -/

namespace Sys2Proof.Machine

variable {s : State} {port : Port} {cause : FramingFault}

/-! ## The receiver hunting again -/

theorem State.modPort_congr {f g : PortRecord → PortRecord} (h : f (s.port port) = g (s.port port)) :
    s.modPort port f = s.modPort port g := by
  cases port with
  | supervisor => exact congrArg (fun r => ({ s with svPort := r } : State)) h
  | window w => exact congrArg (fun r => ({ s with ports := s.ports.set w r } : State)) h

/-- An attached port that goes back to hunting has the frames that fall due then. -/
theorem State.hunting_send (h : s.Hears port) (frames : List Frame) :
    (s.modPort port fun r => { r with rx := .hunting }).send port frames
      = s.modPort port fun r => { r with rx := .hunting, tx := r.tx ++ frames } := by
  unfold State.send
  rw [State.modPort_modPort]
  exact State.modPort_congr (if_pos h.2)

/-- A framing fault that is acted on: the port hunts, has its answer, and FRAME_ERROR is told. -/
theorem settled_of_framingFault {a : Answer} {frames : List Frame} (h : s.Hears port)
    (ha : a = .next (s.framingFault port frames)) :
    ∃ t, a = .next t
      ∧ State.Settled s (s.modPort port fun r => { r with rx := .hunting, tx := r.tx ++ frames }) t
        [{ source := portSource port, kind := .frameError }]
      ∧ t.Told (portSource port) .frameError :=
  settled_of_raising ha (State.hunting_send h frames)

/-! ## What each fault answers -/

theorem execFrameError_illFormed (hg : genuine cause false = false) :
    execFrameError port cause s = .fault .illFormed := by
  unfold execFrameError
  rw [hg]
  rfl

/-- A bad start is passed over unless the receiver is fresh (log 25). -/
theorem execFrameError_passes {b : Byte} (h : s.Hears port) (hg : genuine (.badStart b) false = true)
    (hrx : (s.port port).rx ≠ .fresh) : execFrameError port (.badStart b) s = .next s := by
  unfold execFrameError
  rw [hg, Bool.not_true, if_neg Bool.false_ne_true, if_pos h.listens]
  exact congrArg _ (if_neg hrx)

theorem execFrameError_answers (h : s.Hears port) (hg : genuine cause false = true)
    (hc : (∀ b, cause ≠ .badStart b) ∨ (s.port port).rx = .fresh) :
    execFrameError port cause s = .next (s.framingFault port [frameRefusal]) := by
  unfold execFrameError
  rw [hg, Bool.not_true, if_neg Bool.false_ne_true, if_pos h.listens]
  cases cause with
  | badStart b => exact congrArg _ (if_pos (hc.resolve_left fun hb => hb b rfl))
  | badLength length => rfl
  | badCheck kind tag body check => rfl

theorem execFrameGap_hears (h : s.Hears port) : execFrameGap port s = .next (s.framingFault port []) :=
  event_occurs h.1 h.2

/-- Settles O24, fault by fault: a bad start by the state of the receiver, the others whatever it is. -/
theorem framingFaults : Obligations.FramingFaults := by
  intro s port h
  refine ⟨fun cause hg => ⟨?_, fun hc => settled_of_framingFault h (execFrameError_answers h hg hc)⟩,
    settled_of_framingFault h (execFrameGap_hears h)⟩
  rintro ⟨b, rfl⟩ hrx
  exact execFrameError_passes h hg hrx

end Sys2Proof.Machine
end

section
/-! Every command whose operands describe an event of its row has a next state (section 9.5, R175, R182). -/

namespace Sys2Proof.Machine

variable {s : State} {p : PrinterId}

/-- The part does not stop. -/
def Answer.Proceeds (a : Answer) : Prop := ∃ t, a = .next t

theorem Answer.Proceeds.next {t : State} : Answer.Proceeds (.next t) := ⟨t, rfl⟩

/-! ## Frames -/

/-- A command of a terminal port: on a deaf port, on a port of the other class, with a body too short or too long,
refused by a check of its rule, or taken. -/
theorem exec_frame_proceeds {c : Instr} {f : FrameRow} (hf : s.frame c = some f) : Answer.Proceeds (exec c s) := by
  obtain ⟨deaf, wrongSide, wrongLength⟩ := exec_checksFrame hf
  by_cases hears : s.Hears f.port
  case neg => exact ⟨_, deaf hears⟩
  by_cases side : f.port = .supervisor ↔ f.supervisor = true
  case neg =>
    have other := (not_iff_comm.1 (not_iff.1 side)).symm
    exact ⟨_, wrongSide hears (other.trans (Bool.not_eq_true _).to_iff)⟩
  by_cases length : f.lo ≤ f.body.length ∧ f.body.length ≤ f.hi
  case neg => exact ⟨_, wrongLength hears side (by omega)⟩
  obtain ⟨refused, taken⟩ := refuses_of_frame hf ⟨hears, side, length.1, length.2⟩
  cases hc : firstFailing (s.checks c) with
  | some code => exact ⟨_, refused code hc⟩
  | none =>
    obtain ⟨t, _, _, ht, _⟩ := taken hc
    exact ⟨t, ht⟩

theorem exec_printerFrame_proceeds {c : Instr} {body : List Byte} {n : Nat}
    (hf : printerFrameOf c = some (p, body, n)) : Answer.Proceeds (exec c s) := by
  obtain ⟨act, e⟩ := exec_printerFrame (s := s) hf
  rw [e]
  exact .next

/-! ## Events that their operands may not describe (log 27) -/

theorem execUnknownKind_illFormed {port : Port} {kind : Byte} {tag : Tag} (hk : commandKind kind = true) :
    execUnknownKind port kind tag s = .fault .illFormed := if_pos hk

theorem execPrinterFrameError_illFormed {cause : FramingFault} (hg : genuine cause true = false) :
    execPrinterFrameError p cause s = .fault .illFormed := by
  unfold execPrinterFrameError
  rw [hg]
  rfl

theorem execPrinterUnknownKind_illFormed {kind : Byte} (hk : printerKind kind = true) :
    execPrinterUnknownKind p kind s = .fault .illFormed := if_pos hk

theorem execUnknownKind_proceeds {port : Port} {kind : Byte} {tag : Tag} (hk : commandKind kind = false) :
    Answer.Proceeds (execUnknownKind port kind tag s) := by
  by_cases h : s.Hears port
  · exact ⟨_, execUnknownKind_refuses hk h⟩
  · exact ⟨_, execUnknownKind_deaf hk h⟩

theorem execFrameError_proceeds {port : Port} {cause : FramingFault} (hg : genuine cause false = true) :
    Answer.Proceeds (execFrameError port cause s) := by
  unfold execFrameError
  rw [hg]
  exact .next

theorem execPrinterFrameError_proceeds {cause : FramingFault} (hg : genuine cause true = true) :
    Answer.Proceeds (execPrinterFrameError p cause s) := by
  unfold execPrinterFrameError
  rw [hg]
  exact .next

theorem execPrinterUnknownKind_proceeds {kind : Byte} (hk : printerKind kind = false) :
    Answer.Proceeds (execPrinterUnknownKind p kind s) := by
  unfold execPrinterUnknownKind
  rw [hk]
  exact .next

/-! ## Every command -/

/-- An event that is no frame: those whose operands may describe none, those that read a record first and do not
occur with none there (log 2), and those whose answer is a next state outright. -/
theorem exec_event_proceeds {c : Instr} (hw : c.wellFormed = true) (hf : s.frame c = none)
    (hp : printerFrameOf c = none) : Answer.Proceeds (exec c s) := by
  cases c with
  | unknownKind port kind tag => exact execUnknownKind_proceeds (Bool.not_eq_true' _ ▸ hw)
  | frameError port cause => exact execFrameError_proceeds hw
  | printerFrameError p cause => exact execPrinterFrameError_proceeds hw
  | printerUnknownKind p kind => exact execPrinterUnknownKind_proceeds (Bool.not_eq_true' _ ▸ hw)
  | linkGap | printTimer | pauseTimer | queryTimer | loadAnswerTimer | unloadAnswerTimer | jobWait | routeWait =>
    dsimp only [exec, execLinkGap, execPrintTimer, execPauseTimer, execQueryTimer, execLoadAnswerTimer,
      execUnloadAnswerTimer, execJobWait, execRouteWait]
    split <;> exact .next
  | frameGap | lineBreak | attach | frameSent | printerFrameGap | idleMark | settleTimer | silenceTimer | jabber
  | jabberQuiet | capabilityWait | withdrawalTimer | grant | clockPulse | alarmIn | activityPulse | flash
  | resetAsserted | resetReleased | powerUp | powerFail => exact .next
  | capability | status | printed | jammed | withdrawn | tooLate | top => cases hp
  | _ => cases hf

theorem exec_proceeds {c : Instr} (hw : c.wellFormed = true) : Answer.Proceeds (exec c s) := by
  cases hf : s.frame c with
  | some f => exact exec_frame_proceeds hf
  | none =>
    cases hp : printerFrameOf c with
    | some row => exact exec_printerFrame_proceeds hp
    | none => exact exec_event_proceeds hw hf hp

/-- Settles O3: frames of the ports, frames of the printers and events in turn, then the four rows whose operands
can be ill formed. -/
theorem wellFormedCommandsComplete : Obligations.WellFormedCommandsComplete :=
  ⟨fun _ _ => exec_proceeds, fun _ _ _ _ => execUnknownKind_illFormed, fun _ _ _ => execFrameError_illFormed,
    fun _ _ _ => execPrinterFrameError_illFormed, fun _ _ _ => execPrinterUnknownKind_illFormed⟩

end Sys2Proof.Machine
end

section
/-! Stops, the retention control and the office clock (R185, R188). -/

namespace Sys2Proof.Machine

variable {s : State}

/-! ## RESET and main power -/

theorem execResetAsserted_running (h : s.phase = .running) :
    execResetAsserted s = .next (({ s with resetPin := true } : State).stop (.held .warm)) :=
  congrArg _ (if_pos (State.running_iff.2 h))

theorem execResetAsserted_stopped (h : s.phase ≠ .running) :
    execResetAsserted s = .next { s with resetPin := true } :=
  congrArg _ (if_neg (mt State.running_iff.1 h))

/-- R185: the release of RESET starts a part that is held, and no other (log 31). -/
theorem execResetReleased_unheld (straps : Straps) (h : s.phase = .running ∨ s.phase = .off) :
    execResetReleased straps s = .next { s with resetPin := false } := by
  unfold execResetReleased
  rcases h with hrunning | hoff
  · rw [hrunning]
  · rw [hoff]

theorem execPowerFail_powered (h : s.phase ≠ .off) : execPowerFail s = .next (s.stop .off) :=
  congrArg _ (if_neg h)

theorem execPowerFail_off (h : s.phase = .off) : execPowerFail s = .next s := congrArg _ (if_pos h)

theorem execPowerUp_powered (good : Bool) (straps : Straps) (h : s.phase ≠ .off) :
    execPowerUp good straps s = .next s := congrArg _ (if_neg h)

/-! ## The clock -/

/-- R188: the second of the day and the day wrap as remainders. -/
theorem Stamp.tick_eq {c : Stamp} (htime : c.time < 86400) (hday : c.day < 65536) :
    c.tick = { time := (c.time + 1) % 86400
               day := if c.time = 86399 then (c.day + 1) % 65536 else c.day } := by
  unfold Stamp.tick Config.secondsPerDay Config.dayNumbers
  by_cases hmidnight : c.time = 86399
  · have hwrap : (if 65536 ≤ c.day + 1 then 0 else c.day + 1) = (c.day + 1) % 65536 := by
      split <;> omega
    rw [if_pos (by omega), if_pos hmidnight, hmidnight, hwrap]
  · rw [if_neg (by omega), if_neg hmidnight, Nat.mod_eq_of_lt (by omega)]

/-- Settles O46, by the phase in which RESET or main power changes, and by the seconds before midnight. -/
theorem stopsAndClock : Obligations.StopsAndClock := by
  refine ⟨?_, fun _ => execResetAsserted_stopped, fun _ => execResetReleased_unheld, fun _ => execPowerFail_off,
    fun _ => execPowerUp_powered, fun s htime hday => ?_⟩
  · rintro s c phase pin (⟨rfl, hrunning, rfl, rfl⟩ | ⟨rfl, hpowered, rfl, rfl⟩)
    · exact execResetAsserted_running hrunning
    · exact execPowerFail_powered hpowered
  · exact congrArg (fun now => Host.Outcome.next { s with clock := now }) (Stamp.tick_eq htime hday)

end Sys2Proof.Machine
end

section
/-! The laws that every step keeps, at reset (R186). -/

namespace Sys2Proof.Machine

theorem State.reset_lampsSound : State.reset.LampsSound :=
  State.lampsSound_iff.2 ⟨State.reset_aspectsSound, State.reset_lampsFormed⟩

/-- R92: with no run written, the most that eight printers can owe is within the room. -/
theorem State.reset_spoilsSound : State.reset.SpoilsSound := by
  refine ⟨State.reset_stockSound, ?_⟩
  have hdue := State.reset_stockSound.sum_runsDue_le
  have hnone : State.reset.spoils.length = 0 := rfl
  omega

theorem State.reset_queueSound : State.reset.QueueSound := State.queueSound_empty rfl

/-- A cold start out of the reset state is that state again. -/
theorem State.reset_coldStart : State.reset.coldStart 0 = State.reset := rfl

theorem State.reset_restSound : State.reset.RestSound := by
  rw [← State.reset_coldStart]
  exact State.coldStart_restSound 0

/-- Settles O5, law by law. -/
theorem resetMeetsTheLaws : Obligations.ResetMeetsTheLaws := by
  obtain ⟨hvoids, hday⟩ := State.reset_voidsSound_daySound
  exact ⟨State.reset_alarmSound, State.reset_lampsSound, State.reset_tableSound, State.reset_numbersSound,
    State.reset_fallbackSound, State.reset_spoilsSound, State.reset_queueSound, State.reset_restSound,
    hvoids, hday, State.reset_accountsSound, State.reset_settingsSound⟩

end Sys2Proof.Machine
end

section
/-!
The queue of waiting commands: what leaves it alone, operation by operation (O2). Only `step` takes a command
from it.
-/

namespace Sys2Proof.Machine

variable (s : State)

/-! ## Frames, flags and conditions -/

@[simp] theorem State.sound_pending (port : Port) : (s.sound port).pending = s.pending := s.modPort_pending ..

@[simp] theorem State.accept_pending (port : Port) (kind : Byte) (tag : Tag) (fields : List Byte) :
    (s.accept port kind tag fields).pending = s.pending := s.send_pending ..

@[simp] theorem State.reply_pending (port : Port) (kind : Byte) (tag : Tag) (body : List Byte) :
    (s.reply port kind tag body).pending = s.pending := s.send_pending ..

@[simp] theorem State.refuse_pending (port : Port) (code : Code) (kind : Byte) (tag : Tag) :
    (s.refuse port code kind tag).pending = s.pending := s.send_pending ..

@[simp] theorem State.flagShift_pending (w : Window) : (s.flagShift w).pending = s.pending := rfl

@[simp] theorem State.sendShiftState_pending (w : Window) : (s.sendShiftState w).pending = s.pending := rfl

@[simp] theorem State.clearFlags_pending : s.clearFlags.pending = s.pending := rfl

@[simp] theorem State.acknowledge_pending (number : Nat) : (s.acknowledge number).pending = s.pending := rfl

@[simp] theorem State.endCondition_pending (a : Source) (k : Kind) : (s.endCondition a k).pending = s.pending := rfl

@[simp] theorem State.outputs_pending : s.outputs.pending = s.pending := rfl

/-- The end of a step is bookkeeping. -/
@[simp] theorem State.commit_pending (before : State) (told : List Occurrence) :
    (s.commit before told).pending = s.pending := congrArg (·.pending) (s.commit_bare before told)

@[simp] theorem State.protocol_pending (p : PrinterId) : (s.protocol p).pending = s.pending := s.commit_pending ..

@[simp] theorem State.framingFault_pending (port : Port) (frames : List Frame) :
    (s.framingFault port frames).pending = s.pending := by
  simp [State.framingFault]

/-! ## Blanks and packs -/

@[simp] theorem State.returnBlank_pending (pack serial : Nat) : (s.returnBlank pack serial).pending = s.pending := rfl

@[simp] theorem State.makeSafe_pending (pack : Nat) : (s.makeSafe pack).pending = s.pending := rfl

@[simp] theorem State.writeRun_pending (pack first count : Nat) (cause : Cause) (printer : Option PrinterId)
    (charged : Option JobRef) : (s.writeRun pack first count cause printer charged).pending = s.pending := by
  cases charged <;> rfl

@[simp] theorem State.spoilRange_pending (p : PrinterId) (pack first : Nat) (charges : List (Option JobRef)) :
    (s.spoilRange p pack first charges).pending = s.pending := by
  unfold State.spoilRange
  induction runsOf first charges generalizing s with
  | nil => rfl
  | cons r runs ih => exact (ih _).trans (s.writeRun_pending ..)

@[simp] theorem State.emptyPrinter_pending (p : PrinterId) : (s.emptyPrinter p).pending = s.pending := rfl

@[simp] theorem State.writeOff_pending (k : Pack) : (s.writeOff k).pending = s.pending := by
  unfold State.writeOff
  dsimp only
  rw [State.modPack_pending]
  split
  · exact s.writeRun_pending ..
  · rfl

@[simp] theorem State.spoilOut_pending (p : PrinterId) : (s.spoilOut p).pending = s.pending := by
  unfold State.spoilOut
  split
  · exact s.spoilRange_pending ..
  · rfl

@[simp] theorem State.compromise_pending (p : PrinterId) : (s.compromise p).pending = s.pending := by
  unfold State.compromise
  dsimp only
  rw [State.emptyPrinter_pending]
  split <;> rfl

@[simp] theorem State.settleRange_pending (p : PrinterId) (g : Range) (n : Nat) :
    (s.settleRange p g n).pending = s.pending := s.spoilRange_pending ..

@[simp] theorem State.markDay_pending : s.markDay.pending = s.pending := rfl

@[simp] theorem State.clearMarkers_pending (pack : Nat) : (s.clearMarkers pack).pending = s.pending := rfl

/-! ## Tickets -/

@[simp] theorem State.releaseTicket_pending (f : Ticket) : (s.releaseTicket f).pending = s.pending := by
  unfold State.releaseTicket
  split <;> rfl

@[simp] theorem State.backOff_pending (p : PrinterId) (owner : Option JobRef) :
    (s.backOff p owner).pending = s.pending := rfl

@[simp] theorem State.holdIf_pending (p : PrinterId) (differs : Bool) : (s.holdIf p differs).pending = s.pending := rfl

@[simp] theorem State.ticketEnds_pending (p : PrinterId) (f : Ticket) (o : TicketOutcome) (x : TestOutcome) :
    (s.ticketEnds p f o x).pending = s.pending := by
  unfold State.ticketEnds
  split
  · exact s.send_pending ..
  · split <;> rfl

@[simp] theorem State.loseTicket_pending (p : PrinterId) (f : Ticket) : (s.loseTicket p f).pending = s.pending := by
  simp [State.loseTicket]

@[simp] theorem State.loseTickets_pending (p : PrinterId) : (s.loseTickets p).pending = s.pending := by
  have hfold (l : List Ticket) (a : State) : (l.foldl (fun s f => s.loseTicket p f) a).pending = a.pending := by
    induction l generalizing a with
    | nil => rfl
    | cons f l ih => exact (ih _).trans (a.loseTicket_pending p f)
  exact hfold ..

@[simp] theorem State.withdrawStaged_pending (p : PrinterId) (f : Ticket) :
    (s.withdrawStaged p f).pending = s.pending := by
  simp [State.withdrawStaged]

@[simp] theorem State.countJam_pending (owner : Option JobRef) (k : Nat) : (s.countJam owner k).pending = s.pending := by
  cases owner <;> rfl

@[simp] theorem State.discardStaged_pending (p : PrinterId) (f : Ticket) (spoiled : Bool) :
    (s.discardStaged p f spoiled).pending = s.pending := by
  unfold State.discardStaged
  cases spoiled <;> simp

@[simp] theorem State.jam_pending (p : PrinterId) (f : Ticket) (k : Nat) : (s.jam p f k).pending = s.pending := by
  unfold State.jam
  dsimp only
  split <;> simp

@[simp] theorem State.printedJob_pending (p : PrinterId) (f : Ticket) (ref : JobRef) (read : Option Nat) :
    (s.printedJob p f ref read).pending = s.pending := by
  unfold State.printedJob
  dsimp only
  rw [State.holdIf_pending]
  split <;> rfl

@[simp] theorem State.printedTest_pending (p : PrinterId) (f : Ticket) (read : Option Nat) :
    (s.printedTest p f read).pending = s.pending := by
  simp [State.printedTest]

/-! ## Jobs and grants -/

@[simp] theorem State.endJobs_pending (chosen : Job → Bool) (e : Ending) :
    (s.endJobs chosen e).pending = s.pending := rfl

@[simp] theorem State.grantOne_pending (p : PrinterId) (k : Pack) : (s.grantOne p k).pending = s.pending := by
  unfold State.grantOne
  dsimp only
  rw [State.modPrinter_pending]
  split <;> rfl

/-! ## Lines and checks -/

@[simp] theorem State.sendLine_pending (p : PrinterId) (f : Frame) : (s.sendLine p f).pending = s.pending := rfl

@[simp] theorem State.endLoadCheck_pending (p : PrinterId) (c : LoadCheck) (o : LoadOutcome) :
    (s.endLoadCheck p c o).pending = s.pending := rfl

@[simp] theorem State.endUnloadCheck_pending (p : PrinterId) (c : UnloadCheck) (pack : Option Nat)
    (o : UnloadOutcome) : (s.endUnloadCheck p c pack o).pending = s.pending := rfl

@[simp] theorem State.endChecks_pending (p : PrinterId) : (s.endChecks p).pending = s.pending := by
  unfold State.endChecks
  cases s.printers[p].loadCheck with
  | none => dsimp only; split <;> rfl
  | some c => dsimp only; split <;> rfl

@[simp] theorem State.linkLoss_pending (p : PrinterId) (link : Link) : (s.linkLoss p link).pending = s.pending :=
  (State.endChecks_pending ..).trans (s.loseTickets_pending p)

@[simp] theorem State.forceDown_pending (p : PrinterId) : (s.forceDown p).pending = s.pending := by
  unfold State.forceDown
  cases s.printers[p].link with
  | up => exact s.linkLoss_pending ..
  | settling => rfl
  | jabber => rfl
  | down => rfl

@[simp] theorem State.load_pending (p : PrinterId) (c : LoadCheck) : (s.load p c).pending = s.pending := rfl

@[simp] theorem State.topLoad_pending (p : PrinterId) (c : LoadCheck) (k : Pack) (n : Nat) :
    (s.topLoad p c k n).pending = s.pending := by
  unfold State.topLoad
  split <;> simp

@[simp] theorem State.topUnload_pending (p : PrinterId) (c : UnloadCheck) (k : Pack) (n : Nat) :
    (s.topUnload p c k n).pending = s.pending := by
  unfold State.topUnload
  split
  · simp
  · split <;> simp

@[simp] theorem State.topRecover_pending (p : PrinterId) (g : Range) (n : Nat) :
    (s.topRecover p g n).pending = s.pending := by
  unfold State.topRecover
  split <;> simp

/-- R42: whichever operation a TOP ends. -/
theorem State.takeTop_pending {s b : State} {p : PrinterId} {n : Nat} (h : s.takeTop p n = some b) :
    b.pending = s.pending := by
  unfold State.takeTop at h
  dsimp only at h
  split at h
  · obtain ⟨k, -, rfl⟩ := Option.map_eq_some_iff.1 h
    exact s.topLoad_pending ..
  · split at h
    · obtain ⟨k, -, rfl⟩ := Option.map_eq_some_iff.1 h
      exact s.topUnload_pending ..
    · split at h
      · obtain ⟨g, -, hg⟩ := Option.bind_eq_some_iff.1 h
        obtain ⟨k, -, rfl⟩ := Option.map_eq_some_iff.1 hg
        exact s.topRecover_pending ..
      · cases h

/-! ## Settings and starts -/

theorem State.writeEntry_pending (body : List Byte) : Leaves (s.writeEntry body) (·.pending = s.pending) := by
  unfold State.writeEntry
  split
  · exact .need fun _ => .need fun _ => .pure rfl
  · exact .need fun _ => .need fun _ => .want fun _ _ => .need fun _ => .pure rfl
  · exact .want fun _ _ => .pure rfl
  · unfold State.writeFallback
    split
    · exact .pure rfl
    · exact .want fun _ _ => .need fun _ => .pure rfl
  · exact .pure rfl
  · exact .pure rfl

/-- R186, R187: either start keeps what waits. -/
@[simp] theorem State.startAs_pending (kind : StartKind) (straps : Straps) :
    (s.startAs kind straps).pending = s.pending := by
  cases kind <;> rfl

end Sys2Proof.Machine
end

section
/-! No command changes the queue of waiting commands; a step takes its front (O1, O2). -/

namespace Sys2Proof.Machine

variable {s : State}

/-! ## The shells of the commands -/

/-- An answer whose state, if any, has the queue of waiting commands of `s`. -/
def State.KeepsPending (s : State) (a : Answer) : Prop := ∀ t, a = .next t → t.pending = s.pending

theorem State.KeepsPending.next {t : State} (h : t.pending = s.pending) : s.KeepsPending (.next t) := by
  rintro _ ⟨⟩
  exact h

theorem State.KeepsPending.fault (f : Fault) : s.KeepsPending (.fault f) := by rintro _ ⟨⟩

theorem State.answer_pending {port : Port} {kind : Byte} {tag : Tag} {r : Except Code State}
    (h : Leaves r (·.pending = s.pending)) : (s.answer port kind tag r).pending = s.pending := by
  cases r with
  | error code => exact s.refuse_pending ..
  | ok t => exact h t rfl

theorem windowCommand_keepsPending {kind : Byte} {lo hi : Nat} {port : Port} {tag : Tag} {body : List Byte}
    {act : Window → State → Except Code State} (h : ∀ w a, Leaves (act w a) (·.pending = a.pending)) :
    s.KeepsPending (windowCommand kind lo hi port tag body s act) := by
  refine .next ?_
  split
  · refine (State.answer_pending fun t ht => ?_).trans (s.sound_pending port)
    cases port with
    | supervisor => cases ht
    | window w =>
      dsimp only at ht
      split at ht
      · exact h w _ t ht
      · cases ht
  · rfl

theorem supervisorCommand_keepsPending {kind : Byte} {lo hi : Nat} {port : Port} {tag : Tag} {body : List Byte}
    {act : State → Except Code State} (h : ∀ a, Leaves (act a) (·.pending = a.pending)) :
    s.KeepsPending (supervisorCommand kind lo hi port tag body s act) := by
  refine .next ?_
  split
  · refine (State.answer_pending fun t ht => ?_).trans (s.sound_pending port)
    cases port with
    | window w => cases ht
    | supervisor =>
      dsimp only at ht
      split at ht
      · exact h _ t ht
      · cases ht
  · rfl

theorem printerFrame_keepsPending {p : PrinterId} {n : Nat} {body : List Byte} {act : State → Option State}
    (h : ∀ b, act s = some b → b.pending = s.pending) : s.KeepsPending (printerFrame p n body s act) := by
  refine .next ?_
  split
  · split
    · cases ha : act s with
      | none => exact s.protocol_pending p
      | some b => exact h b ha
    · exact s.protocol_pending p
  · rfl

theorem event_keepsPending {occurs : Bool} {act : State → State} (h : (act s).pending = s.pending) :
    s.KeepsPending (event s occurs act) := by
  refine .next ?_
  split
  · exact h
  · rfl

/-- An event that ends its step. -/
theorem event_keepsPending_ended {occurs : Bool} {f : State → State} {told : State → List Occurrence}
    (h : (f s).pending = s.pending) : s.KeepsPending (event s occurs fun s => (f s).commit s (told s)) :=
  event_keepsPending ((State.commit_pending ..).trans h)

/-- The event of a wait that does not run. -/
theorem event_keepsPending_never : s.KeepsPending (event s false id) := event_keepsPending rfl

/-! ## Commands of the windows and the supervisor -/

theorem execOpenShift_keepsPending (port : Port) (tag : Tag) (body : List Byte) :
    s.KeepsPending (execOpenShift port tag body s) :=
  windowCommand_keepsPending fun _ _ => .need fun _ => .need fun _ => .pure (by simp)

theorem execIssue_keepsPending (port : Port) (tag : Tag) (body : List Byte) :
    s.KeepsPending (execIssue port tag body s) :=
  windowCommand_keepsPending fun _ _ => .bind fun _ _ => .pure (by simp)

theorem execCancel_keepsPending (port : Port) (tag : Tag) (body : List Byte) :
    s.KeepsPending (execCancel port tag body s) :=
  windowCommand_keepsPending fun _ _ => .need fun _ => .pure (by simp)

theorem execVoid_keepsPending (port : Port) (tag : Tag) (body : List Byte) :
    s.KeepsPending (execVoid port tag body s) :=
  windowCommand_keepsPending fun _ _ => .need fun _ => .want fun _ _ => .want fun _ _ => .want fun _ _ =>
    .need fun _ => .need fun _ => .need fun _ => .pure (by simp)

theorem execRefund_keepsPending (port : Port) (tag : Tag) (body : List Byte) :
    s.KeepsPending (execRefund port tag body s) :=
  windowCommand_keepsPending fun _ _ => .need fun _ => .need fun _ => .want fun _ _ => .want fun _ _ =>
    .need fun _ => .pure (by simp)

theorem execCloseShift_keepsPending (port : Port) (tag : Tag) (body : List Byte) :
    s.KeepsPending (execCloseShift port tag body s) :=
  windowCommand_keepsPending fun _ _ => .need fun _ => .pure (by simp)

theorem execDeclare_keepsPending (port : Port) (tag : Tag) (body : List Byte) :
    s.KeepsPending (execDeclare port tag body s) :=
  windowCommand_keepsPending fun _ _ => .need fun _ => .pure (by simp)

theorem execQueryShift_keepsPending (port : Port) (tag : Tag) (body : List Byte) :
    s.KeepsPending (execQueryShift port tag body s) :=
  windowCommand_keepsPending fun _ _ => .pure (by simp)

theorem execReceivePack_keepsPending (port : Port) (tag : Tag) (body : List Byte) :
    s.KeepsPending (execReceivePack port tag body s) :=
  supervisorCommand_keepsPending fun _ => .need fun _ => .want fun _ _ => .need fun _ => .need fun _ =>
    .need fun _ => .pure (by simp)

theorem execLoadPack_keepsPending (port : Port) (tag : Tag) (body : List Byte) :
    s.KeepsPending (execLoadPack port tag body s) :=
  supervisorCommand_keepsPending fun _ => .want fun _ _ => .want fun _ _ => .need fun _ => .need fun _ =>
    .need fun _ => .need fun _ => .pure (by simp)

theorem execUnloadPack_keepsPending (port : Port) (tag : Tag) (body : List Byte) :
    s.KeepsPending (execUnloadPack port tag body s) :=
  supervisorCommand_keepsPending fun _ => .want fun _ _ => .need fun _ => .need fun _ => .pure (by simp)

theorem execForceUnload_keepsPending (port : Port) (tag : Tag) (body : List Byte) :
    s.KeepsPending (execForceUnload port tag body s) :=
  supervisorCommand_keepsPending fun _ => .want fun _ _ => .need fun _ => .need fun _ => .pure (by simp)

theorem execWriteOffPack_keepsPending (port : Port) (tag : Tag) (body : List Byte) :
    s.KeepsPending (execWriteOffPack port tag body s) :=
  supervisorCommand_keepsPending fun _ => .want fun _ _ => .need fun _ => .need fun _ => .pure (by simp)

theorem execRetirePack_keepsPending (port : Port) (tag : Tag) (body : List Byte) :
    s.KeepsPending (execRetirePack port tag body s) :=
  supervisorCommand_keepsPending fun _ => .want fun _ _ => .need fun _ => .pure (by simp)

theorem execReadPack_keepsPending (port : Port) (tag : Tag) (body : List Byte) :
    s.KeepsPending (execReadPack port tag body s) :=
  supervisorCommand_keepsPending fun _ => .bind fun _ _ => .pure (by simp)

theorem execTestPrint_keepsPending (port : Port) (tag : Tag) (body : List Byte) :
    s.KeepsPending (execTestPrint port tag body s) :=
  supervisorCommand_keepsPending fun _ => .want fun _ _ => .want fun _ _ => .need fun _ => .need fun _ =>
    .need fun _ => .pure (by simp)

theorem execSetService_keepsPending (port : Port) (tag : Tag) (body : List Byte) :
    s.KeepsPending (execSetService port tag body s) :=
  supervisorCommand_keepsPending fun _ => .want fun _ _ => .need fun _ => .need fun _ => .pure (by simp)

theorem execResetLine_keepsPending (port : Port) (tag : Tag) (body : List Byte) :
    s.KeepsPending (execResetLine port tag body s) :=
  supervisorCommand_keepsPending fun _ => .want fun _ _ => .pure (by simp)

theorem execResolveDispute_keepsPending (port : Port) (tag : Tag) (body : List Byte) :
    s.KeepsPending (execResolveDispute port tag body s) :=
  supervisorCommand_keepsPending fun _ => .want fun _ _ => .need fun _ => .need fun _ => .want fun _ _ =>
    .need fun _ => .bind fun pack _ => .pure <| by cases pack <;> simp

theorem execReadSpoils_keepsPending (port : Port) (tag : Tag) (body : List Byte) :
    s.KeepsPending (execReadSpoils port tag body s) :=
  supervisorCommand_keepsPending fun _ => .need fun _ => .pure (by simp)

theorem execReadEntries_keepsPending (port : Port) (tag : Tag) (body : List Byte) :
    s.KeepsPending (execReadEntries port tag body s) :=
  supervisorCommand_keepsPending fun _ => .need fun _ => .want fun _ _ => .need fun _ => .need fun _ =>
    .pure (by simp)

theorem execReadShift_keepsPending (port : Port) (tag : Tag) (body : List Byte) :
    s.KeepsPending (execReadShift port tag body s) :=
  supervisorCommand_keepsPending fun _ => .want fun _ _ => .pure (by simp)

theorem execReopenCount_keepsPending (port : Port) (tag : Tag) (body : List Byte) :
    s.KeepsPending (execReopenCount port tag body s) :=
  supervisorCommand_keepsPending fun _ => .want fun _ _ => .need fun _ => .pure (by simp)

theorem execSignOff_keepsPending (port : Port) (tag : Tag) (body : List Byte) :
    s.KeepsPending (execSignOff port tag body s) :=
  supervisorCommand_keepsPending fun _ => .want fun _ _ => .need fun _ => .need fun _ => .pure (by simp)

theorem execOpenDay_keepsPending (port : Port) (tag : Tag) (body : List Byte) :
    s.KeepsPending (execOpenDay port tag body s) :=
  supervisorCommand_keepsPending fun _ => .need fun _ => .pure (by simp)

/-- R145, R146: a closed day empties shifts and spoils, not what waits. -/
theorem execCloseDay_keepsPending (port : Port) (tag : Tag) (body : List Byte) :
    s.KeepsPending (execCloseDay port tag body s) :=
  supervisorCommand_keepsPending fun a => .need fun _ => .pure <|
    (State.commit_pending ..).trans (by rw [State.accept_pending, State.dayClosed_eq])

theorem execNextFault_keepsPending (port : Port) (tag : Tag) (body : List Byte) :
    s.KeepsPending (execNextFault port tag body s) := supervisorCommand_keepsPending fun _ => .pure (by simp)

theorem execReadFault_keepsPending (port : Port) (tag : Tag) (body : List Byte) :
    s.KeepsPending (execReadFault port tag body s) :=
  supervisorCommand_keepsPending fun _ => .want fun _ _ => .pure (by simp)

theorem execAckFault_keepsPending (port : Port) (tag : Tag) (body : List Byte) :
    s.KeepsPending (execAckFault port tag body s) :=
  supervisorCommand_keepsPending fun _ => .want fun _ _ => .pure (by simp)

theorem execReadChanges_keepsPending (port : Port) (tag : Tag) (body : List Byte) :
    s.KeepsPending (execReadChanges port tag body s) := supervisorCommand_keepsPending fun _ => .pure (by simp)

theorem execSilenceAlarm_keepsPending (port : Port) (tag : Tag) (body : List Byte) :
    s.KeepsPending (execSilenceAlarm port tag body s) := supervisorCommand_keepsPending fun _ => .pure (by simp)

theorem execSelectEntry_keepsPending (port : Port) (tag : Tag) (body : List Byte) :
    s.KeepsPending (execSelectEntry port tag body s) :=
  supervisorCommand_keepsPending fun _ => .want fun _ _ => .pure (by simp)

theorem execReadEntry_keepsPending (port : Port) (tag : Tag) (body : List Byte) :
    s.KeepsPending (execReadEntry port tag body s) := supervisorCommand_keepsPending fun _ => .pure (by simp)

theorem execWriteEntry_keepsPending (port : Port) (tag : Tag) (body : List Byte) :
    s.KeepsPending (execWriteEntry port tag body s) :=
  supervisorCommand_keepsPending fun a => .bind fun t ht => .pure <| by
    have hwritten : t.pending = a.pending := a.writeEntry_pending body t ht
    simp [hwritten]

theorem execSetClock_keepsPending (port : Port) (tag : Tag) (body : List Byte) :
    s.KeepsPending (execSetClock port tag body s) :=
  supervisorCommand_keepsPending fun _ => .need fun _ => .pure (by simp)

theorem execReadOffice_keepsPending (port : Port) (tag : Tag) (body : List Byte) :
    s.KeepsPending (execReadOffice port tag body s) := supervisorCommand_keepsPending fun _ => .pure (by simp)

/-! ## Terminal ports -/

theorem execUnknownKind_keepsPending (port : Port) (kind : Byte) (tag : Tag) :
    s.KeepsPending (execUnknownKind port kind tag s) := by
  unfold execUnknownKind
  split
  · exact .fault _
  · refine .next ?_
    split
    · simp
    · rfl

theorem execFrameError_keepsPending (port : Port) (cause : FramingFault) :
    s.KeepsPending (execFrameError port cause s) := by
  unfold execFrameError
  split
  · exact .fault _
  · refine .next ?_
    split
    · cases cause with
      | badStart b =>
        dsimp only
        split
        · exact s.framingFault_pending ..
        · rfl
      | badLength l => exact s.framingFault_pending ..
      | badCheck kind tag body check => exact s.framingFault_pending ..
    · rfl

theorem execFrameGap_keepsPending (port : Port) : s.KeepsPending (execFrameGap port s) :=
  event_keepsPending (s.framingFault_pending ..)

theorem execLineBreak_keepsPending (port : Port) : s.KeepsPending (execLineBreak port s) :=
  event_keepsPending <| by cases port <;> simp

theorem execAttach_keepsPending (port : Port) : s.KeepsPending (execAttach port s) :=
  event_keepsPending <| by cases port <;> simp

theorem execFrameSent_keepsPending (port : Port) : s.KeepsPending (execFrameSent port s) :=
  event_keepsPending (s.modPort_pending ..)

/-! ## Printer frames -/

theorem execCapability_keepsPending (p : PrinterId) (tag : Tag) (body : List Byte) :
    s.KeepsPending (execCapability p tag body s) :=
  printerFrame_keepsPending fun _ h => by
    cases h
    rw [State.commit_pending]
    split <;> rfl

theorem execStatus_keepsPending (p : PrinterId) (tag : Tag) (body : List Byte) :
    s.KeepsPending (execStatus p tag body s) :=
  printerFrame_keepsPending fun _ h => by
    cases h
    simp

theorem execPrinted_keepsPending (p : PrinterId) (tag : Tag) (body : List Byte) :
    s.KeepsPending (execPrinted p tag body s) :=
  printerFrame_keepsPending fun b h => by
    dsimp only at h
    split at h
    · split at h
      · split at h
        · cases h
          simp
        · cases h
          simp
      · cases h
    · cases h

theorem execJammed_keepsPending (p : PrinterId) (tag : Tag) (body : List Byte) :
    s.KeepsPending (execJammed p tag body s) :=
  printerFrame_keepsPending fun _ h => by
    split at h
    · split at h
      · cases h
        simp
      · cases h
    · cases h

theorem execWithdrawn_keepsPending (p : PrinterId) (tag : Tag) (body : List Byte) :
    s.KeepsPending (execWithdrawn p tag body s) :=
  printerFrame_keepsPending fun _ h => by
    split at h
    · split at h
      · split at h
        · cases h
          simp
        · cases h
      · cases h
        simp
    · cases h

theorem execTooLate_keepsPending (p : PrinterId) (tag : Tag) (body : List Byte) :
    s.KeepsPending (execTooLate p tag body s) :=
  printerFrame_keepsPending fun _ h => by
    dsimp only at h
    split at h
    · split at h
      · split at h
        · cases h
          simp
        · cases h
      · cases h
        simp
    · cases h

theorem execTop_keepsPending (p : PrinterId) (tag : Tag) (body : List Byte) :
    s.KeepsPending (execTop p tag body s) := printerFrame_keepsPending fun _ h => State.takeTop_pending h

/-! ## Printer lines -/

theorem execPrinterFrameError_keepsPending (p : PrinterId) (cause : FramingFault) :
    s.KeepsPending (execPrinterFrameError p cause s) := by
  unfold execPrinterFrameError
  split
  · exact .fault _
  · exact event_keepsPending (s.protocol_pending p)

theorem execPrinterFrameGap_keepsPending (p : PrinterId) : s.KeepsPending (execPrinterFrameGap p s) :=
  event_keepsPending (s.protocol_pending p)

theorem execPrinterUnknownKind_keepsPending (p : PrinterId) (kind : Byte) :
    s.KeepsPending (execPrinterUnknownKind p kind s) := by
  unfold execPrinterUnknownKind
  split
  · exact .fault _
  · exact event_keepsPending (s.protocol_pending p)

theorem execIdleMark_keepsPending (p : PrinterId) : s.KeepsPending (execIdleMark p s) := event_keepsPending_ended rfl

theorem execLinkGap_keepsPending (p : PrinterId) (cause : GapCause) : s.KeepsPending (execLinkGap p cause s) := by
  unfold execLinkGap
  split
  · exact event_keepsPending_ended rfl
  · exact event_keepsPending rfl
  · exact event_keepsPending_never
  · exact event_keepsPending_never

theorem execSettleTimer_keepsPending (p : PrinterId) : s.KeepsPending (execSettleTimer p s) :=
  event_keepsPending_ended rfl

theorem execSilenceTimer_keepsPending (p : PrinterId) : s.KeepsPending (execSilenceTimer p s) :=
  event_keepsPending_ended (s.linkLoss_pending ..)

theorem execJabber_keepsPending (p : PrinterId) : s.KeepsPending (execJabber p s) :=
  event_keepsPending_ended (s.linkLoss_pending ..)

theorem execJabberQuiet_keepsPending (p : PrinterId) : s.KeepsPending (execJabberQuiet p s) :=
  event_keepsPending_ended rfl

/-! ## Printer timers -/

theorem execCapabilityWait_keepsPending (p : PrinterId) : s.KeepsPending (execCapabilityWait p s) :=
  event_keepsPending_ended rfl

theorem execPrintTimer_keepsPending (p : PrinterId) : s.KeepsPending (execPrintTimer p s) := by
  unfold execPrintTimer
  split
  · exact event_keepsPending_ended (s.loseTickets_pending p)
  · exact event_keepsPending_never

theorem execPauseTimer_keepsPending (p : PrinterId) : s.KeepsPending (execPauseTimer p s) := by
  unfold execPauseTimer
  split
  · exact event_keepsPending_ended rfl
  · exact event_keepsPending_never

theorem execWithdrawalTimer_keepsPending (p : PrinterId) : s.KeepsPending (execWithdrawalTimer p s) :=
  event_keepsPending_ended rfl

theorem execQueryTimer_keepsPending (p : PrinterId) : s.KeepsPending (execQueryTimer p s) := by
  unfold execQueryTimer
  split
  · exact event_keepsPending rfl
  · exact event_keepsPending_ended rfl
  · exact event_keepsPending_never

theorem execLoadAnswerTimer_keepsPending (p : PrinterId) : s.KeepsPending (execLoadAnswerTimer p s) := by
  unfold execLoadAnswerTimer
  split
  · refine event_keepsPending ?_
    split <;> simp
  · exact event_keepsPending_never

theorem execUnloadAnswerTimer_keepsPending (p : PrinterId) : s.KeepsPending (execUnloadAnswerTimer p s) := by
  unfold execUnloadAnswerTimer
  split
  · refine event_keepsPending ?_
    split <;> simp
  · exact event_keepsPending_never

/-! ## The queue and the pool -/

theorem execGrant_keepsPending (p : PrinterId) : s.KeepsPending (execGrant p s) :=
  event_keepsPending <| by
    split
    · exact (State.commit_pending ..).trans (State.grantOne_pending ..)
    · rfl

theorem execJobWait_keepsPending (w : Window) (tag : Tag) : s.KeepsPending (execJobWait w tag s) := by
  unfold execJobWait
  dsimp only
  split
  · exact event_keepsPending_ended rfl
  · exact event_keepsPending_never

theorem execRouteWait_keepsPending (w : Window) (tag : Tag) : s.KeepsPending (execRouteWait w tag s) := by
  unfold execRouteWait
  dsimp only
  split
  · exact event_keepsPending rfl
  · exact event_keepsPending_never

/-! ## The box -/

theorem execAlarmIn_keepsPending (active : Bool) : s.KeepsPending (execAlarmIn active s) :=
  event_keepsPending_ended rfl

theorem execActivityPulse_keepsPending (p : PrinterId) : s.KeepsPending (execActivityPulse p s) :=
  event_keepsPending rfl

theorem execFlash_keepsPending (p : PrinterId) : s.KeepsPending (execFlash p s) := event_keepsPending rfl

theorem execClockPulse_keepsPending : s.KeepsPending (execClockPulse s) := .next rfl

theorem execResetAsserted_keepsPending : s.KeepsPending (execResetAsserted s) :=
  .next <| by dsimp only; split <;> rfl

theorem execResetReleased_keepsPending (straps : Straps) : s.KeepsPending (execResetReleased straps s) := by
  refine .next ?_
  dsimp only
  split
  · exact State.startAs_pending ..
  · rfl
  · rfl

theorem execPowerUp_keepsPending (backupGood : Bool) (straps : Straps) :
    s.KeepsPending (execPowerUp backupGood straps s) := by
  refine .next ?_
  split
  · split
    · rfl
    · exact s.startAs_pending ..
  · rfl

theorem execPowerFail_keepsPending : s.KeepsPending (execPowerFail s) := .next <| by split <;> rfl

/-! ## Every command, every step -/

theorem exec_keepsPending (i : Instr) : s.KeepsPending (exec i s) := by
  cases i with
  | openShift port tag body => exact execOpenShift_keepsPending port tag body
  | issue port tag body => exact execIssue_keepsPending port tag body
  | cancel port tag body => exact execCancel_keepsPending port tag body
  | void port tag body => exact execVoid_keepsPending port tag body
  | refund port tag body => exact execRefund_keepsPending port tag body
  | closeShift port tag body => exact execCloseShift_keepsPending port tag body
  | declare port tag body => exact execDeclare_keepsPending port tag body
  | queryShift port tag body => exact execQueryShift_keepsPending port tag body
  | receivePack port tag body => exact execReceivePack_keepsPending port tag body
  | loadPack port tag body => exact execLoadPack_keepsPending port tag body
  | unloadPack port tag body => exact execUnloadPack_keepsPending port tag body
  | forceUnload port tag body => exact execForceUnload_keepsPending port tag body
  | writeOffPack port tag body => exact execWriteOffPack_keepsPending port tag body
  | retirePack port tag body => exact execRetirePack_keepsPending port tag body
  | readPack port tag body => exact execReadPack_keepsPending port tag body
  | testPrint port tag body => exact execTestPrint_keepsPending port tag body
  | setService port tag body => exact execSetService_keepsPending port tag body
  | resetLine port tag body => exact execResetLine_keepsPending port tag body
  | resolveDispute port tag body => exact execResolveDispute_keepsPending port tag body
  | readSpoils port tag body => exact execReadSpoils_keepsPending port tag body
  | readEntries port tag body => exact execReadEntries_keepsPending port tag body
  | readShift port tag body => exact execReadShift_keepsPending port tag body
  | reopenCount port tag body => exact execReopenCount_keepsPending port tag body
  | signOff port tag body => exact execSignOff_keepsPending port tag body
  | openDay port tag body => exact execOpenDay_keepsPending port tag body
  | closeDay port tag body => exact execCloseDay_keepsPending port tag body
  | nextFault port tag body => exact execNextFault_keepsPending port tag body
  | readFault port tag body => exact execReadFault_keepsPending port tag body
  | ackFault port tag body => exact execAckFault_keepsPending port tag body
  | readChanges port tag body => exact execReadChanges_keepsPending port tag body
  | silenceAlarm port tag body => exact execSilenceAlarm_keepsPending port tag body
  | selectEntry port tag body => exact execSelectEntry_keepsPending port tag body
  | readEntry port tag body => exact execReadEntry_keepsPending port tag body
  | writeEntry port tag body => exact execWriteEntry_keepsPending port tag body
  | setClock port tag body => exact execSetClock_keepsPending port tag body
  | readOffice port tag body => exact execReadOffice_keepsPending port tag body
  | unknownKind port kind tag => exact execUnknownKind_keepsPending port kind tag
  | frameError port cause => exact execFrameError_keepsPending port cause
  | frameGap port => exact execFrameGap_keepsPending port
  | lineBreak port => exact execLineBreak_keepsPending port
  | attach port => exact execAttach_keepsPending port
  | capability printer tag body => exact execCapability_keepsPending printer tag body
  | status printer tag body => exact execStatus_keepsPending printer tag body
  | printed printer tag body => exact execPrinted_keepsPending printer tag body
  | jammed printer tag body => exact execJammed_keepsPending printer tag body
  | withdrawn printer tag body => exact execWithdrawn_keepsPending printer tag body
  | tooLate printer tag body => exact execTooLate_keepsPending printer tag body
  | top printer tag body => exact execTop_keepsPending printer tag body
  | printerFrameError printer cause => exact execPrinterFrameError_keepsPending printer cause
  | printerFrameGap printer => exact execPrinterFrameGap_keepsPending printer
  | idleMark printer => exact execIdleMark_keepsPending printer
  | linkGap printer cause => exact execLinkGap_keepsPending printer cause
  | settleTimer printer => exact execSettleTimer_keepsPending printer
  | silenceTimer printer => exact execSilenceTimer_keepsPending printer
  | jabber printer => exact execJabber_keepsPending printer
  | jabberQuiet printer => exact execJabberQuiet_keepsPending printer
  | capabilityWait printer => exact execCapabilityWait_keepsPending printer
  | printTimer printer => exact execPrintTimer_keepsPending printer
  | pauseTimer printer => exact execPauseTimer_keepsPending printer
  | withdrawalTimer printer => exact execWithdrawalTimer_keepsPending printer
  | queryTimer printer => exact execQueryTimer_keepsPending printer
  | loadAnswerTimer printer => exact execLoadAnswerTimer_keepsPending printer
  | unloadAnswerTimer printer => exact execUnloadAnswerTimer_keepsPending printer
  | grant printer => exact execGrant_keepsPending printer
  | jobWait window tag => exact execJobWait_keepsPending window tag
  | routeWait window tag => exact execRouteWait_keepsPending window tag
  | clockPulse => exact execClockPulse_keepsPending
  | alarmIn active => exact execAlarmIn_keepsPending active
  | activityPulse printer => exact execActivityPulse_keepsPending printer
  | flash printer => exact execFlash_keepsPending printer
  | resetAsserted => exact execResetAsserted_keepsPending
  | resetReleased straps => exact execResetReleased_keepsPending straps
  | powerUp backupGood straps => exact execPowerUp_keepsPending backupGood straps
  | powerFail => exact execPowerFail_keepsPending
  | printerUnknownKind printer kind => exact execPrinterUnknownKind_keepsPending printer kind
  | frameSent port => exact execFrameSent_keepsPending port

/-- Settles O2: every command answers by changes that leave the queue alone, the starts included. -/
theorem commandsLeaveQueue : Obligations.CommandsLeaveQueue := fun c _ t h => exec_keepsPending c t h

/-- Settles O1, the case split of `step` on the queue. -/
theorem stepRunsFrontCommand : Obligations.StepRunsFrontCommand := by
  refine ⟨fun s c rest hqueue => ?_, fun s hidle => ?_⟩
  · unfold step
    rw [hqueue]
  · unfold step
    rw [hidle]

end Sys2Proof.Machine
end
